-- ==== Sys2Proof/Word.lean ====
section
/-! DEFINITION. The bytes and 16-bit fields that frames carry (chapter 11). Everything else of the model is a count, a
name or a record, not a bit vector. -/

namespace Sys2Proof

/-- One byte of a frame. -/
abbrev Byte := BitVec 8

/-- A two-byte field of a frame, most significant byte first on the line (R189). -/
abbrev Half := BitVec 16

end Sys2Proof
end

