-- ==== Sys2Proof/Config.lean ====
section
/-! DEFINITION. The fixed sizes and the ranges of the settings, each from the rule named beside it, and the one free value
of the model, a constant without a body: the CRC of an image's content (R178), for which the spec gives no polynomial. -/

namespace Sys2Proof.Config

/-- The 16-bit CRC of a record's content (R178). The spec names no polynomial and no order of the bytes: the value is free
(log entry 19). -/
opaque crc16 {α : Type} (content : α) : Half

/-- A range whose two ends belong to it ("Numbers, units and ranges" of 00_scope). -/
structure Range where
  lo : Nat
  hi : Nat
  deriving DecidableEq, Repr

/-- A setting outside its range is taken to the nearer end (R3, R30, R32, R84, R86, R144). -/
def Range.clamp (r : Range) (n : Nat) : Nat := if n < r.lo then r.lo else if r.hi < n then r.hi else n

/-- `n` lies within the range. -/
def Range.holds (r : Range) (n : Nat) : Bool := decide (r.lo ≤ n) && decide (n ≤ r.hi)

/-- R3. -/
def minOn : Range := ⟨60, 600⟩
/-- R3. -/
def cool : Range := ⟨60, 300⟩
/-- R3. -/
def warmupTime : Range := ⟨30, 120⟩
/-- R3. -/
def igniteTimeout : Range := ⟨2, 30⟩
/-- R3. -/
def strikeMax : Range := ⟨1, 6⟩
/-- R3. -/
def strikeWindow : Range := ⟨600, 7200⟩
/-- R30. -/
def strikeWear : Range := ⟨0, 2400⟩
/-- R84. -/
def switchTimeout : Range := ⟨2, 10⟩
/-- R84. -/
def nosigDim : Range := ⟨0, 600⟩
/-- R84. -/
def nosigOff : Range := ⟨0, 3600⟩
/-- R144. -/
def manualSpan : Range := ⟨30, 480⟩
/-- R144. -/
def manualExt : Range := ⟨0, 4⟩
/-- R144. -/
def manualWarn : Range := ⟨0, 15⟩
/-- R144. -/
def extMinutes : Range := ⟨5, 30⟩
/-- R32. -/
def lampHours : Range := ⟨100, 65000⟩
/-- R86. -/
def panelW : Range := ⟨640, 4096⟩
/-- R86. -/
def panelH : Range := ⟨480, 2400⟩
/-- R56. -/
def timingLines : Range := ⟨200, 4095⟩
/-- R56. -/
def timingPeriod : Range := ⟨8000, 50000⟩
/-- R56. -/
def activeW : Range := ⟨320, 4096⟩
/-- R56. -/
def activeH : Range := ⟨200, 2400⟩

/-- The largest |v| of a keystone (R90, R92). -/
def keystoneV : Int := 40
/-- The largest |h| of a keystone (R90, R92). -/
def keystoneH : Int := 30

/-- R3: the retry gap, in seconds. -/
def retryGap : Nat := 5
/-- R3: the attempts of one ignition. -/
def attempts : Nat := 3
/-- R28: the units of one equivalent hour. -/
def unitsPerHour : Nat := 28800
/-- R28: the ceiling of the equivalent hours; R29: of the strike and failed-strike counts. -/
def count16Max : Nat := 65535
/-- R29: the ceiling of the lit seconds. -/
def litSecondsMax : Nat := 4294967295
/-- R42: the ceiling of the lit seconds since commit. -/
def sinceCommitMax : Nat := 360
/-- R19: the ceiling of the later-faults count. -/
def laterFaultsMax : Nat := 255
/-- R40: the records of the lamp history. -/
def historyMax : Nat := 8
/-- R81: the ceiling of the no-signal count. -/
def nosigCountMax : Nat := 3600
/-- R119: the confirm window, in seconds. -/
def confirmSeconds : Nat := 5
/-- R135: the dates of the holiday list. -/
def holidaysMax : Nat := 16
/-- R173: the notices of one port's queue. -/
def queueMax : Nat := 16
/-- R174: the notices one NOTICES_READ takes. -/
def noticesPerRead : Nat := 4
/-- R165: the bytes of one receive buffer. -/
def bufferMax : Nat := 256
/-- R164: the longest body. -/
def bodyMax : Nat := 64
/-- R164: the shortest body that can name a request. -/
def bodyMin : Nat := 3
/-- R53: the ceiling of the line count of a frame. -/
def lineCountMax : Nat := 65535
/-- The minutes of a day (R126, R129). -/
def dayMinutes : Nat := 1440
/-- R138: the minutes a late start must have left; R129: the shortest span. -/
def spanMin : Nat := 5
/-- R129: the last start minute. -/
def startMax : Nat := 1435
/-- R129: the longest warn lead. -/
def warnLeadMax : Nat := 15
/-- R129: the largest extension allowance. -/
def allowanceMax : Nat := 4

end Sys2Proof.Config
end

