-- ==== Sys2Proof/Syntax.lean ====
section
/-! DEFINITION. The commands: one constructor of `Instr` for each row of spec/opcode_table.json, with the raw operands
the line or the frame carries. Field encodings are those of chapter 11. -/

namespace Sys2Proof

/-- The three ports (R163). -/
inductive PortId where
  | e | l | f
  deriving DecidableEq, Repr

/-- The two UART ports (R163). -/
inductive UartId where
  | l | f
  deriving DecidableEq, Repr

/-- The port behind a UART. -/
def UartId.port : UartId → PortId
  | .l => .l
  | .f => .f

/-- A date as sent: year less 2000, month, day (R189). -/
structure RawDate where
  year : Byte
  month : Byte
  day : Byte
  deriving DecidableEq, Repr

/-- A time of day as sent (R189). -/
structure RawTime where
  hour : Byte
  minute : Byte
  second : Byte
  deriving DecidableEq, Repr

/-- KEYSTONE's fields: the mark bits that name nothing, the form, and the values carried (R92, R190). -/
structure RawKeystone where
  spare : BitVec 6
  form : Byte
  v : Option Byte
  h : Option Byte
  deriving DecidableEq, Repr

/-- The 15 bytes of a timetable entry (11.5). `day` holds the date, or in its first byte the day set. -/
structure RawEntry where
  enabled : Byte
  form : Byte
  day : RawDate
  start : Half
  stop : Half
  startAction : Byte
  endAction : Byte
  source : Byte
  level : Byte
  warnLead : Byte
  allowance : Byte
  deriving DecidableEq, Repr

/-- ENTRY_WRITE's fields: the mark bits that name nothing, the slot if carried, the entry (R130, R190). -/
structure RawEntryWrite where
  spare : BitVec 7
  slot : Option Byte
  entry : RawEntry
  deriving DecidableEq, Repr

/-- LAMP_LIMITS' fields (R32, R190). -/
structure RawLimits where
  spare : BitVec 6
  warn : Option Half
  life : Option Half
  deriving DecidableEq, Repr

/-- A label as sent: its length, then 12 character bytes (R189). -/
structure RawLabel where
  len : Byte
  chars : List Byte
  deriving DecidableEq, Repr

/-- INPUT_CONFIG's optional fields (R47, R190). -/
structure RawInputConfig where
  spare : BitVec 2
  kind : Option Byte
  enabled : Option Byte
  label : Option RawLabel
  priority : Option Byte
  aspect : Option Byte
  preset : Option (Byte × Byte)
  deriving DecidableEq, Repr

/-- The 12 bytes of a timing entry (11.5). -/
structure RawTiming where
  linesMin : Half
  linesMax : Half
  periodMin : Half
  periodMax : Half
  width : Half
  height : Half
  deriving DecidableEq, Repr

/-- GUARD_SET's settings in mark order, bits 0..17 (11.3). -/
structure RawGuard where
  spare : BitVec 6
  minOn : Option Half
  cool : Option Half
  warmupTime : Option Byte
  igniteTimeout : Option Byte
  strikeMax : Option Byte
  strikeWindow : Option Half
  strikeWear : Option Half
  switchTimeout : Option Byte
  nosigDim : Option Half
  nosigOff : Option Half
  autoDim : Option Byte
  autoscan : Option Byte
  powerOnInput : Option Byte
  manualSpan : Option Half
  manualLevel : Option Byte
  manualExt : Option Byte
  manualWarn : Option Byte
  extMinutes : Option Byte
  deriving DecidableEq, Repr

/-- The request classes (00_scope, "Request classes"). -/
inductive ReqClass where
  | power | picture | geometry | session | timetable | lampService | config | lockout | read
  deriving DecidableEq, Repr

/-- The requests of the table of 11.3, named by their codes. -/
inductive ReqKind where
  | powerOn | powerOff | lampMode | select | retrain | muteSet | keystone | presetStore | extendEnd | endSession
  | timeSet | entryWrite | entryDelete | holidayAdd | holidayRemove | lampReplace | lampLimits | lampCeiling
  | faultClear | inputConfig | timingLoad | panelSet | guardSet | subscribe | lockoutBase | presenterHold | service
  | statusRead | lampRead | historyRead | faultRead | inputRead | timingRead | geometryRead | entryRead | holidayRead
  | sessionRead | timeRead | noticesRead
  deriving DecidableEq, Repr

/-- A request with its fields, as a complete frame of the right length carries them. -/
inductive Request where
  | powerOn
  | powerOff
  | lampMode (mode : Byte)
  | select (input : Byte)
  | retrain (input : Byte)
  | muteSet (value : Byte)
  | keystone (k : RawKeystone)
  | presetStore
  | extendEnd
  | endSession
  | timeSet (date : RawDate) (time : RawTime)
  | entryWrite (w : RawEntryWrite)
  | entryDelete (slot : Byte)
  | holidayAdd (date : RawDate)
  | holidayRemove (date : RawDate)
  | lampReplace
  | lampLimits (w : RawLimits)
  | lampCeiling (level : Byte)
  | faultClear
  | inputConfig (index : Byte) (c : RawInputConfig)
  | timingWrite (index : Byte) (t : RawTiming)
  | timingOut (index : Byte)
  /-- A TIMING_LOAD whose action byte is neither 00h nor 01h: always INVALID (R189). -/
  | timingOther (index action : Byte) (rest : List Byte)
  | panelSet (width height : Half)
  | guardSet (g : RawGuard)
  | subscribe (mask : BitVec 24)
  | lockoutBase (level : Byte)
  | presenterHold (action : Byte)
  | service (action : Byte)
  | statusRead
  | lampRead
  | historyRead (index : Byte)
  | faultRead
  | inputRead (index : Byte)
  | timingRead (index : Byte)
  | geometryRead
  | entryRead (slot : Byte)
  | holidayRead
  | sessionRead
  | timeRead
  | noticesRead
  deriving DecidableEq, Repr

/-- What makes a power-on reset (00_scope, "Resets"). -/
inductive ResetCause where
  | resetLine | supplyRise
  deriving DecidableEq, Repr

/-- The debounced levels of the three buttons, pressed or not (R94). -/
structure Buttons where
  power : Bool
  source : Bool
  axis : Bool
  deriving DecidableEq, Repr

/-- The events that can fall between two steps of start-up settling (R187). -/
inductive SettlingEvent where
  | second | calendar
  deriving DecidableEq, Repr

/-- The ends of timers and the tests that fall due at a second event, each a row of the table as well (R2, R9, R12, R82, R83). -/
inductive DueTest where
  | attempt | retryGap | warmup | cool | minOn | holdRelease | nosigDim | nosigOff
  deriving DecidableEq, Repr

/-- The commands, in the order of spec/opcode_table.json. A request carries the port it comes in on and the origin byte
of its frame. -/
inductive Instr where
  | powerOn (p : PortId) (o : Byte)
  | powerOff (p : PortId) (o : Byte)
  | lampMode (p : PortId) (o : Byte) (mode : Byte)
  | select (p : PortId) (o : Byte) (input : Byte)
  | retrain (p : PortId) (o : Byte) (input : Byte)
  | muteSet (p : PortId) (o : Byte) (value : Byte)
  | keystone (p : PortId) (o : Byte) (k : RawKeystone)
  | presetStore (p : PortId) (o : Byte)
  | extendEnd (p : PortId) (o : Byte)
  | endSession (p : PortId) (o : Byte)
  | timeSet (p : PortId) (o : Byte) (date : RawDate) (time : RawTime)
  | entryWrite (p : PortId) (o : Byte) (w : RawEntryWrite)
  | entryDelete (p : PortId) (o : Byte) (slot : Byte)
  | holidayAdd (p : PortId) (o : Byte) (date : RawDate)
  | holidayRemove (p : PortId) (o : Byte) (date : RawDate)
  | lampReplace (p : PortId) (o : Byte)
  | lampLimits (p : PortId) (o : Byte) (w : RawLimits)
  | lampCeiling (p : PortId) (o : Byte) (level : Byte)
  | faultClear (p : PortId) (o : Byte)
  | inputConfig (p : PortId) (o : Byte) (index : Byte) (c : RawInputConfig)
  | timingLoadWrite (p : PortId) (o : Byte) (index : Byte) (t : RawTiming)
  | timingLoadOutOfUse (p : PortId) (o : Byte) (index : Byte)
  | panelSet (p : PortId) (o : Byte) (width height : Half)
  | guardSet (p : PortId) (o : Byte) (g : RawGuard)
  | subscribe (p : PortId) (o : Byte) (mask : BitVec 24)
  | lockoutBase (p : PortId) (o : Byte) (level : Byte)
  | presenterHoldSet (p : PortId) (o : Byte)
  | presenterHoldClear (p : PortId) (o : Byte)
  | serviceEnter (p : PortId) (o : Byte)
  | serviceLeave (p : PortId) (o : Byte)
  | statusRead (p : PortId) (o : Byte)
  | lampRead (p : PortId) (o : Byte)
  | historyRead (p : PortId) (o : Byte) (index : Byte)
  | faultRead (p : PortId) (o : Byte)
  | inputRead (p : PortId) (o : Byte) (index : Byte)
  | timingRead (p : PortId) (o : Byte) (index : Byte)
  | geometryRead (p : PortId) (o : Byte)
  | entryRead (p : PortId) (o : Byte) (slot : Byte)
  | holidayRead (p : PortId) (o : Byte)
  | sessionRead (p : PortId) (o : Byte)
  | timeRead (p : PortId) (o : Byte)
  | noticesRead (p : PortId) (o : Byte)
  /-- A complete frame with this body, of type REQUEST, that R166 replies INVALID at its steps 2 to 4. -/
  | unknownRequestCode (p : PortId) (body : List Byte)
  /-- A complete frame with this body, whose type is not REQUEST. -/
  | nonRequestFrame (p : PortId) (body : List Byte)
  | uartByteReceived (u : UartId) (b : Byte) (framingError : Bool)
  /-- These bytes come in on SDI within one transaction; `ended`: SSEL is negated after the last. -/
  | eWriteTransaction (bytes : List Byte) (ended : Bool)
  /-- The read byte 5Ah and then `clocks` bytes are clocked; `ended`: SSEL is negated after the last. -/
  | eReadTransaction (clocks : Nat) (ended : Bool)
  | sselNegated
  | gapTimerExpiry (p : PortId)
  /-- The transmitter of `u` ends a frame. `noticeFirst`: where the taking of the next frame and the choice of a notice fall
  together, the notice is chosen first (R167). -/
  | transmissionEnd (u : UartId) (noticeFirst : Bool := false)
  | litRise
  | litFall
  | bfaultRise
  | bfaultFall
  /-- `early`: what falls due at this second event and is taken before LLC counts it, in this order (R25, R31). -/
  | secondEvent (early : List DueTest := [])
  | attemptTimerExpiry
  | retryGapExpiry
  | warmupTimerExpiry
  | coolTimerExpiry
  | minOnReached
  | holdReleaseWindow
  | litCommitCountReached
  | presLineChange (i : Fin 6) (level : Bool)
  | presenceDebounceExpiry (i : Fin 6)
  /-- A FRAME pulse at `time` microseconds on the 1 MHz time base; `geoFirst`: GEO takes it before INM does (R100). -/
  | framePulse (time : Nat) (geoFirst : Bool)
  | linePulse
  | frameWatchdogExpiry
  | switchTimerExpiry
  | nosigDimReached
  | nosigOffReached
  /-- DIAL_A and DIAL_B after the change. -/
  | dialEdge (a b : Bool)
  /-- `held`: the buttons still held when the next command comes; a release has no effect of its own (R94). -/
  | kpPowerPress (held : Buttons := ⟨false, false, false⟩)
  | kpSourcePress (held : Buttons := ⟨false, false, false⟩)
  | kpAxisPress (held : Buttons := ⟨false, false, false⟩)
  /-- KEYLOCK's debounced level after the change. -/
  | keylockChange (level : Bool)
  | confirmWindowExpiry
  | calendarSecond
  | commitComplete
  | pfailAsserted
  | pfailNegated
  | supplyFall
  | powerOnReset (cause : ResetCause)
  | resetRelease
  /-- `falls`: the second events and calendar seconds that fall after each of the steps 1 to 5 of settling (R187). -/
  | startupLoadComplete (falls : Vector (List SettlingEvent) 5 := Vector.replicate 5 [])
  | engRstAsserted
  | engRstReleased
  | backupDomainLoss
  deriving DecidableEq, Repr

end Sys2Proof
end

