-- ==== Sys2Proof/Machine/Frames.lean ====
section
/-! DEFINITION. Frames and request bodies (chapters 9 and 11): the byte order of fields, the request table of 11.3, the
encoder and the parser of a request body, the check byte, and the receiver of R164. -/

namespace Sys2Proof.Machine

/-! ### Fields (R189: most significant byte first) -/

/-- A count in one byte. -/
def byte1 (n : Nat) : Byte := BitVec.ofNat 8 n

/-- A count in two bytes. -/
def byte2 (n : Nat) : List Byte := [byte1 (n / 256), byte1 n]

/-- A count in three bytes. -/
def byte3 (n : Nat) : List Byte := [byte1 (n / 65536), byte1 (n / 256), byte1 n]

/-- A count in four bytes. -/
def byte4 (n : Nat) : List Byte := [byte1 (n / 16777216), byte1 (n / 65536), byte1 (n / 256), byte1 n]

/-- A yes/no field (11.4). -/
def flag (b : Bool) : Byte := if b then 1 else 0

/-- FFh: an absent one-byte value (R189), or a field that does not apply (R191). -/
def absent1 : Byte := 0xFF

/-- A signed byte, two's complement (R189). -/
def signed (n : Int) : Byte := BitVec.ofInt 8 n

/-- The two bytes of a half. -/
def halfBytes (h : Half) : List Byte := [h.extractLsb' 8 8, h.extractLsb' 0 8]

/-- The half of two bytes. -/
def mkHalf (hi lo : Byte) : Half := hi ++ lo

/-! ### The request table (11.3) -/

/-- The request code. -/
def kindCode : ReqKind → Byte
  | .powerOn => 0x10 | .powerOff => 0x11 | .lampMode => 0x12
  | .select => 0x20 | .retrain => 0x21 | .muteSet => 0x22
  | .keystone => 0x30 | .presetStore => 0x31
  | .extendEnd => 0x40 | .endSession => 0x41
  | .timeSet => 0x50 | .entryWrite => 0x51 | .entryDelete => 0x52 | .holidayAdd => 0x53 | .holidayRemove => 0x54
  | .lampReplace => 0x60 | .lampLimits => 0x61 | .lampCeiling => 0x62 | .faultClear => 0x63
  | .inputConfig => 0x70 | .timingLoad => 0x71 | .panelSet => 0x72 | .guardSet => 0x73 | .subscribe => 0x74
  | .lockoutBase => 0x80 | .presenterHold => 0x81 | .service => 0x82
  | .statusRead => 0x90 | .lampRead => 0x91 | .historyRead => 0x92 | .faultRead => 0x93 | .inputRead => 0x94
  | .timingRead => 0x95 | .geometryRead => 0x96 | .entryRead => 0x97 | .holidayRead => 0x98 | .sessionRead => 0x99
  | .timeRead => 0x9A | .noticesRead => 0x9B

/-- The request class (09_control_ports, "The requests by class"). -/
def kindClass : ReqKind → ReqClass
  | .powerOn | .powerOff | .lampMode => .power
  | .select | .retrain | .muteSet => .picture
  | .keystone | .presetStore => .geometry
  | .extendEnd | .endSession => .session
  | .timeSet | .entryWrite | .entryDelete | .holidayAdd | .holidayRemove => .timetable
  | .lampReplace | .lampLimits | .lampCeiling | .faultClear => .lampService
  | .inputConfig | .timingLoad | .panelSet | .guardSet | .subscribe => .config
  | .lockoutBase | .presenterHold | .service => .lockout
  | .statusRead | .lampRead | .historyRead | .faultRead | .inputRead | .timingRead | .geometryRead | .entryRead
  | .holidayRead | .sessionRead | .timeRead | .noticesRead => .read

/-- Every request kind, in code order. -/
def allKinds : List ReqKind :=
  [.powerOn, .powerOff, .lampMode, .select, .retrain, .muteSet, .keystone, .presetStore, .extendEnd, .endSession,
   .timeSet, .entryWrite, .entryDelete, .holidayAdd, .holidayRemove, .lampReplace, .lampLimits, .lampCeiling,
   .faultClear, .inputConfig, .timingLoad, .panelSet, .guardSet, .subscribe, .lockoutBase, .presenterHold, .service,
   .statusRead, .lampRead, .historyRead, .faultRead, .inputRead, .timingRead, .geometryRead, .entryRead, .holidayRead,
   .sessionRead, .timeRead, .noticesRead]

/-- The request a code names, if the table knows it (R166 step 2). -/
def kindOf (code : Byte) : Option ReqKind := allKinds.find? fun k => kindCode k == code

/-- The kind of a request. -/
def requestKind : Request → ReqKind
  | .powerOn => .powerOn | .powerOff => .powerOff | .lampMode _ => .lampMode
  | .select _ => .select | .retrain _ => .retrain | .muteSet _ => .muteSet
  | .keystone _ => .keystone | .presetStore => .presetStore
  | .extendEnd => .extendEnd | .endSession => .endSession
  | .timeSet _ _ => .timeSet | .entryWrite _ => .entryWrite | .entryDelete _ => .entryDelete
  | .holidayAdd _ => .holidayAdd | .holidayRemove _ => .holidayRemove
  | .lampReplace => .lampReplace | .lampLimits _ => .lampLimits | .lampCeiling _ => .lampCeiling
  | .faultClear => .faultClear | .inputConfig _ _ => .inputConfig
  | .timingWrite _ _ => .timingLoad | .timingOut _ => .timingLoad | .timingOther _ _ _ => .timingLoad
  | .panelSet _ _ => .panelSet | .guardSet _ => .guardSet | .subscribe _ => .subscribe
  | .lockoutBase _ => .lockoutBase | .presenterHold _ => .presenterHold | .service _ => .service
  | .statusRead => .statusRead | .lampRead => .lampRead | .historyRead _ => .historyRead | .faultRead => .faultRead
  | .inputRead _ => .inputRead | .timingRead _ => .timingRead | .geometryRead => .geometryRead
  | .entryRead _ => .entryRead | .holidayRead => .holidayRead | .sessionRead => .sessionRead
  | .timeRead => .timeRead | .noticesRead => .noticesRead

/-! ### The encoder of a request's fields -/

/-- An optional one-byte field: it follows only when present (R190). -/
def opt1 : Option Byte → List Byte
  | none => []
  | some b => [b]

/-- An optional two-byte field. -/
def opt2 : Option Half → List Byte
  | none => []
  | some h => halfBytes h

def encodeDate (d : RawDate) : List Byte := [d.year, d.month, d.day]

def encodeTime (t : RawTime) : List Byte := [t.hour, t.minute, t.second]

/-- The 15 bytes of an entry (11.5). -/
def encodeRawEntry (e : RawEntry) : List Byte :=
  [e.enabled, e.form] ++ encodeDate e.day ++ halfBytes e.start ++ halfBytes e.stop
    ++ [e.startAction, e.endAction, e.source, e.level, e.warnLead, e.allowance]

/-- The 12 bytes of a timing entry (11.5). -/
def encodeRawTiming (t : RawTiming) : List Byte :=
  halfBytes t.linesMin ++ halfBytes t.linesMax ++ halfBytes t.periodMin ++ halfBytes t.periodMax
    ++ halfBytes t.width ++ halfBytes t.height

/-- The 13 bytes of a label (R189). -/
def encodeLabel (l : RawLabel) : List Byte := l.len :: l.chars

/-- An optional label. -/
def optLabel : Option RawLabel → List Byte
  | none => []
  | some l => encodeLabel l

/-- An optional pair of preset bytes. -/
def optPair : Option (Byte × Byte) → List Byte
  | none => []
  | some (v, h) => [v, h]

/-- A presence mark of `n` named bits under `m` spare ones, bit 0 the first field (R190). -/
def markByte (named : BitVec n) (spare : BitVec m) : BitVec (m + n) := spare ++ named

/-- The named bits of a mark, bit 0 first. -/
def bits (bs : List Bool) : BitVec bs.length := BitVec.ofBoolListLE bs

/-- GUARD_SET's presence bits, bit 0 first (11.3). -/
def guardPresence (g : RawGuard) : List Bool :=
  [g.minOn.isSome, g.cool.isSome, g.warmupTime.isSome, g.igniteTimeout.isSome, g.strikeMax.isSome,
   g.strikeWindow.isSome, g.strikeWear.isSome, g.switchTimeout.isSome, g.nosigDim.isSome, g.nosigOff.isSome,
   g.autoDim.isSome, g.autoscan.isSome, g.powerOnInput.isSome, g.manualSpan.isSome, g.manualLevel.isSome,
   g.manualExt.isSome, g.manualWarn.isSome, g.extMinutes.isSome]

/-- GUARD_SET's 24-bit mark. -/
def guardMark (g : RawGuard) : BitVec 24 := markByte (BitVec.ofBoolListLE (guardPresence g) : BitVec 18) g.spare

/-- The three bytes of a 24-bit mask or mark. -/
def maskBytes (m : BitVec 24) : List Byte := [m.extractLsb' 16 8, m.extractLsb' 8 8, m.extractLsb' 0 8]

/-- GUARD_SET's mark and the settings present, in mark order. -/
def encodeGuard (g : RawGuard) : List Byte :=
  maskBytes (guardMark g)
    ++ opt2 g.minOn ++ opt2 g.cool ++ opt1 g.warmupTime ++ opt1 g.igniteTimeout ++ opt1 g.strikeMax
    ++ opt2 g.strikeWindow ++ opt2 g.strikeWear ++ opt1 g.switchTimeout ++ opt2 g.nosigDim ++ opt2 g.nosigOff
    ++ opt1 g.autoDim ++ opt1 g.autoscan ++ opt1 g.powerOnInput ++ opt2 g.manualSpan ++ opt1 g.manualLevel
    ++ opt1 g.manualExt ++ opt1 g.manualWarn ++ opt1 g.extMinutes

def keystoneMark (k : RawKeystone) : Byte := markByte (BitVec.ofBoolListLE [k.v.isSome, k.h.isSome] : BitVec 2) k.spare

def limitsMark (w : RawLimits) : Byte :=
  markByte (BitVec.ofBoolListLE [w.warn.isSome, w.life.isSome] : BitVec 2) w.spare

def entryMark (w : RawEntryWrite) : Byte := markByte (BitVec.ofBoolListLE [w.slot.isSome] : BitVec 1) w.spare

def inputMark (c : RawInputConfig) : Byte :=
  markByte (BitVec.ofBoolListLE [c.kind.isSome, c.enabled.isSome, c.label.isSome, c.priority.isSome, c.aspect.isSome,
    c.preset.isSome] : BitVec 6) c.spare

/-- The fields after the origin (11.3). -/
def encodeFields : Request → List Byte
  | .powerOn | .powerOff | .presetStore | .extendEnd | .endSession | .lampReplace | .faultClear => []
  | .lampMode m => [m]
  | .select i => [i]
  | .retrain i => [i]
  | .muteSet v => [v]
  | .keystone k => keystoneMark k :: k.form :: (opt1 k.v ++ opt1 k.h)
  | .timeSet d t => encodeDate d ++ encodeTime t
  | .entryWrite w => entryMark w :: (opt1 w.slot ++ encodeRawEntry w.entry)
  | .entryDelete s => [s]
  | .holidayAdd d => encodeDate d
  | .holidayRemove d => encodeDate d
  | .lampLimits w => limitsMark w :: (opt2 w.warn ++ opt2 w.life)
  | .lampCeiling v => [v]
  | .inputConfig i c =>
    i :: inputMark c :: (opt1 c.kind ++ opt1 c.enabled ++ optLabel c.label ++ opt1 c.priority ++ opt1 c.aspect
      ++ optPair c.preset)
  | .timingWrite i t => i :: 1 :: encodeRawTiming t
  | .timingOut i => [i, 0]
  | .timingOther i a rest => i :: a :: rest
  | .panelSet w h => halfBytes w ++ halfBytes h
  | .guardSet g => encodeGuard g
  | .subscribe m => maskBytes m
  | .lockoutBase l => [l]
  | .presenterHold a => [a]
  | .service a => [a]
  | .historyRead i => [i]
  | .inputRead i => [i]
  | .timingRead i => [i]
  | .entryRead i => [i]
  | .statusRead | .lampRead | .faultRead | .geometryRead | .holidayRead | .sessionRead | .timeRead | .noticesRead => []

/-- The body of a request frame (11.1). -/
def encodeBody (origin : Byte) (r : Request) : List Byte :=
  0x01 :: kindCode (requestKind r) :: origin :: encodeFields r

/-! ### The parser of a request's fields: the body length must match the layout (R166 step 3) -/

/-- Take an optional one-byte field off the front when its bit is set. -/
def take1 (present : Bool) (bs : List Byte) : Option (Option Byte × List Byte) :=
  match present, bs with
  | false, bs => some (none, bs)
  | true, b :: rest => some (some b, rest)
  | true, [] => none

/-- Take an optional two-byte field off the front when its bit is set. -/
def take2 (present : Bool) (bs : List Byte) : Option (Option Half × List Byte) :=
  match present, bs with
  | false, bs => some (none, bs)
  | true, hi :: lo :: rest => some (some (mkHalf hi lo), rest)
  | true, _ => none

/-- Take an optional label off the front when its bit is set. -/
def takeLabel (present : Bool) (bs : List Byte) : Option (Option RawLabel × List Byte) :=
  match present, bs with
  | false, bs => some (none, bs)
  | true, n :: rest => if 12 ≤ rest.length then some (some ⟨n, rest.take 12⟩, rest.drop 12) else none
  | true, [] => none

/-- Take an optional pair off the front when its bit is set. -/
def takePair (present : Bool) (bs : List Byte) : Option (Option (Byte × Byte) × List Byte) :=
  match present, bs with
  | false, bs => some (none, bs)
  | true, v :: h :: rest => some (some (v, h), rest)
  | true, _ => none

/-- Nothing may follow the last field. -/
def ended (bs : List Byte) (r : Request) : Option Request := if bs.isEmpty then some r else none

def parseDate : List Byte → Option RawDate
  | [y, m, d] => some ⟨y, m, d⟩
  | _ => none

def parseRawEntry : List Byte → Option RawEntry
  | [en, fm, y, m, d, s1, s0, e1, e0, sa, ea, src, lv, wl, al] =>
    some ⟨en, fm, ⟨y, m, d⟩, mkHalf s1 s0, mkHalf e1 e0, sa, ea, src, lv, wl, al⟩
  | _ => none

def parseRawTiming : List Byte → Option RawTiming
  | [a1, a0, b1, b0, c1, c0, d1, d0, e1, e0, f1, f0] =>
    some ⟨mkHalf a1 a0, mkHalf b1 b0, mkHalf c1 c0, mkHalf d1 d0, mkHalf e1 e0, mkHalf f1 f0⟩
  | _ => none

/-- KEYSTONE: mark, form, then the values whose bits are set. -/
def parseKeystone : List Byte → Option Request
  | mark :: form :: rest => do
    let (v, rest) ← take1 (mark.getLsbD 0) rest
    let (h, rest) ← take1 (mark.getLsbD 1) rest
    ended rest (.keystone ⟨mark.extractLsb' 2 6, form, v, h⟩)
  | _ => none

/-- ENTRY_WRITE: mark, the slot if its bit is set, the whole entry. -/
def parseEntryWrite : List Byte → Option Request
  | mark :: rest => do
    let (slot, rest) ← take1 (mark.getLsbD 0) rest
    let e ← parseRawEntry rest
    return .entryWrite ⟨mark.extractLsb' 1 7, slot, e⟩
  | _ => none

/-- LAMP_LIMITS: mark, then the limits whose bits are set. -/
def parseLimits : List Byte → Option Request
  | mark :: rest => do
    let (w, rest) ← take2 (mark.getLsbD 0) rest
    let (l, rest) ← take2 (mark.getLsbD 1) rest
    ended rest (.lampLimits ⟨mark.extractLsb' 2 6, w, l⟩)
  | _ => none

/-- INPUT_CONFIG: index, mark, then the fields whose bits are set. -/
def parseInputConfig : List Byte → Option Request
  | index :: mark :: rest => do
    let (kind, rest) ← take1 (mark.getLsbD 0) rest
    let (enabled, rest) ← take1 (mark.getLsbD 1) rest
    let (label, rest) ← takeLabel (mark.getLsbD 2) rest
    let (priority, rest) ← take1 (mark.getLsbD 3) rest
    let (aspect, rest) ← take1 (mark.getLsbD 4) rest
    let (preset, rest) ← takePair (mark.getLsbD 5) rest
    ended rest (.inputConfig index ⟨mark.extractLsb' 6 2, kind, enabled, label, priority, aspect, preset⟩)
  | _ => none

/-- TIMING_LOAD: the action byte decides whether the 12 bytes of an entry follow (R190). -/
def parseTiming : List Byte → Option Request
  | index :: action :: rest =>
    if action = 0 then ended rest (.timingOut index)
    else if action = 1 then (parseRawTiming rest).map (.timingWrite index)
    else if rest.length = 0 ∨ rest.length = 12 then some (.timingOther index action rest) else none
  | _ => none

/-- GUARD_SET: a 24-bit mark, then the settings whose bits are set. -/
def parseGuard : List Byte → Option Request
  | m2 :: m1 :: m0 :: rest => do
    let m : BitVec 24 := m2 ++ m1 ++ m0
    let (minOn, rest) ← take2 (m.getLsbD 0) rest
    let (cool, rest) ← take2 (m.getLsbD 1) rest
    let (warmupTime, rest) ← take1 (m.getLsbD 2) rest
    let (igniteTimeout, rest) ← take1 (m.getLsbD 3) rest
    let (strikeMax, rest) ← take1 (m.getLsbD 4) rest
    let (strikeWindow, rest) ← take2 (m.getLsbD 5) rest
    let (strikeWear, rest) ← take2 (m.getLsbD 6) rest
    let (switchTimeout, rest) ← take1 (m.getLsbD 7) rest
    let (nosigDim, rest) ← take2 (m.getLsbD 8) rest
    let (nosigOff, rest) ← take2 (m.getLsbD 9) rest
    let (autoDim, rest) ← take1 (m.getLsbD 10) rest
    let (autoscan, rest) ← take1 (m.getLsbD 11) rest
    let (powerOnInput, rest) ← take1 (m.getLsbD 12) rest
    let (manualSpan, rest) ← take2 (m.getLsbD 13) rest
    let (manualLevel, rest) ← take1 (m.getLsbD 14) rest
    let (manualExt, rest) ← take1 (m.getLsbD 15) rest
    let (manualWarn, rest) ← take1 (m.getLsbD 16) rest
    let (extMinutes, rest) ← take1 (m.getLsbD 17) rest
    ended rest (.guardSet ⟨m.extractLsb' 18 6, minOn, cool, warmupTime, igniteTimeout, strikeMax, strikeWindow,
      strikeWear, switchTimeout, nosigDim, nosigOff, autoDim, autoscan, powerOnInput, manualSpan, manualLevel,
      manualExt, manualWarn, extMinutes⟩)
  | _ => none

/-- A layout of no fields. -/
def parse0 (r : Request) (bs : List Byte) : Option Request := ended bs r

/-- A layout of one byte. -/
def parse1 (f : Byte → Request) : List Byte → Option Request
  | [b] => some (f b)
  | _ => none

/-- The request of this kind whose fields are these bytes, when their length matches its layout. -/
def parseFields (k : ReqKind) (bs : List Byte) : Option Request :=
  match k with
  | .powerOn => parse0 .powerOn bs
  | .powerOff => parse0 .powerOff bs
  | .lampMode => parse1 .lampMode bs
  | .select => parse1 .select bs
  | .retrain => parse1 .retrain bs
  | .muteSet => parse1 .muteSet bs
  | .keystone => parseKeystone bs
  | .presetStore => parse0 .presetStore bs
  | .extendEnd => parse0 .extendEnd bs
  | .endSession => parse0 .endSession bs
  | .timeSet =>
    match bs with
    | [y, m, d, hh, mm, ss] => some (.timeSet ⟨y, m, d⟩ ⟨hh, mm, ss⟩)
    | _ => none
  | .entryWrite => parseEntryWrite bs
  | .entryDelete => parse1 .entryDelete bs
  | .holidayAdd => (parseDate bs).map .holidayAdd
  | .holidayRemove => (parseDate bs).map .holidayRemove
  | .lampReplace => parse0 .lampReplace bs
  | .lampLimits => parseLimits bs
  | .lampCeiling => parse1 .lampCeiling bs
  | .faultClear => parse0 .faultClear bs
  | .inputConfig => parseInputConfig bs
  | .timingLoad => parseTiming bs
  | .panelSet =>
    match bs with
    | [w1, w0, h1, h0] => some (.panelSet (mkHalf w1 w0) (mkHalf h1 h0))
    | _ => none
  | .guardSet => parseGuard bs
  | .subscribe =>
    match bs with
    | [a, b, c] => some (.subscribe (a ++ b ++ c))
    | _ => none
  | .lockoutBase => parse1 .lockoutBase bs
  | .presenterHold => parse1 .presenterHold bs
  | .service => parse1 .service bs
  | .statusRead => parse0 .statusRead bs
  | .lampRead => parse0 .lampRead bs
  | .historyRead => parse1 .historyRead bs
  | .faultRead => parse0 .faultRead bs
  | .inputRead => parse1 .inputRead bs
  | .timingRead => parse1 .timingRead bs
  | .geometryRead => parse0 .geometryRead bs
  | .entryRead => parse1 .entryRead bs
  | .holidayRead => parse0 .holidayRead bs
  | .sessionRead => parse0 .sessionRead bs
  | .timeRead => parse0 .timeRead bs
  | .noticesRead => parse0 .noticesRead bs

/-- What the examination of a complete frame finds at steps 1 to 3 of R166. -/
inductive Parsed where
  | notRequest
  | unknownCode (code : Byte)
  | badLength (code : Byte)
  | request (origin : Byte) (r : Request)
  deriving DecidableEq, Repr

/-- Steps 1 to 3 of R166 on a body. A complete frame's body has at least 3 bytes (R164). -/
def parseBody : List Byte → Parsed
  | ftype :: code :: origin :: fields =>
    if ftype = 0x01 then
      match kindOf code with
      | none => .unknownCode code
      | some k =>
        match parseFields k fields with
        | none => .badLength code
        | some r => .request origin r
    else .notRequest
  | _ => .notRequest

/-! ### Frames and the receiver (R164) -/

/-- The 8-bit sum of some bytes. -/
def byteSum (bs : List Byte) : Byte := bs.foldl (· + ·) 0

/-- The check byte of a body: length, body and check sum to zero. -/
def checkByte (body : List Byte) : Byte := -(byte1 body.length + byteSum body)

/-- The frame of a body: sync, length, body, check (11.1). -/
def frameBytes (body : List Byte) : List Byte := 0xA5 :: byte1 body.length :: (body ++ [checkByte body])

/-- A frame occupies 3 bytes more than its length (R165). -/
def frameSize (body : List Byte) : Nat := body.length + 3

/-- What a receiver makes of the bytes it holds. -/
structure Scan where
  /-- The bodies completed, in order. -/
  done : List (List Byte)
  /-- The bytes of the frame left in assembly, from its sync; empty in HUNTING. -/
  asm : List Byte
  /-- A check byte was reached. -/
  sawCheck : Bool
  deriving DecidableEq, Repr

/-- One end of an assembly: a frame whose sum is zero, a bad length, a bad sum, or more bytes needed. -/
inductive Framing where
  | more
  | badLength
  | badSum
  | whole (body rest : List Byte)
  deriving DecidableEq, Repr

/-- Read the bytes after a sync byte. -/
def framing : List Byte → Framing
  | [] => .more
  | len :: rest =>
    if len = 0 ∨ 64 < len.toNat then .badLength
    else if rest.length < len.toNat + 1 then .more
    else if len + byteSum (rest.take (len.toNat + 1)) = 0 then
      .whole (rest.take len.toNat) (rest.drop (len.toNat + 1))
    else .badSum

/-- Hunt through the bytes (R164). Bytes of a frame abandoned for a bad length or a bad sum are offered again from the
byte after its sync. With `single` (the E port) the bytes after a frame whose sum is zero are discarded (R168). -/
def scan (single : Bool) : Nat → List Byte → Scan
  | 0, bs => ⟨[], bs, false⟩
  | _ + 1, [] => ⟨[], [], false⟩
  | fuel + 1, b :: rest =>
    if b = 0xA5 then
      match framing rest with
      | .more => ⟨[], b :: rest, false⟩
      | .badLength => scan single fuel rest
      | .badSum => { scan single fuel rest with sawCheck := true }
      | .whole body after =>
        let tail := if single then ⟨[], [], true⟩ else scan single fuel after
        ⟨if body.length < 3 then tail.done else body :: tail.done, tail.asm, true⟩
    else scan single fuel rest

/-- The receiver's reading of all the bytes it holds. -/
def scanAll (single : Bool) (bs : List Byte) : Scan := scan single (bs.length + 1) bs

end Sys2Proof.Machine
end

