-- ==== Sys2Proof/Machine/Types.lean ====
section
/-! DEFINITION. The names and records the blocks hold. Each type cites the rule that lists its values; codes are given in
Machine/Layout.lean. -/

namespace Sys2Proof.Machine

/-! ### Names -/

/-- The parties on whose behalf a request is made (00_scope, "Origins"; R106). -/
inductive Origin where
  | engine | remote | lectern | facilities | keypad | timetable | part
  deriving DecidableEq, Repr

/-- The eight lamp states (R1). -/
inductive LampState where
  | off | striking | warmup | on | offPending | cooling | faultCooling | fault
  deriving DecidableEq, Repr

/-- A requested mode or a ceiling (R22). -/
inductive LampMode where
  | eco | full
  deriving DecidableEq, Repr

/-- An effective power level (R21). -/
inductive PowerLevel where
  | dim | eco | full
  deriving DecidableEq, Repr

/-- The lamp's life grade (R33). -/
inductive Condition where
  | good | worn | expired
  deriving DecidableEq, Repr

/-- The kinds of fault (R19). -/
inductive FaultKind where
  | ignition | ballast | litLost
  deriving DecidableEq, Repr

/-- Why a power-on is held (R5). -/
inductive HeldReason where
  | cooling | window | coolingWindow
  deriving DecidableEq, Repr

/-- Why a hold is dropped (R5). -/
inductive DropCause where
  | expired | fault
  deriving DecidableEq, Repr

/-- The cause a LAMP_STATE carries (R23). -/
inductive LampCause where
  | request | timer | line | fault | clear | start
  deriving DecidableEq, Repr

/-- The lockout levels, lowest first (00_scope, "Lockout levels"). -/
inductive Level where
  | openLevel | lecture | presenter | secured | service
  deriving DecidableEq, Repr

/-- The cause a LOCKOUT_CHANGED carries (R111). -/
inductive LockCause where
  | base | hold | session | service
  deriving DecidableEq, Repr

/-- The keypad events (R118). -/
inductive KeypadEvent where
  | power | source | axis | dial
  deriving DecidableEq, Repr

/-- The cause of a keypad denial (R118). -/
inductive DenialCause where
  | keylock | level
  deriving DecidableEq, Repr

/-- The kinds of input (R46). -/
inductive InputKind where
  | digitalA | digitalB | analog | twistedPair
  deriving DecidableEq, Repr

/-- The aspect modes (R46, R88). -/
inductive Aspect where
  | fit | fill | native
  deriving DecidableEq, Repr

/-- The path states (R46). -/
inductive PathState where
  | disabled | absent | present | training | locked | unsupported | recovery | noSignal
  deriving DecidableEq, Repr

/-- The kinds of switch record (R63). -/
inductive SwitchKind where
  | select | retrain | scan | recovery
  deriving DecidableEq, Repr

/-- The scan phases (04_source_selection). -/
inductive ScanPhase where
  | none | trying | returning
  deriving DecidableEq, Repr

/-- The modes of the timing monitor (R52). -/
inductive MonitorMode where
  | idle | seeking | tracking
  deriving DecidableEq, Repr

/-- The causes of a lock loss (R55). -/
inductive LossCause where
  | lines | period | noFrame
  deriving DecidableEq, Repr

/-- The causes of a recompute (R99), and START (R104). -/
inductive WarpCause where
  | keystone | dial | select | lock | reclass | config | panel | session | start
  deriving DecidableEq, Repr

/-- The axis the dial turns (R95). -/
inductive DialAxis where
  | v | h
  deriving DecidableEq, Repr

/-- The kinds of session (R142). -/
inductive SessionKind where
  | scheduled | manual
  deriving DecidableEq, Repr

/-- The ways a session opens (R147). -/
inductive SessionWay where
  | minute | late | manual
  deriving DecidableEq, Repr

/-- The outcomes SESSION_OPEN reports (R147). -/
inductive OpenOutcome where
  | started | alreadyLit | deferred | lampRefused | noAction | suppressed
  deriving DecidableEq, Repr

/-- The reasons a session closes (08_sessions, 8.4). -/
inductive CloseReason where
  | ended | request | powerOff | handover
  deriving DecidableEq, Repr

/-- What became of the end action (R158). -/
inductive ActionFate where
  | issued | noAction | suppressed | notApplicable
  deriving DecidableEq, Repr

/-- The source state of a session (R149); absence is an absent option. -/
inductive SourceState where
  | pending | locked | unsupported | noSignal | absent | superseded | refused
  deriving DecidableEq, Repr

/-- The five stored records (R178). -/
inductive RecordName where
  | settings | lamp | inputs | timings | timetable
  deriving DecidableEq, Repr

/-- Why a record is lost (R186). -/
inductive LostCause where
  | crc | range
  deriving DecidableEq, Repr

/-- The reply statuses (00_scope; codes in 11.1). -/
inductive Status where
  | done | accepted | clamped | denied | refused | conflict | full | invalid
  deriving DecidableEq, Repr

/-- The REFUSED reasons (00_scope; codes in 11.1). -/
inductive Reason where
  | lampExpired | lampFault | lampBusy | inputDisabled | notSelected | noSession | extExhausted | nextEntry | lampNotOff
  deriving DecidableEq, Repr

/-! ### Dates and times -/

/-- A calendar date (R124). -/
structure Date where
  year : Nat
  month : Nat
  day : Nat
  deriving DecidableEq, Repr

/-- A time of day (R124). -/
structure TimeOfDay where
  hour : Nat
  minute : Nat
  second : Nat
  deriving DecidableEq, Repr

/-! ### The stored records (R178) -/

/-- The fault record (R19). -/
structure FaultRecord where
  kind : FaultKind
  date : Date
  time : TimeOfDay
  state : LampState
  hours : Nat
  sub : Nat
  strikes : Nat
  later : Nat
  deriving DecidableEq, Repr

/-- The current lamp record (02_lamp_life_accounting). -/
structure CurrentLamp where
  hours : Nat
  sub : Nat
  litSeconds : Nat
  strikes : Nat
  failed : Nat
  installed : Date
  installedValid : Bool
  hot : Bool
  deriving DecidableEq, Repr

/-- A closed lamp record (R38). -/
structure ClosedLamp where
  hours : Nat
  sub : Nat
  litSeconds : Nat
  strikes : Nat
  failed : Nat
  installed : Date
  installedValid : Bool
  removed : Date
  removedValid : Bool
  condition : Condition
  deriving DecidableEq, Repr

/-- The LAMP record (R178). -/
structure LampRecord where
  cur : CurrentLamp
  history : List ClosedLamp
  warnHours : Nat
  lifeHours : Nat
  strikeWear : Nat
  fault : Option FaultRecord
  deriving DecidableEq, Repr

/-- The stored fields of one input entry (R46). -/
structure InputEntry where
  kind : InputKind
  enabled : Bool
  label : List Byte
  priority : Nat
  aspect : Aspect
  presetV : Int
  presetH : Int
  lastTiming : Option (Fin 24)
  deriving DecidableEq, Repr

/-- The INPUTS record (R178). -/
structure InputsRecord where
  entries : Vector InputEntry 6
  panelW : Nat
  panelH : Nat
  autoscan : Bool
  powerOnInput : Fin 6
  deriving DecidableEq, Repr

/-- One entry of the timing table (R56). -/
structure TimingEntry where
  inUse : Bool
  linesMin : Nat
  linesMax : Nat
  periodMin : Nat
  periodMax : Nat
  width : Nat
  height : Nat
  deriving DecidableEq, Repr

/-- The TIMINGS record (R178). -/
abbrev TimingsRecord := Vector TimingEntry 24

/-- A weekday entry's day set (bit 0 Monday .. bit 6 Sunday) or a dated entry's date (R129). -/
inductive EntryDays where
  | weekly (days : BitVec 7)
  | dated (d : Date)
  deriving DecidableEq, Repr

/-- A timetable entry (R129). `powerOn`: its start action is POWER_ON; `powerOff`: its end action is POWER_OFF. -/
structure Entry where
  enabled : Bool
  days : EntryDays
  start : Nat
  stop : Nat
  powerOn : Bool
  powerOff : Bool
  source : Option (Fin 6)
  level : Level
  warnLead : Nat
  allowance : Nat
  deriving DecidableEq, Repr

/-- The TIMETABLE record (R178). -/
structure TimetableRecord where
  slots : Vector (Option Entry) 48
  holidays : List Date
  deriving DecidableEq, Repr

/-- The SETTINGS record (R178). -/
structure Settings where
  minOn : Nat
  cool : Nat
  warmupTime : Nat
  igniteTimeout : Nat
  strikeMax : Nat
  strikeWindow : Nat
  switchTimeout : Nat
  nosigDim : Nat
  nosigOff : Nat
  autoDim : Bool
  mode : LampMode
  ceiling : LampMode
  baseLevel : Level
  manualSpan : Nat
  manualLevel : Level
  manualExt : Nat
  manualWarn : Nat
  extMinutes : Nat
  maskE : BitVec 24
  maskL : BitVec 24
  maskF : BitVec 24
  deriving DecidableEq, Repr

/-! ### The volatile state of the blocks -/

/-- The lines as they stand: the inputs the part watches, and whether main supply is present. -/
structure Lines where
  lit : Bool
  bfault : Bool
  pres : Vector Bool 6
  dialA : Bool
  dialB : Bool
  keylock : Bool
  pfail : Bool
  reset : Bool
  engRst : Bool
  supply : Bool
  deriving DecidableEq, Repr

/-- A held power-on (R5). -/
structure Held where
  origin : Origin
  reason : HeldReason
  deriving DecidableEq, Repr

/-- The Lamp Sequencer (chapter 1). A timer holds its remaining seconds while it runs (R2). `litCounting`: LIT has risen
since the power-on reset, so the lit time counts (R24). -/
structure Lsq where
  state : LampState
  attemptTimer : Option Nat
  gapTimer : Option Nat
  warmupTimer : Option Nat
  coolTimer : Option Nat
  litTime : Nat
  litCounting : Bool
  attempt : Nat
  ignOrigin : Origin
  strikeLog : List Nat
  held : Option Held
  deriving DecidableEq, Repr

/-- A presence debouncer: the debounced presence, and the candidate level while the timer runs (R49). -/
structure Debouncer where
  presence : Bool
  timer : Option Bool
  deriving DecidableEq, Repr

/-- The lines and the period of a frame, in microseconds (R53). -/
structure Measure where
  lines : Nat
  period : Nat
  deriving DecidableEq, Repr

/-- A frame being measured: the time of its opening FRAME, and its line count (R53). -/
structure OpenFrame where
  time : Nat
  lines : Nat
  deriving DecidableEq, Repr

/-- The last stable measurement and the entry it classified to, absent for no match (R51, R54). -/
structure Stable where
  measure : Measure
  entry : Option (Fin 24)
  deriving DecidableEq, Repr

/-- The timing monitor (R52 to R55). -/
structure Monitor where
  mode : MonitorMode
  openFrame : Option OpenFrame
  candidates : List Measure
  locked : Option Measure
  lastStable : Option Stable
  lastFrame : Option Measure
  watchdog : Bool
  deriving DecidableEq, Repr

/-- The Input Monitor's volatile state (chapter 3). -/
structure Inm where
  path : Vector PathState 6
  deb : Vector Debouncer 6
  mon : Monitor
  deriving DecidableEq, Repr

/-- The switch record (R63). -/
structure SwitchRecord where
  target : Fin 6
  origin : Origin
  kind : SwitchKind
  superseded : Bool
  deriving DecidableEq, Repr

/-- The Source Switch (chapter 4). `scanPos` counts the scan entries tried or passed over; `powerOffSince`: a POWER_OFF has
been taken since the lamp last entered WARMUP or ON (R81); `autoOffTest`: a second event has found the count at NOSIG_OFF
and its test is still to be made (R83). -/
structure Ssw where
  selected : Option (Fin 6)
  trained : Bool
  record : Option SwitchRecord
  timer : Option Nat
  phase : ScanPhase
  scanList : List (Fin 6)
  scanPos : Nat
  home : Option (Fin 6)
  rescan : Bool
  userMute : Bool
  ready : Bool
  nosigCount : Nat
  powerOffSince : Bool
  autoOffTest : Bool
  dimReport : Bool
  mute : Bool
  deriving DecidableEq, Repr

/-- A corner of the warp, in panel pixels. -/
structure Corner where
  x : Nat
  y : Nat
  deriving DecidableEq, Repr

/-- A warp record before its take: it carries no generation yet (R98). -/
structure Warp where
  tl : Corner
  tr : Corner
  br : Corner
  bl : Corner
  wf : Nat
  hf : Nat
  xf : Nat
  yf : Nat
  v : Int
  h : Int
  source : Option (Nat × Nat)
  aspect : Aspect
  input : Fin 6
  cause : WarpCause
  deriving DecidableEq, Repr

/-- The active warp with its generation (R98, R101). -/
structure ActiveWarp where
  warp : Warp
  generation : Nat
  deriving DecidableEq, Repr

/-- The Geometry Unit (chapter 5); the panel size is in INPUTS. -/
structure Geo where
  liveV : Int
  liveH : Int
  dialAcc : Int
  axis : DialAxis
  denial : Bool
  pendingWarp : Option Warp
  active : Option ActiveWarp
  deriving DecidableEq, Repr

/-- Lockout Control (chapter 6); the base level is in SETTINGS. -/
structure Lkc where
  hold : Bool
  sessionLevel : Option Level
  service : Bool
  keylock : Bool
  confirmOpen : Bool
  deriving DecidableEq, Repr

/-- The Calendar Clock (chapter 7). `lost`: the backup domain has lost its state and CAL starts afresh at the next rise of
supply (R125). -/
structure Cal where
  date : Date
  time : TimeOfDay
  valid : Bool
  lost : Bool
  deriving DecidableEq, Repr

/-- The session record (R142). `endOff`: its end action is POWER_OFF. -/
structure Session where
  kind : SessionKind
  slot : Option (Fin 48)
  openedDate : Date
  openedTime : TimeOfDay
  date : Date
  plannedEnd : Nat
  level : Level
  warnLead : Nat
  allowance : Nat
  used : Nat
  warned : Bool
  endOff : Bool
  source : Option (Fin 6)
  sourceState : Option SourceState
  deferred : Bool
  suppressed : Bool
  deriving DecidableEq, Repr

/-- The Keypad Interface (R94): the accepted pair of dial levels, and the debounced buttons. -/
structure Kpi where
  pairA : Bool
  pairB : Bool
  power : Bool
  source : Bool
  axis : Bool
  deriving DecidableEq, Repr

/-- A notice's kind and payload (R172, R191). -/
inductive Payload where
  | lampState (new prev : LampState) (attempt : Nat) (cause : LampCause)
  | lampWarn (new prev : Condition) (hours limit : Nat)
  | lampExpired (new prev : Condition) (hours limit : Nat)
  | lampFault (kind : FaultKind) (before : LampState) (later : Nat)
  | strikeHeld (origin : Origin) (reason : HeldReason) (opens : TimeOfDay)
  | strikeDropped (origin : Origin) (cause : DropCause)
  /-- `path` absent: SUPERSEDED; `record` absent: no switch record stood or ended. -/
  | sourceState (input : Fin 6) (path : Option PathState) (record : Option SwitchRecord) (index : Option (Fin 24))
      (kind : InputKind)
  | warpReady (generation : Nat) (input : Fin 6) (cause : WarpCause)
  | keypadDenied (event : KeypadEvent) (cause : DenialCause) (level : Level)
  | keypadConfirm (state : LampState) (seconds : Nat)
  | sessionOpen (kind : SessionKind) (slot : Option (Fin 48)) (way : SessionWay) (plannedEnd : Nat) (level : Level)
      (outcome : OpenOutcome) (reason : Option Reason)
  | sessionWarn (kind : SessionKind) (slot : Option (Fin 48)) (plannedEnd minutesLeft extensionsLeft : Nat)
  | sessionClosed (kind : SessionKind) (slot : Option (Fin 48)) (reason : CloseReason) (used : Nat) (fate : ActionFate)
  | lockoutChanged (new prev : Level) (cause : LockCause) (base : Level) (hold : Bool) (session : Option Level)
      (service : Bool)
  | timeInvalid (date : Date)
  | storeLost (record : RecordName) (cause : LostCause)
  | overflow
  deriving DecidableEq, Repr

/-- A notice with the time of day of its raising (R172). -/
structure Notice where
  payload : Payload
  time : TimeOfDay
  deriving DecidableEq, Repr

/-- A reply: the request code answered, the status, and the status fields (R166). -/
structure Reply where
  code : Byte
  status : Status
  fields : List Byte
  deriving DecidableEq, Repr

/-- One port (chapter 9): the frame in assembly (from its sync; empty in HUNTING), the bodies of the complete frames not
yet taken, the reply held, the notice queue and its overflow mark. The gap timer runs while a frame is in assembly. -/
structure Port where
  asm : List Byte
  frames : List (List Byte)
  reply : Option Reply
  queue : List Notice
  overflow : Bool
  deriving DecidableEq, Repr

/-- The transmitter of L or F: idle, or sending the frame of the port's reply or of a notice (R167). The frame is what LTX or
FTX carries (R191). -/
inductive Transmitter where
  | idle
  | reply (frame : List Byte)
  | notice (frame : List Byte)
  deriving DecidableEq, Repr

/-- E's transaction (R168, R169): none; a write, `checked` once a check byte has been reached in it; a read, with the frame fixed at its
read byte, whether that frame is the held reply, and the bytes sent; or a transaction ignored to its end. -/
inductive Transaction where
  | idle
  | write (checked : Bool)
  | read (frame : List Byte) (isReply : Bool) (sent : Nat)
  | ignored
  deriving DecidableEq, Repr

/-- The Port Controller (chapter 9). `sdo`: the bytes SDO has sent in the latest transaction. -/
structure Ptc where
  e : Port
  l : Port
  f : Port
  lTx : Transmitter
  fTx : Transmitter
  txn : Transaction
  sdo : List Byte
  deriving DecidableEq, Repr

/-- A nonvolatile image: its content, its 16-bit CRC, and whether that CRC matches the content (R178, R182). -/
structure Image (α : Type) where
  content : α
  crc : Half
  intact : Bool
  deriving DecidableEq, Repr

/-- The commit in flight with the copy it writes (R180). -/
inductive Commit where
  | settings (c : Settings)
  | lamp (c : LampRecord)
  | inputs (c : InputsRecord)
  | timings (c : TimingsRecord)
  | timetable (c : TimetableRecord)
  deriving DecidableEq, Repr

/-- Power-fail mode (R183). -/
inductive PowerFail where
  | off | owed | begun | done
  deriving DecidableEq, Repr

/-- The start-up phases (10_settings_store_and_start_up). -/
inductive StartPhase where
  | loading | settling | complete
  deriving DecidableEq, Repr

/-- The five nonvolatile images (R178). -/
structure Images where
  settings : Image Settings
  lamp : Image LampRecord
  inputs : Image InputsRecord
  timings : Image TimingsRecord
  timetable : Image TimetableRecord
  deriving DecidableEq, Repr

/-- The Settings Store (chapter 10). -/
structure Sto where
  images : Images
  dirty : List RecordName
  inflight : Option Commit
  pf : PowerFail
  phase : StartPhase
  deriving DecidableEq, Repr

end Sys2Proof.Machine
end

