-- ==== Sys2Proof/Machine/Defaults.lean ====
section
/-! DEFINITION. The defaults of the five records (R186) and the values after power-on reset of each block's volatile state.
-/

namespace Sys2Proof.Machine

/-- The first date of the calendar (R124, R125). -/
def firstDate : Date := ⟨2000, 1, 1⟩

/-- Midnight. -/
def midnight : TimeOfDay := ⟨0, 0, 0⟩

/-- A fresh account (R41, R44). -/
def freshLamp : CurrentLamp := ⟨0, 0, 0, 0, 0, firstDate, false, false⟩

/-- LAMP's defaults (R186). -/
def defaultLamp : LampRecord := ⟨freshLamp, [], 2700, 3000, 240, none⟩

/-- The label "IN" and a digit (R46). -/
def defaultLabel (i : Nat) : List Byte := [0x49, 0x4E, BitVec.ofNat 8 (0x30 + i)]

/-- An input entry's defaults, but for its kind, label and priority (R46). -/
def defaultEntry (kind : InputKind) (i : Nat) : InputEntry := ⟨kind, true, defaultLabel i, i, .fit, 0, 0, none⟩

/-- INPUTS' defaults (R46, R84, R86, R186). -/
def defaultInputs : InputsRecord :=
  ⟨#v[defaultEntry .digitalA 0, defaultEntry .digitalA 1, defaultEntry .digitalB 2, defaultEntry .analog 3,
     defaultEntry .twistedPair 4, defaultEntry .twistedPair 5], 1920, 1200, true, 0⟩

/-- A factory entry in use. -/
def factory (width height linesMin linesMax periodMin periodMax : Nat) : TimingEntry :=
  ⟨true, linesMin, linesMax, periodMin, periodMax, width, height⟩

/-- An entry not in use as the factory leaves it (R56). -/
def factoryFree : TimingEntry := ⟨false, 200, 200, 8000, 8000, 320, 200⟩

/-- The factory contents of the timing table (R56). -/
def defaultTimings : TimingsRecord :=
  #v[factory 640 480 523 527 16550 16800, factory 1024 768 804 808 16550 16800,
     factory 1280 720 748 752 16550 16800, factory 1280 800 821 825 16550 16800,
     factory 1366 768 796 800 16550 16800, factory 1920 1080 1123 1127 16550 16800,
     factory 1920 1080 1123 1127 19900 20100, factory 1920 1200 1233 1237 16550 16800,
     factoryFree, factoryFree, factoryFree, factoryFree, factoryFree, factoryFree, factoryFree, factoryFree,
     factoryFree, factoryFree, factoryFree, factoryFree, factoryFree, factoryFree, factoryFree, factoryFree]

/-- TIMETABLE's defaults: every slot free, no holiday (R186). -/
def defaultTimetable : TimetableRecord := ⟨Vector.replicate 48 none, []⟩

/-- The notice kinds E receives by default (R172): 1..4 and 6..12, as bits kind − 1. -/
def defaultMaskE : BitVec 24 := 0x000FEF
/-- The notice kinds L receives by default: 1, 5, 6, 10, 11, 12, 13. -/
def defaultMaskL : BitVec 24 := 0x001E31
/-- The notice kinds F receives by default: 1, 2, 3, 4, 5, 6, 9, 10, 12, 13, 14. -/
def defaultMaskF : BitVec 24 := 0x003B3F

/-- SETTINGS' defaults (R3, R84, R144, R172, R186). -/
def defaultSettings : Settings :=
  { minOn := 120, cool := 90, warmupTime := 45, igniteTimeout := 10, strikeMax := 4, strikeWindow := 3600,
    switchTimeout := 5, nosigDim := 60, nosigOff := 900, autoDim := true, mode := .full, ceiling := .full,
    baseLevel := .openLevel, manualSpan := 120, manualLevel := .openLevel, manualExt := 2, manualWarn := 5,
    extMinutes := 15, maskE := defaultMaskE, maskL := defaultMaskL, maskF := defaultMaskF }

/-- LSQ before the records are loaded (R24). -/
def resetLsq : Lsq := ⟨.off, none, none, none, none, 0, false, 0, .part, [], none⟩

/-- The timing monitor after power-on reset (R61). -/
def resetMonitor : Monitor := ⟨.idle, none, [], none, none, none, false⟩

/-- A debouncer after power-on reset: low, its timer started for a line that is high (R61). -/
def resetDebouncer (level : Bool) : Debouncer := ⟨false, if level then some true else none⟩

/-- INM before the records are loaded: the default entries are enabled, so every path is ABSENT (R61). -/
def resetInm (pres : Vector Bool 6) : Inm :=
  ⟨Vector.replicate 6 .absent, pres.map resetDebouncer, resetMonitor⟩

/-- SSW after power-on reset (R85). -/
def resetSsw : Ssw :=
  ⟨none, false, none, none, .none, [], 0, none, false, false, false, 0, false, false, false, true⟩

/-- GEO after power-on reset (R104). DESIGN CHOICE (log 57): the live keystone is (0, 0) until settling sets it. -/
def resetGeo : Geo := ⟨0, 0, 0, .v, false, none, none⟩

/-- LKC after power-on reset: KEYLOCK as the line stands (R117, R123). -/
def resetLkc (keylock : Bool) : Lkc := ⟨false, none, false, keylock, false⟩

/-- KPI after power-on reset: the accepted pair is the levels of the lines, the buttons are released (R94). -/
def resetKpi (a b : Bool) : Kpi := ⟨a, b, false, false, false⟩

/-- A port after power-on reset (R176). -/
def resetPort : Port := ⟨[], [], none, [], false⟩

/-- PTC after power-on reset (R176). DESIGN CHOICE (log 60): a transaction on E under way is forgotten. -/
def resetPtc : Ptc := ⟨resetPort, resetPort, resetPort, .idle, .idle, .idle, []⟩

/-- CAL starting afresh (R125). -/
def freshCal : Cal := ⟨firstDate, midnight, false, false⟩

/-- The CRC field of an image that has never been written (log entry 3). -/
def blankCrc : Half := 0xFFFF

/-- Nonvolatile memory that has never been written: all five images bad (R186). -/
def blankImages : Images :=
  ⟨⟨defaultSettings, blankCrc, false⟩, ⟨defaultLamp, blankCrc, false⟩, ⟨defaultInputs, blankCrc, false⟩,
   ⟨defaultTimings, blankCrc, false⟩, ⟨defaultTimetable, blankCrc, false⟩⟩

end Sys2Proof.Machine
end

