-- ==== Sys2Proof/Machine/Operands.lean ====
section
/-! DEFINITION. What a request's raw fields stand for (R189, 11.4): codes, dates, signed values, clamped values, the entries
they carry, and the calendar arithmetic behind dates. -/

namespace Sys2Proof.Machine

/-! ### Codes of fields (11.4); `none`: a code outside its table -/

/-- A yes/no or on/off field. -/
def boolOf (b : Byte) : Option Bool := if b = 0 then some false else if b = 1 then some true else none

/-- A lamp mode or ceiling: 02h ECO, 03h FULL (R22: any other value is INVALID). -/
def modeOf (b : Byte) : Option LampMode := if b = 2 then some .eco else if b = 3 then some .full else none

/-- A level a setting, an entry or a base level may hold: OPEN..SECURED (R112, R130, R144). -/
def levelOf (b : Byte) : Option Level :=
  if b = 0 then some .openLevel else if b = 1 then some .lecture else if b = 2 then some .presenter
  else if b = 3 then some .secured else none

def inputKindOf (b : Byte) : Option InputKind :=
  if b = 0 then some .digitalA else if b = 1 then some .digitalB else if b = 2 then some .analog
  else if b = 3 then some .twistedPair else none

def aspectOf (b : Byte) : Option Aspect :=
  if b = 0 then some .fit else if b = 1 then some .fill else if b = 2 then some .native else none

/-- An index below `n`. -/
def indexOf (n : Nat) (b : Byte) : Option (Fin n) := if h : b.toNat < n then some ⟨b.toNat, h⟩ else none

/-- An optional source: FFh is absent; `none`: neither absent nor an input (R129, R130, R189). -/
def sourceOf (b : Byte) : Option (Option (Fin 6)) := if b = absent1 then some none else (indexOf 6 b).map some

/-- The origin an E frame names (R106). -/
def eOriginOf (b : Byte) : Option Origin := if b = 1 then some .engine else if b = 2 then some .remote else none

/-- The origin of a request taken on a port; `none`: an E frame naming neither ENGINE nor REMOTE (R106). -/
def originOn (p : PortId) (b : Byte) : Option Origin :=
  match p with
  | .e => eOriginOf b
  | .l => some .lectern
  | .f => some .facilities

/-! ### Keystone values -/

/-- Clamp to −m..+m (R90). -/
def clampSym (m n : Int) : Int := if n < -m then -m else if m < n then m else n

/-- A live value after a KEYSTONE: the value carried replaces it or is added to it, and is clamped (R92). -/
def keystoneValue (relative : Bool) (m live : Int) (b : Byte) : Int :=
  clampSym m (if relative then live + b.toInt else b.toInt)

/-- That value before its clamp. -/
def keystoneWanted (relative : Bool) (live : Int) (b : Byte) : Int := if relative then live + b.toInt else b.toInt

/-! ### The calendar (R124, R127) -/

/-- Every fourth year of 2000..2099 is a leap year. -/
def leap (year : Nat) : Bool := year % 4 == 0

/-- The days of a month. -/
def monthDays (year month : Nat) : Nat :=
  match month with
  | 2 => if leap year then 29 else 28
  | 4 | 6 | 9 | 11 => 30
  | _ => 31

/-- A date of the calendar range. -/
def validDate (d : Date) : Bool :=
  decide (2000 ≤ d.year) && decide (d.year ≤ 2099) && decide (1 ≤ d.month) && decide (d.month ≤ 12)
    && decide (1 ≤ d.day) && decide (d.day ≤ monthDays d.year d.month)

/-- A time of day. -/
def validTime (t : TimeOfDay) : Bool := decide (t.hour ≤ 23) && decide (t.minute ≤ 59) && decide (t.second ≤ 59)

def dateOf (d : RawDate) : Date := ⟨2000 + d.year.toNat, d.month.toNat, d.day.toNat⟩

def timeOf (t : RawTime) : TimeOfDay := ⟨t.hour.toNat, t.minute.toNat, t.second.toNat⟩

/-- Dates compare as numbers. -/
def dateKey (d : Date) : Nat := d.year * 10000 + d.month * 100 + d.day

/-- `a` is before `b`. -/
def dateBefore (a b : Date) : Bool := decide (dateKey a < dateKey b)

/-- The date after `d`; after 2099-12-31 comes 2000-01-01 (R124). -/
def nextDate (d : Date) : Date :=
  if d.day < monthDays d.year d.month then { d with day := d.day + 1 }
  else if d.month < 12 then ⟨d.year, d.month + 1, 1⟩
  else if d.year < 2099 then ⟨d.year + 1, 1, 1⟩
  else firstDate

/-- The days of the months before this one. -/
def daysBeforeMonth (year : Nat) : Nat → Nat
  | 0 => 0
  | 1 => 0
  | m + 1 => daysBeforeMonth year m + monthDays year m

/-- The days from 2000-01-01 to `d`. -/
def daysSince2000 (d : Date) : Nat :=
  365 * (d.year - 2000) + (d.year - 2000 + 3) / 4 + daysBeforeMonth d.year d.month + (d.day - 1)

/-- The weekday, 0 Monday .. 6 Sunday: 2000-01-01 is a Saturday and each later date is one weekday on (R124). -/
def weekday (d : Date) : Nat := (5 + daysSince2000 d) % 7

/-- The minute of the day. -/
def minuteOf (t : TimeOfDay) : Nat := t.hour * 60 + t.minute

/-- The second of the day. -/
def secondOf (t : TimeOfDay) : Nat := t.hour * 3600 + t.minute * 60 + t.second

/-- A time of day `n` seconds later, modulo 24 h (R5). -/
def timeAfter (t : TimeOfDay) (n : Nat) : TimeOfDay :=
  let k := (secondOf t + n) % 86400
  ⟨k / 3600, k / 60 % 60, k % 60⟩

/-! ### Timetable entries (R129, R130) -/

/-- The day set or the date of an entry; `none`: neither form, an empty day set or an impossible date (R130). Bit 7 of the
day-set byte names nothing and is ignored (R189). DEDUCED (log 58): so are the second and third day-field bytes of the weekday
form. -/
def daysOf (form : Byte) (day : RawDate) : Option EntryDays :=
  if form = 0 then
    if day.year.extractLsb' 0 7 = (0 : BitVec 7) then none else some (.weekly (day.year.extractLsb' 0 7))
  else if form = 1 then if validDate (dateOf day) then some (.dated (dateOf day)) else none
  else none

/-- The entry an ENTRY_WRITE carries, its warn lead clamped; `none`: INVALID by the field checks of R130. -/
def entryOf (e : RawEntry) : Option Entry := do
  let enabled ← boolOf e.enabled
  let days ← daysOf e.form e.day
  let powerOn ← boolOf e.startAction
  let powerOff ← boolOf e.endAction
  let source ← sourceOf e.source
  let level ← levelOf e.level
  if Config.startMax < e.start.toNat ∨ e.stop.toNat < e.start.toNat + Config.spanMin
      ∨ Config.dayMinutes < e.stop.toNat ∨ Config.allowanceMax < e.allowance.toNat then none
  else
    some { enabled := enabled, days := days, start := e.start.toNat, stop := e.stop.toNat, powerOn := powerOn,
           powerOff := powerOff, source := source, level := level,
           warnLead := min e.warnLead.toNat Config.warnLeadMax, allowance := e.allowance.toNat }

/-! ### Timing entries (R56, R58) -/

/-- The entry a TIMING_LOAD writes, in use; `none`: a field outside its range or a min above its max (R58). -/
def timingOf (t : RawTiming) : Option TimingEntry :=
  let e : TimingEntry := ⟨true, t.linesMin.toNat, t.linesMax.toNat, t.periodMin.toNat, t.periodMax.toNat,
    t.width.toNat, t.height.toNat⟩
  if Config.timingLines.holds e.linesMin && Config.timingLines.holds e.linesMax
      && Config.timingPeriod.holds e.periodMin && Config.timingPeriod.holds e.periodMax
      && Config.activeW.holds e.width && Config.activeH.holds e.height
      && decide (e.linesMin ≤ e.linesMax) && decide (e.periodMin ≤ e.periodMax) then some e
  else none

/-! ### Labels (R46, R189) -/

/-- A character a label may hold. -/
def labelChar (b : Byte) : Bool := decide (0x20 ≤ b.toNat) && decide (b.toNat ≤ 0x7E)

/-- The label of 13 bytes; `none`: too long, or a character outside 20h..7Eh. Bytes beyond the length are ignored. -/
def labelOf (l : RawLabel) : Option (List Byte) :=
  if 12 < l.len.toNat then none
  else if (l.chars.take l.len.toNat).all labelChar then some (l.chars.take l.len.toNat) else none

end Sys2Proof.Machine
end

