-- ==== Sys2Proof/Machine/State.lean ====
section
/-! DEFINITION. The state of the block, its updates field by field, what a step can stop with, and the state after
power-on reset. -/

namespace Sys2Proof.Machine

/-- Everything the part holds. The five stored records stand once, as the live values their owning blocks use (R178); what
a rule derives from other items (the effective power level, the effective lockout level, the condition, the output lines)
is computed in Machine/Flags.lean. -/
structure State where
  /-- The input lines and main supply. -/
  lines : Lines
  /-- Second events since power-on reset (00_scope, "Time"). -/
  uptime : Nat
  /-- The live content of LAMP. -/
  lamp : LampRecord
  /-- The live content of INPUTS. -/
  inputs : InputsRecord
  /-- The live content of TIMINGS. -/
  timings : TimingsRecord
  /-- The live content of TIMETABLE. -/
  timetable : TimetableRecord
  /-- The live content of SETTINGS. -/
  settings : Settings
  /-- Lamp Sequencer. -/
  lsq : Lsq
  /-- The lit seconds since commit (R42). -/
  sinceCommit : Nat
  /-- Input Monitor. -/
  inm : Inm
  /-- Source Switch. -/
  ssw : Ssw
  /-- Geometry Unit. -/
  geo : Geo
  /-- Lockout Control. -/
  lkc : Lkc
  /-- Calendar Clock. -/
  cal : Cal
  /-- Session Control: the session record, absent when none is open (R142). -/
  ses : Option Session
  /-- Keypad Interface. -/
  kpi : Kpi
  /-- Port Controller. -/
  ptc : Ptc
  /-- Settings Store. -/
  sto : Sto
  /-- The commands that are waiting, first in first out. -/
  pending : List Instr
  deriving DecidableEq, Repr

/-- The reasons a command could stop with a fault: none. Every rule of the spec gives its command an effect, so no
constructor stands here. -/
inductive Fault where
  deriving DecidableEq, Repr

/-- The reasons a command is refused. -/
inductive Refusal where
  /-- Raised by `exec` for a command whose meaning is not written yet; safe: nothing is claimed of it. -/
  | notModelled (mnemonic : String)
  deriving DecidableEq, Repr

/-! ### Updates -/

namespace State

def modLines (s : State) (f : Lines → Lines) : State := { s with lines := f s.lines }
def modUptime (s : State) (f : Nat → Nat) : State := { s with uptime := f s.uptime }
def modLamp (s : State) (f : LampRecord → LampRecord) : State := { s with lamp := f s.lamp }
def modInputs (s : State) (f : InputsRecord → InputsRecord) : State := { s with inputs := f s.inputs }
def modTimings (s : State) (f : TimingsRecord → TimingsRecord) : State := { s with timings := f s.timings }
def modTimetable (s : State) (f : TimetableRecord → TimetableRecord) : State := { s with timetable := f s.timetable }
def modSettings (s : State) (f : Settings → Settings) : State := { s with settings := f s.settings }
def modLsq (s : State) (f : Lsq → Lsq) : State := { s with lsq := f s.lsq }
def modSinceCommit (s : State) (f : Nat → Nat) : State := { s with sinceCommit := f s.sinceCommit }
def modInm (s : State) (f : Inm → Inm) : State := { s with inm := f s.inm }
def modSsw (s : State) (f : Ssw → Ssw) : State := { s with ssw := f s.ssw }
def modGeo (s : State) (f : Geo → Geo) : State := { s with geo := f s.geo }
def modLkc (s : State) (f : Lkc → Lkc) : State := { s with lkc := f s.lkc }
def modCal (s : State) (f : Cal → Cal) : State := { s with cal := f s.cal }
def modSes (s : State) (f : Option Session → Option Session) : State := { s with ses := f s.ses }
def modKpi (s : State) (f : Kpi → Kpi) : State := { s with kpi := f s.kpi }
def modPtc (s : State) (f : Ptc → Ptc) : State := { s with ptc := f s.ptc }
def modSto (s : State) (f : Sto → Sto) : State := { s with sto := f s.sto }
def modPending (s : State) (f : List Instr → List Instr) : State := { s with pending := f s.pending }

/-- Right after power-on reset by a rise of main supply, RESET not asserted, at a first start-up: nonvolatile memory never
written, the backup domain fresh, every input line low, the records still to be loaded (R24, R61, R85, R104, R123, R125,
R162, R176, R185). Until a record is loaded its live content is its default (R61, R141). -/
def reset : State :=
  { lines := ⟨false, false, Vector.replicate 6 false, false, false, false, false, false, false, true⟩
    uptime := 0
    lamp := defaultLamp
    inputs := defaultInputs
    timings := defaultTimings
    timetable := defaultTimetable
    settings := defaultSettings
    lsq := resetLsq
    sinceCommit := 0
    inm := resetInm (Vector.replicate 6 false)
    ssw := resetSsw
    geo := resetGeo
    lkc := resetLkc false
    cal := freshCal
    ses := none
    kpi := resetKpi false false
    ptc := resetPtc
    sto := ⟨blankImages, [], none, .off, .loading⟩
    pending := [] }

end State

end Sys2Proof.Machine
end

