-- ==== Sys2Proof/Machine/Flags.lean ====
section
/-! DEFINITION. What the rules derive from held items: the lamp's condition, the effective power level, the strike window,
the effective lockout level, the permission table, the output lines, and whether the part is running. -/

namespace Sys2Proof.Machine

/-! ### Running -/

/-- Main supply is present and RESET is not asserted. -/
def State.powered (s : State) : Bool := s.lines.supply && !s.lines.reset

/-- Start-up is COMPLETE and the part runs: ports frame and take requests, keypad events are acted on, LLC counts (R187). -/
def State.operating (s : State) : Bool := s.powered && s.sto.phase == .complete

/-! ### The lamp -/

/-- The condition found from the equivalent hours and the limits (R33). -/
def condition (r : LampRecord) : Condition :=
  if r.lifeHours ≤ r.cur.hours then .expired else if r.warnHours ≤ r.cur.hours then .worn else .good

/-- ECO is lower than FULL (R21). -/
def lowerMode : LampMode → LampMode → PowerLevel
  | .full, .full => .full
  | _, _ => .eco

/-- The effective power level (R21). The dim input is SSW's dim report as last handed to LSQ (R82). -/
def State.powerLevel (s : State) : PowerLevel :=
  match s.lsq.state with
  | .striking | .warmup => .full
  | _ => if s.ssw.dimReport && s.settings.autoDim then .dim else lowerMode s.settings.mode s.settings.ceiling

/-- The units a lit second adds (R25). -/
def levelUnits : PowerLevel → Nat
  | .full => 8
  | .eco => 5
  | .dim => 4

/-- The window is full when the log holds STRIKE_MAX stamps and the oldest is younger than STRIKE_WINDOW (R4). -/
def State.windowFull (s : State) : Bool :=
  match s.lsq.strikeLog with
  | [] => false
  | oldest :: _ =>
    decide (s.settings.strikeMax ≤ s.lsq.strikeLog.length) && decide (s.uptime - oldest < s.settings.strikeWindow)

/-- The seconds until the window opens: at the oldest stamp plus STRIKE_WINDOW (R4). -/
def State.windowWait (s : State) : Nat :=
  match s.lsq.strikeLog with
  | [] => 0
  | oldest :: _ => oldest + s.settings.strikeWindow - s.uptime

/-- The seconds until the cool timer expires. -/
def State.coolWait (s : State) : Nat := s.lsq.coolTimer.getD 0

/-- The opening time STRIKE_HELD reports (R5). -/
def State.openingTime (s : State) (r : HeldReason) : TimeOfDay :=
  timeAfter s.cal.time <|
    match r with
    | .window => s.windowWait
    | .cooling => s.coolWait
    | .coolingWindow => max s.windowWait s.coolWait

/-- WARMUP, ON and OFF_PENDING. -/
def litState : LampState → Bool
  | .warmup | .on | .offPending => true
  | _ => false

/-- STRIKING, WARMUP, ON and OFF_PENDING: PLEV drives the level (R1), and a press asks to confirm (R119). -/
def drivenState : LampState → Bool
  | .striking | .warmup | .on | .offPending => true
  | _ => false

/-! ### The output lines -/

/-- IGNITE: asserted during an attempt, and never while LIT is asserted (R1). -/
def State.ignite (s : State) : Bool :=
  s.operating && s.lsq.state == .striking && s.lsq.attemptTimer.isSome && !s.lines.lit

/-- PLEV1..0 (R1, R24). -/
def State.plev (s : State) : Nat :=
  if s.operating && drivenState s.lsq.state then
    match s.powerLevel with
    | .dim => 1
    | .eco => 2
    | .full => 3
  else 0

/-- FAN: asserted in every state other than OFF and FAULT, and until the records are loaded (R1, R24). -/
def State.fan (s : State) : Bool :=
  s.lines.supply && (!s.operating || !(s.lsq.state == .off || s.lsq.state == .fault))

/-- XSEL2..0: the selected input's index, 7 for none (R62). -/
def State.xsel (s : State) : Nat :=
  match s.ssw.selected with
  | some i => i.val
  | none => 7

/-- ATTN: asserted while E holds a reply or a notice (R170); negated while ENG_RST is asserted (R177). -/
def State.attn (s : State) : Bool :=
  s.operating && !s.lines.engRst && (s.ptc.e.reply.isSome || !s.ptc.e.queue.isEmpty)

/-- Store-busy: a commit is in flight (R180). -/
def State.storeBusy (s : State) : Bool := s.sto.inflight.isSome

/-! ### The picture -/

/-- The path state of the selected input. -/
def State.selPath (s : State) : Option PathState := s.ssw.selected.map fun i => s.inm.path[i]

/-- The selected input is TRAINED and LOCKED. -/
def State.locked (s : State) : Bool := s.ssw.trained && s.selPath == some .locked

/-- The four conditions of R80 under which MUTE may be released. -/
def State.showable (s : State) : Bool :=
  (s.lsq.state == .on || s.lsq.state == .offPending) && s.locked && !s.ssw.userMute && s.ssw.ready

/-- The no-signal count runs (R81). -/
def State.nosigRunning (s : State) : Bool :=
  litState s.lsq.state && s.ssw.trained && !s.locked && !s.ssw.powerOffSince

/-- The path state of an unselected input (R50). -/
def State.restPath (s : State) (i : Fin 6) : PathState :=
  if s.inputs.entries[i].enabled then (if s.inm.deb[i].presence then .present else .absent) else .disabled

/-! ### Lockout -/

/-- The order OPEN < LECTURE < PRESENTER < SECURED < SERVICE. -/
def levelRank : Level → Nat
  | .openLevel => 0 | .lecture => 1 | .presenter => 2 | .secured => 3 | .service => 4

/-- The higher of two levels. -/
def higher (a b : Level) : Level := if levelRank a < levelRank b then b else a

/-- SERVICE when the service flag is set, otherwise the highest of the base level, the session level and, with the presenter
hold, PRESENTER (R110). -/
def lockLevel (base : Level) (k : Lkc) : Level :=
  if k.service then .service
  else
    let withSession := match k.sessionLevel with
      | some l => higher base l
      | none => base
    if k.hold then higher withSession .presenter else withSession

/-- The effective level. -/
def State.effLevel (s : State) : Level := lockLevel s.settings.baseLevel s.lkc

/-- ENGINE, REMOTE, LECTERN, FACILITIES and KEYPAD. -/
def userOrigin : Origin → Bool
  | .timetable | .part => false
  | _ => true

/-- The user origins the permission table allows a class at a level (R108); a request of class READ is always allowed
(R107). -/
def allowedOrigins : ReqClass → Level → List Origin
  | .read, _ => [.engine, .remote, .keypad, .lectern, .facilities]
  | .power, .openLevel => [.engine, .remote, .keypad, .lectern, .facilities]
  | .power, .lecture => [.engine, .lectern, .facilities]
  | .picture, .openLevel | .picture, .lecture | .geometry, .openLevel | .geometry, .lecture =>
    [.engine, .remote, .keypad, .lectern, .facilities]
  | .power, .presenter | .picture, .presenter | .geometry, .presenter | .session, .presenter => [.lectern, .facilities]
  | .power, .secured | .picture, .secured | .geometry, .secured => [.facilities]
  | .power, .service | .picture, .service | .geometry, .service | .session, .service => [.engine]
  | .session, .openLevel | .session, .lecture => [.engine, .remote, .lectern, .facilities]
  | .session, .secured => [.lectern, .facilities]
  | .timetable, .secured | .lampService, .secured => [.facilities]
  | .timetable, _ | .lampService, _ => [.engine, .facilities]
  | .config, .service => [.engine]
  | .config, _ => [.engine, .facilities]
  | .lockout, .secured | .lockout, .service => [.engine, .facilities]
  | .lockout, _ => [.engine, .lectern, .facilities]

/-- The permission table allows the class to the origin at the level. -/
def permitted (l : Level) (o : Origin) (c : ReqClass) : Bool := (allowedOrigins c l).contains o

/-- The narrowing of a LOCKOUT request by its kind, its action and its origin (R109). -/
def narrowed : Request → Origin → Bool
  | .presenterHold a, .lectern => a = 0 || a = 1
  | .lockoutBase _, .facilities => true
  | .service a, .facilities => a = 0
  | .service a, .engine => a = 0 || a = 1
  | .lockoutBase _, _ | .presenterHold _, _ | .service _, _ => false
  | _, _ => true

/-- The check of LKC on a request of a user origin (R107, R109). -/
def checkPasses (l : Level) (o : Origin) (r : Request) : Bool :=
  permitted l o (kindClass (requestKind r)) && narrowed r o

/-- The check of a keypad event (R118). -/
def State.keypadPasses (s : State) (c : ReqClass) : Bool := !s.lkc.keylock && permitted s.effLevel .keypad c

end Sys2Proof.Machine
end

