-- ==== Sys2Proof/Machine/Layout.lean ====
section
/-! DEFINITION. The codes of 11.4 and the layouts of 11.5 and R191: notices, replies and the records they carry. -/

namespace Sys2Proof.Machine

/-! ### Codes (11.4) -/

def originCode : Origin → Byte
  | .engine => 1 | .remote => 2 | .lectern => 3 | .facilities => 4 | .keypad => 5 | .timetable => 6 | .part => 7

def lampCode : LampState → Byte
  | .off => 0 | .striking => 1 | .warmup => 2 | .on => 3 | .offPending => 4 | .cooling => 5 | .faultCooling => 6
  | .fault => 7

def powerCode : PowerLevel → Byte
  | .dim => 1 | .eco => 2 | .full => 3

def modeCode : LampMode → Byte
  | .eco => 2 | .full => 3

def conditionCode : Condition → Byte
  | .good => 0 | .worn => 1 | .expired => 2

def faultCode : FaultKind → Byte
  | .ignition => 1 | .ballast => 2 | .litLost => 3

def lampCauseCode : LampCause → Byte
  | .request => 0 | .timer => 1 | .line => 2 | .fault => 3 | .clear => 4 | .start => 5

def heldReasonCode : HeldReason → Byte
  | .cooling => 1 | .window => 2 | .coolingWindow => 3

def dropCode : DropCause → Byte
  | .expired => 1 | .fault => 2

def levelCode : Level → Byte
  | .openLevel => 0 | .lecture => 1 | .presenter => 2 | .secured => 3 | .service => 4

def lockCauseCode : LockCause → Byte
  | .base => 0 | .hold => 1 | .session => 2 | .service => 3

def keypadEventCode : KeypadEvent → Byte
  | .power => 0 | .source => 1 | .axis => 2 | .dial => 3

def denialCode : DenialCause → Byte
  | .keylock => 0 | .level => 1

def inputKindCode : InputKind → Byte
  | .digitalA => 0 | .digitalB => 1 | .analog => 2 | .twistedPair => 3

def aspectCode : Aspect → Byte
  | .fit => 0 | .fill => 1 | .native => 2

def pathCode : PathState → Byte
  | .disabled => 0 | .absent => 1 | .present => 2 | .training => 3 | .locked => 4 | .unsupported => 5 | .recovery => 6
  | .noSignal => 7

/-- 08h: SUPERSEDED, in notices only. -/
def noticePathCode : Option PathState → Byte
  | some p => pathCode p
  | none => 8

def switchCode : SwitchKind → Byte
  | .select => 0 | .retrain => 1 | .scan => 2 | .recovery => 3

def phaseCode : ScanPhase → Byte
  | .none => 0 | .trying => 1 | .returning => 2

def monitorCode : MonitorMode → Byte
  | .idle => 0 | .seeking => 1 | .tracking => 2

def warpCauseCode : WarpCause → Byte
  | .keystone => 0 | .dial => 1 | .select => 2 | .lock => 3 | .reclass => 4 | .config => 5 | .panel => 6 | .session => 7
  | .start => 8

def axisCode : DialAxis → Byte
  | .v => 0 | .h => 1

def sessionKindCode : SessionKind → Byte
  | .scheduled => 0 | .manual => 1

def wayCode : SessionWay → Byte
  | .minute => 0 | .late => 1 | .manual => 2

def openOutcomeCode : OpenOutcome → Byte
  | .started => 0 | .alreadyLit => 1 | .deferred => 2 | .lampRefused => 3 | .noAction => 4 | .suppressed => 5

def closeReasonCode : CloseReason → Byte
  | .ended => 0 | .request => 1 | .powerOff => 2 | .handover => 3

def fateCode : ActionFate → Byte
  | .issued => 0 | .noAction => 1 | .suppressed => 2 | .notApplicable => 3

def sourceStateCode : SourceState → Byte
  | .pending => 0 | .locked => 1 | .unsupported => 2 | .noSignal => 3 | .absent => 4 | .superseded => 5 | .refused => 6

def recordCode : RecordName → Byte
  | .settings => 0 | .lamp => 1 | .inputs => 2 | .timings => 3 | .timetable => 4

def lostCode : LostCause → Byte
  | .crc => 0 | .range => 1

/-- 11.1. -/
def statusCode : Status → Byte
  | .done => 0 | .accepted => 1 | .clamped => 2 | .denied => 3 | .refused => 4 | .conflict => 5 | .full => 6
  | .invalid => 7

/-- 11.1. -/
def reasonCode : Reason → Byte
  | .lampExpired => 1 | .lampFault => 2 | .lampBusy => 3 | .inputDisabled => 4 | .notSelected => 5 | .noSession => 6
  | .extExhausted => 7 | .nextEntry => 8 | .lampNotOff => 9

/-! ### Fields -/

/-- A one-byte index. -/
def finByte {n : Nat} (i : Fin n) : Byte := byte1 i.val

/-- An optional one-byte field: FFh when absent (R189). -/
def optByte {α : Type} (f : α → Byte) : Option α → Byte
  | some a => f a
  | none => absent1

/-- An optional two-byte field: FFFFh when absent (R189). -/
def optHalf : Option Nat → List Byte
  | some n => byte2 n
  | none => [absent1, absent1]

/-- A date (R189). -/
def dateBytes (d : Date) : List Byte := [byte1 (d.year - 2000), byte1 d.month, byte1 d.day]

/-- A time of day (R189). -/
def timeBytes (t : TimeOfDay) : List Byte := [byte1 t.hour, byte1 t.minute, byte1 t.second]

/-- A label: its length, then 12 bytes padded with 20h (R189). -/
def labelBytes (l : List Byte) : List Byte := byte1 l.length :: (l ++ List.replicate (12 - l.length) 0x20)

/-! ### Notices (R172, R191) -/

/-- The notice kind's code (11.4). -/
def kindNumber : Payload → Nat
  | .lampState .. => 1 | .lampWarn .. => 2 | .lampExpired .. => 3 | .lampFault .. => 4
  | .strikeHeld .. => 5 | .strikeDropped .. => 5
  | .sourceState .. => 6 | .warpReady .. => 7 | .keypadDenied .. => 8 | .keypadConfirm .. => 9
  | .sessionOpen .. => 10 | .sessionWarn .. => 11 | .sessionClosed .. => 12 | .lockoutChanged .. => 13
  | .timeInvalid .. => 14 | .storeLost .. => 15 | .overflow => 16

/-- The payload's bytes (R191). A field that does not apply is FFh. -/
def payloadBytes : Payload → List Byte
  | .lampState new prev attempt cause => [lampCode new, lampCode prev, byte1 attempt, lampCauseCode cause]
  | .lampWarn new prev hours limit => [conditionCode new, conditionCode prev] ++ byte2 hours ++ byte2 limit
  | .lampExpired new prev hours limit => [conditionCode new, conditionCode prev] ++ byte2 hours ++ byte2 limit
  | .lampFault kind before later => [faultCode kind, lampCode before, byte1 later]
  | .strikeHeld origin reason opens => [0, originCode origin, heldReasonCode reason] ++ timeBytes opens
  | .strikeDropped origin cause => [1, originCode origin, dropCode cause, absent1, absent1, absent1]
  | .sourceState input path record index kind =>
    [finByte input, noticePathCode path, optByte (fun r => switchCode r.kind) record,
     optByte (fun r => originCode r.origin) record, optByte (fun r => flag r.superseded) record,
     optByte finByte index, inputKindCode kind]
  | .warpReady generation input cause => [byte1 generation, finByte input, warpCauseCode cause]
  | .keypadDenied event cause level => [keypadEventCode event, denialCode cause, levelCode level]
  | .keypadConfirm state seconds => [lampCode state, byte1 seconds]
  | .sessionOpen kind slot way plannedEnd level outcome reason =>
    [sessionKindCode kind, optByte finByte slot, wayCode way] ++ byte2 plannedEnd
      ++ [levelCode level, openOutcomeCode outcome, optByte reasonCode reason]
  | .sessionWarn kind slot plannedEnd minutesLeft extensionsLeft =>
    [sessionKindCode kind, optByte finByte slot] ++ byte2 plannedEnd ++ byte2 minutesLeft ++ [byte1 extensionsLeft]
  | .sessionClosed kind slot reason used fate =>
    [sessionKindCode kind, optByte finByte slot, closeReasonCode reason, byte1 used, fateCode fate]
  | .lockoutChanged new prev cause base hold session service =>
    [levelCode new, levelCode prev, lockCauseCode cause, levelCode base, flag hold, optByte levelCode session,
     flag service]
  | .timeInvalid date => dateBytes date
  | .storeLost record cause => [recordCode record, lostCode cause]
  | .overflow => []

/-- A notice as a NOTICES_READ reply carries it: kind, time, payload length, payload (R191). -/
def noticeEntry (n : Notice) : List Byte :=
  [byte1 (kindNumber n.payload)] ++ timeBytes n.time ++ [byte1 (payloadBytes n.payload).length] ++ payloadBytes n.payload

/-- The body of a notice frame on L or F (11.1). -/
def noticeBody (n : Notice) : List Byte :=
  [0x03, byte1 (kindNumber n.payload)] ++ timeBytes n.time ++ payloadBytes n.payload

/-- The body of a reply (11.1). -/
def replyBody (r : Reply) : List Byte := 0x02 :: r.code :: statusCode r.status :: r.fields

/-! ### Records (11.5) -/

/-- The fault record as FAULT_READ returns it. -/
def faultBytes : Option FaultRecord → List Byte
  | none => [0]
  | some r =>
    [1, faultCode r.kind] ++ dateBytes r.date ++ timeBytes r.time ++ [lampCode r.state] ++ byte2 r.hours ++ byte2 r.sub
      ++ byte2 r.strikes ++ [byte1 r.later]

/-- The current lamp record as LAMP_READ returns it. -/
def lampBytes (c : Condition) (r : LampRecord) : List Byte :=
  [conditionCode c] ++ byte2 r.cur.hours ++ byte2 r.cur.sub ++ byte4 r.cur.litSeconds ++ byte2 r.cur.strikes
    ++ byte2 r.cur.failed ++ dateBytes r.cur.installed ++ [flag r.cur.installedValid, flag r.cur.hot]
    ++ byte2 r.warnHours ++ byte2 r.lifeHours ++ byte2 r.strikeWear

/-- A closed lamp record. -/
def closedBytes (r : ClosedLamp) : List Byte :=
  byte2 r.hours ++ byte2 r.sub ++ byte4 r.litSeconds ++ byte2 r.strikes ++ byte2 r.failed ++ dateBytes r.installed
    ++ [flag r.installedValid] ++ dateBytes r.removed ++ [flag r.removedValid, conditionCode r.condition]

/-- A timing entry's 12 bytes. -/
def timingBytes (e : TimingEntry) : List Byte :=
  byte2 e.linesMin ++ byte2 e.linesMax ++ byte2 e.periodMin ++ byte2 e.periodMax ++ byte2 e.width ++ byte2 e.height

/-- A corner. -/
def cornerBytes (c : Corner) : List Byte := byte2 c.x ++ byte2 c.y

/-- The active warp record's 34 bytes. -/
def warpBytes (a : ActiveWarp) : List Byte :=
  cornerBytes a.warp.tl ++ cornerBytes a.warp.tr ++ cornerBytes a.warp.br ++ cornerBytes a.warp.bl ++ byte2 a.warp.wf
    ++ byte2 a.warp.hf ++ byte2 a.warp.xf ++ byte2 a.warp.yf ++ [signed a.warp.v, signed a.warp.h]
    ++ optHalf (a.warp.source.map (·.1)) ++ optHalf (a.warp.source.map (·.2))
    ++ [aspectCode a.warp.aspect, finByte a.warp.input, byte1 a.generation, warpCauseCode a.warp.cause]

/-- The form byte and the three bytes of a day set or a date. -/
def daysBytes : EntryDays → List Byte
  | .weekly days => [0, days.setWidth 8, 0, 0]
  | .dated d => 1 :: dateBytes d

/-- A timetable entry's 15 bytes. -/
def entryBytes (e : Entry) : List Byte :=
  [flag e.enabled] ++ daysBytes e.days ++ byte2 e.start ++ byte2 e.stop
    ++ [flag e.powerOn, flag e.powerOff, optByte finByte e.source, levelCode e.level, byte1 e.warnLead,
        byte1 e.allowance]

/-- The session record as SESSION_READ returns it. -/
def sessionBytes : Option Session → List Byte
  | none => [0]
  | some r =>
    [1, sessionKindCode r.kind, optByte finByte r.slot] ++ dateBytes r.openedDate ++ timeBytes r.openedTime
      ++ dateBytes r.date ++ byte2 r.plannedEnd
      ++ [levelCode r.level, byte1 r.warnLead, byte1 r.allowance, byte1 r.used, flag r.warned, flag r.endOff,
          optByte finByte r.source, optByte sourceStateCode r.sourceState, flag r.deferred, flag r.suppressed]

/-- The frame of lines and period of a measurement, absent as FFh bytes. -/
def measureBytes : Option Measure → List Byte
  | none => List.replicate 5 absent1
  | some m => byte2 m.lines ++ byte3 m.period

/-- FEh: the last stable measurement matched no entry (11.5). -/
def classByte : Option (Option (Fin 24)) → Byte
  | none => absent1
  | some none => 0xFE
  | some (some k) => finByte k

/-- The monitor's fields of INPUT_READ. -/
def monitorBytes (m : Monitor) : List Byte :=
  [monitorCode m.mode, byte1 ((if m.lastFrame.isSome then 1 else 0) + (if m.lastStable.isSome then 2 else 0))]
    ++ measureBytes m.lastFrame ++ measureBytes (m.lastStable.map (·.measure))
    ++ [classByte (m.lastStable.map (·.entry))]

end Sys2Proof.Machine
end

