-- ==== Sys2Proof/Machine/Ops.lean ====
section
/-! DEFINITION. The operations the blocks share: ports and notice queues (R172, R173), marking a record dirty (R179), the
beginning of a commit (R180), the start of a transmission (R167), and what stands at the end of every command. -/

namespace Sys2Proof.Machine

/-! ### Ports -/

/-- One port. -/
def Ptc.port (t : Ptc) : PortId → Port
  | .e => t.e
  | .l => t.l
  | .f => t.f

/-- Change one port. -/
def Ptc.mod (t : Ptc) (p : PortId) (g : Port → Port) : Ptc :=
  match p with
  | .e => { t with e := g t.e }
  | .l => { t with l := g t.l }
  | .f => { t with f := g t.f }

/-- One port of the part. -/
def State.port (s : State) (p : PortId) : Port := s.ptc.port p

/-- Change one port of the part. -/
def State.modPort (s : State) (p : PortId) (g : Port → Port) : State := s.modPtc fun t => t.mod p g

/-- The subscription mask of a port (R175). -/
def Settings.mask (g : Settings) : PortId → BitVec 24
  | .e => g.maskE
  | .l => g.maskL
  | .f => g.maskF

/-! ### Notices -/

/-- Place a notice in a queue: appended while it holds fewer than 16, otherwise dropped with the overflow mark set (R173). -/
def Port.place (p : Port) (n : Notice) : Port :=
  if p.queue.length < Config.queueMax then { p with queue := p.queue ++ [n] } else { p with overflow := true }

/-- The ports a kind may go to (R172). -/
def mayGo (n : Payload) (p : PortId) : Bool :=
  match n, p with
  | .warpReady .., .e => true
  | .warpReady .., _ => false
  | .keypadDenied .., .e => true
  | .keypadDenied .., _ => false
  | .sessionWarn .., .f => false
  | .storeLost .., .l => false
  | _, _ => true

/-- The mask names the kind: bit n − 1 for kind code n (11.3). STORE_LOST needs no mask (R172). -/
def maskHolds (m : BitVec 24) (n : Payload) : Bool :=
  match n with
  | .storeLost .. => true
  | n => m.getLsbD (kindNumber n - 1)

/-- The port receives a notice that goes to the ports `dest` names (R172); while ENG_RST is asserted a notice for E is
dropped (R177). -/
def receives (s : State) (dest : PortId → Bool) (n : Payload) (p : PortId) : Bool :=
  dest p && mayGo n p && maskHolds (s.settings.mask p) n && !(p == .e && s.lines.engRst)

/-- Raise a notice for the ports `dest` names: stamped with CAL's time of day and placed in each queue that receives it. -/
def raiseFor (dest : PortId → Bool) (n : Payload) (s : State) : State :=
  let put (p : PortId) (q : Port) : Port := if receives s dest n p then q.place ⟨n, s.cal.time⟩ else q
  s.modPtc fun t => { t with e := put .e t.e, l := put .l t.l, f := put .f t.f }

/-- Raise a notice for every port that may receive it. -/
def raise (n : Payload) (s : State) : State := raiseFor (fun _ => true) n s

/-- Notices have left a queue: where the overflow mark is set, one OVERFLOW joins it and the mark is cleared (R173). -/
def Port.afterLeave (p : Port) (now : TimeOfDay) : Port :=
  if p.overflow then { p with queue := p.queue ++ [⟨.overflow, now⟩], overflow := false } else p

/-- Take the oldest `n` notices out of a queue. -/
def Port.dropNotices (p : Port) (n : Nat) (now : TimeOfDay) : Port :=
  if p.queue.isEmpty then p else Port.afterLeave { p with queue := p.queue.drop n } now

/-! ### The store -/

/-- Mark a record dirty: appended to the list unless it stands there (R179). -/
def markDirty (r : RecordName) (s : State) : State :=
  s.modSto fun t => if t.dirty.contains r then t else { t with dirty := t.dirty ++ [r] }

/-- Mark a record dirty when `b` holds. -/
def markIf (b : Bool) (r : RecordName) (s : State) : State := if b then markDirty r s else s

/-- The record a commit writes. -/
def Commit.name : Commit → RecordName
  | .settings _ => .settings
  | .lamp _ => .lamp
  | .inputs _ => .inputs
  | .timings _ => .timings
  | .timetable _ => .timetable

/-- The copy of a record's live content (R180). -/
def State.copyOf (s : State) : RecordName → Commit
  | .settings => .settings s.settings
  | .lamp => .lamp s.lamp
  | .inputs => .inputs s.inputs
  | .timings => .timings s.timings
  | .timetable => .timetable s.timetable

/-- The record the next commit takes: LAMP first, otherwise the oldest in the list; in power-fail mode only the owed final
LAMP commit (R180, R183). -/
def State.nextCommit (s : State) : Option RecordName :=
  match s.sto.pf with
  | .off => if s.sto.dirty.contains .lamp then some .lamp else s.sto.dirty.head?
  | .owed => some .lamp
  | .begun | .done => none

/-- Begin a commit when none is in flight and one may begin (R180). The beginning of a LAMP commit returns the lit seconds
since commit to 0 (R42). -/
def beginCommit (s : State) : State :=
  if s.operating && s.sto.inflight.isNone then
    match s.nextCommit with
    | none => s
    | some r =>
      { s with
        sinceCommit := if r = .lamp then 0 else s.sinceCommit
        sto := { s.sto with
          dirty := s.sto.dirty.erase r
          inflight := some (s.copyOf r)
          pf := if s.sto.pf = .owed then .begun else s.sto.pf } }
  else s

/-! ### Transmitters -/

/-- The transmitter of a UART. -/
def Ptc.tx (t : Ptc) : UartId → Transmitter
  | .l => t.lTx
  | .f => t.fTx

/-- Set the transmitter of a UART. -/
def Ptc.setTx (t : Ptc) (u : UartId) (x : Transmitter) : Ptc :=
  match u with
  | .l => { t with lTx := x }
  | .f => { t with fTx := x }

/-- An idle transmitter sends the reply if the port holds one, and otherwise the oldest notice, which leaves the queue
(R167, R173). -/
def startTx (u : UartId) (s : State) : State :=
  if s.operating && s.ptc.tx u == .idle then
    match (s.port u.port).reply with
    | some r => s.modPtc fun t => t.setTx u (.reply (frameBytes (replyBody r)))
    | none =>
      match (s.port u.port).queue with
      | [] => s
      | n :: _ =>
        s.modPtc fun t =>
          (t.mod u.port fun p => p.dropNotices 1 s.cal.time).setTx u (.notice (frameBytes (noticeBody n)))
  else s

/-- What stands at the end of every command: idle transmitters have begun what they can send, and a commit has begun if one
may. -/
def settle (s : State) : State := beginCommit (startTx .f (startTx .l s))

/-! ### The answers of owning blocks (R166) -/

/-- The status of a reply and its fields. -/
structure Answer where
  status : Status
  fields : List Byte
  deriving DecidableEq, Repr

def Answer.done : Answer := ⟨.done, []⟩
def Answer.doneWith (fields : List Byte) : Answer := ⟨.done, fields⟩
def Answer.accepted : Answer := ⟨.accepted, []⟩
/-- CLAMPED if a value was limited, otherwise DONE, with the same results (11.1). -/
def Answer.clampedIf (clamped : Bool) (fields : List Byte) : Answer := ⟨if clamped then .clamped else .done, fields⟩
def Answer.denied (l : Level) : Answer := ⟨.denied, [levelCode l]⟩
def Answer.refused (r : Reason) : Answer := ⟨.refused, [reasonCode r]⟩
def Answer.conflict (slot : Fin 48) : Answer := ⟨.conflict, [finByte slot]⟩
def Answer.full : Answer := ⟨.full, []⟩
def Answer.invalid : Answer := ⟨.invalid, []⟩

/-- A command whose effect is `f` while the part runs, and nothing before start-up is complete. -/
def whenOperating (f : State → State) (s : State) : State := if s.operating then settle (f s) else s

end Sys2Proof.Machine
end

