-- ==== Sys2Proof/Machine/Mute.lean ====
section
/-! DEFINITION. The picture mute (R80), which the lamp, the switch and the geometry all act on. -/

namespace Sys2Proof.Machine

/-- MUTE is asserted. -/
def assertMute (s : State) : State := s.modSsw fun w => { w with mute := true }

/-- MUTE is asserted and the picture-ready mark cleared, as a change out of LOCKED or a new switch record does (R65, R80). -/
def unready (s : State) : State := s.modSsw fun w => { w with mute := true, ready := false }

/-- MUTE is asserted at once where one of the four conditions of R80 no longer holds. -/
def muteCheck (s : State) : State := if s.showable then s else assertMute s

/-- A release point: MUTE is released where all four conditions of R80 hold. -/
def releasePoint (s : State) : State := if s.showable then s.modSsw fun w => { w with mute := false } else s

/-- GEO reports a take: the picture-ready mark is set if the path is LOCKED, and the report is a release point (R80, R101).
-/
def takeReported (s : State) : State :=
  if s.locked then releasePoint (s.modSsw fun w => { w with ready := true }) else s

end Sys2Proof.Machine
end

