-- ==== Sys2Proof/Machine/Geometry.lean ====
section
/-! DEFINITION. Image Geometry (chapter 5): the computation of a warp, its placement and its take, the live keystone and its
requests, the dial and the axis. -/

namespace Sys2Proof.Machine

/-! ### The computation (5.2) -/

/-- Round half up (5.2). -/
def roundDiv (n d : Nat) : Nat := (2 * n + d) / (2 * d)

/-- The width and height of the fitted rectangle (R88); no source size: the whole panel (R87). -/
def fitSize (pw ph : Nat) (source : Option (Nat × Nat)) (aspect : Aspect) : Nat × Nat :=
  match source with
  | none => (pw, ph)
  | some (ws, hs) =>
    match aspect with
    | .fill => (pw, ph)
    | .native => (min ws pw, min hs ph)
    | .fit =>
      if hs * pw ≤ ws * ph then (pw, roundDiv (hs * pw) ws) else (roundDiv (ws * ph) hs, ph)

/-- The inset of a keystone value over a length (R89). -/
def inset (k : Int) (len : Nat) : Nat := roundDiv (k.natAbs * len) 256

/-- The warp record of R88 and R89. -/
def computeWarp (pw ph : Nat) (source : Option (Nat × Nat)) (aspect : Aspect) (v h : Int) (input : Fin 6)
    (cause : WarpCause) : Warp :=
  let wf := (fitSize pw ph source aspect).1
  let hf := (fitSize pw ph source aspect).2
  let xf := (pw - wf) / 2
  let yf := (ph - hf) / 2
  let iv := inset v wf
  let ih := inset h hf
  let topIn := if 0 < v then iv else 0
  let bottomIn := if v < 0 then iv else 0
  let rightIn := if 0 < h then ih else 0
  let leftIn := if h < 0 then ih else 0
  { tl := ⟨xf + topIn, yf + leftIn⟩
    tr := ⟨xf + wf - 1 - topIn, yf + rightIn⟩
    br := ⟨xf + wf - 1 - bottomIn, yf + hf - 1 - rightIn⟩
    bl := ⟨xf + bottomIn, yf + hf - 1 - leftIn⟩
    wf := wf, hf := hf, xf := xf, yf := yf, v := v, h := h, source := source, aspect := aspect, input := input,
    cause := cause }

/-- The source active size INM returns for an input (R60). -/
def State.sourceSize (s : State) (i : Fin 6) : Option (Nat × Nat) :=
  s.inputs.entries[i].lastTiming.map fun k => (s.timings[k].width, s.timings[k].height)

/-- The warp a recompute finds for an input (R87, R99). -/
def State.warpFor (s : State) (i : Fin 6) (cause : WarpCause) : Warp :=
  computeWarp s.inputs.panelW s.inputs.panelH (s.sourceSize i) s.inputs.entries[i].aspect s.geo.liveV s.geo.liveH i cause

/-! ### Placement and take (5.5) -/

/-- The generation after the active warp's (R101). -/
def nextGeneration (a : Option ActiveWarp) : Nat :=
  match a with
  | none => 0
  | some w => (w.generation + 1) % 256

/-- A warp record is taken: it becomes the active warp with the next generation, WARP_READY is raised, and the take is
reported to SSW (R101). -/
def takeWarp (w : Warp) (s : State) : State :=
  let g := nextGeneration s.geo.active
  takeReported <| raise (.warpReady g w.input w.cause) <|
    s.modGeo fun q => { q with active := some ⟨w, g⟩, pendingWarp := none }

/-- A recompute: on a LOCKED path its record becomes the pending warp, otherwise it is taken at once; a pending warp already
held is discarded (R99). -/
def recompute (cause : WarpCause) (s : State) : State :=
  match s.ssw.selected with
  | none => s
  | some i =>
    if s.locked then s.modGeo fun q => { q with pendingWarp := some (s.warpFor i cause) }
    else takeWarp (s.warpFor i cause) s

/-- The pending warp is taken, if there is one (R100, R101). -/
def takePending (s : State) : State :=
  match s.geo.pendingWarp with
  | none => s
  | some w => takeWarp w s

/-- GEO at a FRAME pulse (R100). -/
def geoFrame (s : State) : State := if s.locked then takePending s else s

/-- The live keystone is set to the selected input's preset and the warp recomputed (R91). -/
def applyPreset (cause : WarpCause) (s : State) : State :=
  match s.ssw.selected with
  | none => s
  | some i =>
    recompute cause <| s.modGeo fun q =>
      { q with liveV := s.inputs.entries[i].presetV, liveH := s.inputs.entries[i].presetH }

/-! ### Requests -/

/-- The live values of a reply (11.3). -/
def liveBytes (g : Geo) : List Byte := [signed g.liveV, signed g.liveH]

/-- KEYSTONE (R92). -/
def keystoneRequest (k : RawKeystone) (s : State) : State × Answer :=
  if k.spare ≠ 0 ∨ (k.v = none ∧ k.h = none) then (s, .invalid)
  else
    match boolOf k.form with
    | none => (s, .invalid)
    | some rel =>
      let v := (k.v.map (keystoneValue rel Config.keystoneV s.geo.liveV)).getD s.geo.liveV
      let h := (k.h.map (keystoneValue rel Config.keystoneH s.geo.liveH)).getD s.geo.liveH
      let clamped := v != (k.v.map (keystoneWanted rel s.geo.liveV)).getD s.geo.liveV
        || h != (k.h.map (keystoneWanted rel s.geo.liveH)).getD s.geo.liveH
      let s' := recompute .keystone (s.modGeo fun q => { q with liveV := v, liveH := h })
      (s', .clampedIf clamped [signed v, signed h])

/-- PRESET_STORE (R93). -/
def presetStoreRequest (s : State) : State × Answer :=
  match s.ssw.selected with
  | none => (s, .done)
  | some i =>
    (markDirty .inputs <| s.modInputs fun r =>
      { r with entries := r.entries.set i { r.entries[i] with presetV := s.geo.liveV, presetH := s.geo.liveH } },
     .done)

/-- PANEL_SET (R86). -/
def panelSetRequest (w h : Half) (s : State) : State × Answer :=
  let pw := Config.panelW.clamp w.toNat
  let ph := Config.panelH.clamp h.toNat
  (recompute .panel (markDirty .inputs (s.modInputs fun r => { r with panelW := pw, panelH := ph })),
   .clampedIf (pw != w.toNat || ph != h.toNat) (byte2 pw ++ byte2 ph))

/-- GEOMETRY_READ (R103). -/
def geometryReadRequest (s : State) : State × Answer :=
  (s, .doneWith ((match s.geo.active with
      | some a => warpBytes a
      | none => List.replicate 34 absent1)
    ++ byte2 s.inputs.panelW ++ byte2 s.inputs.panelH ++ liveBytes s.geo
    ++ [axisCode s.geo.axis, flag s.geo.pendingWarp.isSome]))

/-! ### The dial and the axis (5.4) -/

/-- The place of a pair of levels on the cycle 00, 10, 11, 01, DIAL_A written first (R94). -/
def dialPlace (a b : Bool) : Nat :=
  match a, b with
  | false, false => 0
  | true, false => 1
  | true, true => 2
  | false, true => 3

/-- The count of a change from the accepted pair: +1 along the cycle, −1 against it, none when both lines differ (R94). -/
def dialCount (a b a' b' : Bool) : Option Int :=
  if (dialPlace a b + 1) % 4 = dialPlace a' b' then some 1
  else if (dialPlace a' b' + 1) % 4 = dialPlace a b then some (-1)
  else none

/-- One keystone step on the axis in force, by the sign of the sum; clamped, and recomputed in any case (R95). -/
def dialStep (n : Int) (s : State) : State :=
  recompute .dial <| s.modGeo fun q =>
    match q.axis with
    | .v => { q with liveV := clampSym Config.keystoneV (q.liveV + n) }
    | .h => { q with liveH := clampSym Config.keystoneH (q.liveH + n) }

/-- An allowed count (R95). -/
def dialAllowed (n : Int) (s : State) : State :=
  let sum := s.geo.dialAcc + n
  if sum = 4 ∨ sum = -4 then dialStep n (s.modGeo fun q => { q with dialAcc := 0, denial := false })
  else s.modGeo fun q => { q with dialAcc := sum, denial := false }

/-- The cause of a denial: KEYLOCK when it is asserted, whatever the table allows (R118). -/
def State.denialCause (s : State) : DenialCause := if s.lkc.keylock then .keylock else .level

/-- KEYPAD_DENIED for a keypad event (R118). -/
def raiseDenied (e : KeypadEvent) (s : State) : State := raise (.keypadDenied e s.denialCause s.effLevel) s

/-- A denied count: the accumulator returns to 0, and the first of a run raises KEYPAD_DENIED (R96). -/
def dialDenied (s : State) : State :=
  let s' := s.modGeo fun q => { q with dialAcc := 0, denial := true }
  if s.geo.denial then s' else raiseDenied .dial s'

/-- A count handed by KPI (R95, R96). -/
def dialCounted (n : Int) (s : State) : State :=
  if s.keypadPasses .geometry then dialAllowed n s else dialDenied s

/-- The axis the button changes to (R97). -/
def otherAxis : DialAxis → DialAxis
  | .v => .h
  | .h => .v

/-- An allowed press of KP_AXIS (R97). -/
def toggleAxis (s : State) : State :=
  s.modGeo fun q => { q with axis := otherAxis q.axis, dialAcc := 0, denial := false }

/-- A press of KP_AXIS (R97). -/
def axisPress (s : State) : State :=
  if s.keypadPasses .geometry then toggleAxis s else raiseDenied .axis s

end Sys2Proof.Machine
end

