-- ==== Sys2Proof/Machine/Input.lean ====
section
/-! DEFINITION. Input Paths and Timing Recognition (chapter 3): path states, the debouncers, the timing monitor, the timing
table and classification. What SSW does with what INM hands it stands in Machine/Source.lean. -/

namespace Sys2Proof.Machine

/-- The six inputs, in index order. -/
def allInputs : List (Fin 6) := [0, 1, 2, 3, 4, 5]

/-- The 24 entries of the timing table, in index order. -/
def allTimings : List (Fin 24) :=
  [0, 1, 2, 3, 4, 5, 6, 7, 8, 9, 10, 11, 12, 13, 14, 15, 16, 17, 18, 19, 20, 21, 22, 23]

/-! ### Path states and debouncers -/

/-- Set an input's path state. -/
def setPath (i : Fin 6) (p : PathState) (s : State) : State := s.modInm fun n => { n with path := n.path.set i p }

/-- Give an input its unselected path state (R50). -/
def restInput (i : Fin 6) (s : State) : State := setPath i (s.restPath i) s

/-- A debouncer whose line has changed: its timer starts with the new level as candidate, or is discarded when the line is
back at the debounced presence (R49). -/
def Debouncer.line (d : Debouncer) (level : Bool) : Debouncer :=
  { d with timer := if level = d.presence then none else some level }

/-- A PRES line has changed. -/
def presLine (i : Fin 6) (level : Bool) (s : State) : State :=
  (s.modLines fun l => { l with pres := l.pres.set i level }).modInm fun n =>
    { n with deb := n.deb.set i (n.deb[i].line level) }

/-- The debounced presence takes the candidate level (R49). -/
def setPresence (i : Fin 6) (level : Bool) (s : State) : State :=
  s.modInm fun n => { n with deb := n.deb.set i ⟨level, none⟩ }

/-! ### The timing monitor -/

/-- Change the timing monitor. -/
def modMon (f : Monitor → Monitor) (s : State) : State := s.modInm fun n => { n with mon := f n.mon }

/-- The command seek (R52). The last completed frame is of the time before the seeking, so it goes too (R51). -/
def seek (s : State) : State :=
  modMon (fun m => { m with mode := .seeking, openFrame := none, candidates := [], locked := none, lastFrame := none,
                            watchdog := true }) s

/-- The command track (R52). -/
def track (s : State) : State :=
  modMon (fun m => { m with mode := .tracking, locked := m.lastStable.map (·.measure), watchdog := true }) s

/-- The entry contains the measurement (R57). -/
def TimingEntry.contains (e : TimingEntry) (m : Measure) : Bool :=
  e.inUse && decide (e.linesMin ≤ m.lines) && decide (m.lines ≤ e.linesMax) && decide (e.periodMin ≤ m.period)
    && decide (m.period ≤ e.periodMax)

/-- The lowest index among the entries in use that contain the measurement (R57). -/
def classify (t : TimingsRecord) (m : Measure) : Option (Fin 24) := allTimings.find? fun k => t[k].contains m

/-- The distance of two counts. -/
def apart (a b : Nat) : Nat := (a - b) + (b - a)

/-- A frame agrees with the reference: at most 1 line and 40 µs away (R54). -/
def agrees (ref m : Measure) : Bool := decide (apart ref.lines m.lines ≤ 1) && decide (apart ref.period m.period ≤ 40)

/-- What the completed frame makes of the candidates: a stable reference, or the new list (R54). -/
def nextCandidates (cs : List Measure) (m : Measure) : Option Measure × List Measure :=
  match cs with
  | [] => (none, [m])
  | ref :: rest =>
    if agrees ref m then
      if 3 ≤ rest.length + 2 then (some ref, []) else (none, ref :: rest ++ [m])
    else (none, [m])

/-- The loss a completed frame is, if it is one (R55). LINES is given whatever the period. -/
def lossOf (locked : Option Measure) (m : Measure) : Option LossCause :=
  match locked with
  | none => none
  | some k =>
    if 2 < apart k.lines m.lines then some .lines else if 200 < apart k.period m.period then some .period else none

/-- What the monitor hands SSW. -/
inductive MonitorEvent where
  | stable (entry : Option (Fin 24))
  | loss (cause : LossCause)
  deriving DecidableEq, Repr

/-- A FRAME pulse with the monitor not idle: the open frame completes, the next opens, the watchdog is restarted (R53). -/
def openNext (time : Nat) (s : State) : State :=
  modMon (fun m => { m with openFrame := some ⟨time, 0⟩, watchdog := true }) s

/-- A completed frame in SEEKING (R54). -/
def seekFrame (f : Measure) (s : State) : State × Option MonitorEvent :=
  match nextCandidates s.inm.mon.candidates f with
  | (none, cs) => (modMon (fun m => { m with candidates := cs, lastFrame := some f }) s, none)
  | (some ref, cs) =>
    (modMon (fun m => { m with candidates := cs, lastFrame := some f,
                               lastStable := some ⟨ref, classify s.timings ref⟩ }) s,
     some (.stable (classify s.timings ref)))

/-- A completed frame in TRACKING; at a loss the monitor goes to SEEKING with that frame as its first candidate (R55).
DESIGN CHOICE (log 53): the locked value is then absent. -/
def trackFrame (f : Measure) (s : State) : State × Option MonitorEvent :=
  match lossOf s.inm.mon.locked f with
  | none => (modMon (fun m => { m with lastFrame := some f }) s, none)
  | some c =>
    (modMon (fun m => { m with mode := .seeking, candidates := [f], locked := none, lastFrame := some f }) s,
     some (.loss c))

/-- INM at a FRAME pulse (R53). -/
def monitorFrame (time : Nat) (s : State) : State × Option MonitorEvent :=
  match s.inm.mon.mode, s.inm.mon.openFrame with
  | .idle, _ => (s, none)
  | _, none => (openNext time s, none)
  | .seeking, some o => seekFrame ⟨o.lines, time - o.time⟩ (openNext time s)
  | .tracking, some o => trackFrame ⟨o.lines, time - o.time⟩ (openNext time s)

/-- A LINE pulse: it counts in the open frame (R53). -/
def monitorLine (s : State) : State :=
  match s.inm.mon.mode, s.inm.mon.openFrame with
  | .idle, _ => s
  | _, none => s
  | _, some o => modMon (fun m => { m with openFrame := some { o with lines := countUp16 o.lines } }) s
where
  countUp16 (n : Nat) : Nat := if n < Config.lineCountMax then n + 1 else n

/-- The frame watchdog expires (R53, R55). DESIGN CHOICE (log 53): at the loss the locked value is absent. -/
def monitorWatchdog (s : State) : State × Option MonitorEvent :=
  if s.inm.mon.watchdog then
    match s.inm.mon.mode with
    | .idle => (s, none)
    | .seeking => (modMon (fun m => { m with openFrame := none, candidates := [] }) s, none)
    | .tracking =>
      (modMon (fun m => { m with mode := .seeking, candidates := [], locked := none, lastFrame := none }) s,
       some (.loss .noFrame))
  else (s, none)

/-! ### The last timing index (R59 to R61) -/

/-- Record the entry the selected input locked on; INPUTS is marked dirty if the index changed (R60). -/
def recordTiming (i : Fin 6) (k : Fin 24) (s : State) : State :=
  if s.inputs.entries[i].lastTiming = some k then s
  else
    markDirty .inputs <| s.modInputs fun r =>
      { r with entries := r.entries.set i { r.entries[i] with lastTiming := some k } }

/-- Make absent every last timing index that `gone` names; INPUTS is marked dirty if there is one (R59, R61). -/
def forgetTimings (gone : Fin 24 → Bool) (s : State) : State :=
  if s.inputs.entries.toList.any fun e => e.lastTiming.any gone then
    markDirty .inputs <| s.modInputs fun r =>
      { r with entries := r.entries.map fun e =>
          if e.lastTiming.any gone then { e with lastTiming := none } else e }
  else s

/-! ### Reads -/

/-- INPUT_READ (R51, 11.5). The monitor's fields follow for the selected input. -/
def inputReadRequest (index : Byte) (s : State) : State × Answer :=
  match indexOf 6 index with
  | none => (s, .invalid)
  | some i =>
    let e := s.inputs.entries[i]
    let sel := s.ssw.selected == some i
    (s, .doneWith ([finByte i, inputKindCode e.kind, flag e.enabled] ++ labelBytes e.label
      ++ [byte1 e.priority, aspectCode e.aspect, signed e.presetV, signed e.presetH, optByte finByte e.lastTiming,
          pathCode s.inm.path[i], flag s.inm.deb[i].presence, flag sel]
      ++ (if sel then monitorBytes s.inm.mon else [])))

/-- TIMING_READ (R56). -/
def timingReadRequest (index : Byte) (s : State) : State × Answer :=
  match indexOf 24 index with
  | none => (s, .invalid)
  | some k => (s, .doneWith ([finByte k, flag s.timings[k].inUse] ++ timingBytes s.timings[k]))

end Sys2Proof.Machine
end

