-- ==== Sys2Proof/Machine/LampLife.lean ====
section
/-! DEFINITION. Lamp Life Accounting (chapter 2): the wear cascade, the counters, the condition and its notices, strikes,
the lamp-hot flag and the history. -/

namespace Sys2Proof.Machine

/-- Change the LAMP record's current lamp. -/
def modCur (f : CurrentLamp → CurrentLamp) (r : LampRecord) : LampRecord := { r with cur := f r.cur }

/-- Count one up to a ceiling (R29). -/
def countUp (ceiling n : Nat) : Nat := if n < ceiling then n + 1 else n

/-- The cascade of R28: `n` units join the sub-hour units and carry at most one equivalent hour; at the hours' ceiling both
stay. -/
def addUnits (n : Nat) (c : CurrentLamp) : CurrentLamp :=
  if c.sub + n < Config.unitsPerHour then { c with sub := c.sub + n }
  else if c.hours < Config.count16Max then { c with hours := c.hours + 1, sub := c.sub + n - Config.unitsPerHour }
  else { c with sub := Config.unitsPerHour - 1 }

/-- The notice of an evaluation that moves the condition (R34). -/
def conditionNotice (before : Condition) (r : LampRecord) : Option Payload :=
  if condition r = before then none
  else
    match condition r with
    | .good => none
    | .worn => some (.lampWarn .worn before r.cur.hours r.warnHours)
    | .expired => some (.lampExpired .expired before r.cur.hours r.lifeHours)

/-- Change the LAMP record and evaluate the condition (R33, R34). -/
def evaluated (f : LampRecord → LampRecord) (s : State) : State :=
  let s' := s.modLamp f
  match conditionNotice (condition s.lamp) s'.lamp with
  | none => s'
  | some n => raise n s'

/-- LSQ has begun an attempt: the strike is counted and charged, the lamp-hot flag is set and LAMP marked dirty (R26). -/
def chargeStrike (s : State) : State :=
  let wear := s.lamp.strikeWear
  markDirty .lamp <| evaluated (modCur fun c =>
    addUnits wear { c with strikes := countUp Config.count16Max c.strikes, hot := true }) s

/-- An attempt has failed by timeout (R27). -/
def countFailed (s : State) : State :=
  s.modLamp (modCur fun c => { c with failed := countUp Config.count16Max c.failed })

/-- The lamp has reached OFF from COOLING, or FAULT: the lamp-hot flag is cleared and LAMP marked dirty (R31). -/
def clearHot (s : State) : State := markDirty .lamp (s.modLamp (modCur fun c => { c with hot := false }))

/-- A lit second at the level in force: the lit seconds, the lit seconds since commit and the units are counted; a clear
lamp-hot flag is set and marks LAMP dirty (R25, R29, R31, R42). -/
def litSecond (s : State) : State :=
  let units := levelUnits s.powerLevel
  let wasHot := s.lamp.cur.hot
  markIf (!wasHot) .lamp <|
    (evaluated (modCur fun c =>
      addUnits units { c with litSeconds := countUp Config.litSecondsMax c.litSeconds, hot := true }) s).modSinceCommit
      (countUp Config.sinceCommitMax)

/-- LLC at a second event (R25). -/
def llcSecond (s : State) : State := if s.lines.lit then litSecond s else s

/-- The closed record a replacement files (R38). -/
def closedLamp (r : LampRecord) (c : Cal) : ClosedLamp :=
  ⟨r.cur.hours, r.cur.sub, r.cur.litSeconds, r.cur.strikes, r.cur.failed, r.cur.installed, r.cur.installedValid,
   c.date, c.valid, condition r⟩

/-- Append a closed record; the oldest leaves a history of 8 (R40). -/
def fileClosed (h : List ClosedLamp) (r : ClosedLamp) : List ClosedLamp :=
  if h.length < Config.historyMax then h ++ [r] else h.drop (h.length + 1 - Config.historyMax) ++ [r]

/-- Steps 1 to 6 of R41 on the LAMP record, the fault record among them. -/
def replaceLamp (c : Cal) (r : LampRecord) : LampRecord :=
  { r with
    cur := ⟨0, 0, 0, 0, 0, c.date, c.valid, false⟩
    history := fileClosed r.history (closedLamp r c)
    fault := none }

/-- The limits a LAMP_LIMITS leaves: each value carried clamped, then WARN_HOURS at most LIFE_HOURS (R32). -/
def newLimits (w : RawLimits) (r : LampRecord) : Nat × Nat :=
  let warn := match w.warn with
    | some n => Config.lampHours.clamp n.toNat
    | none => r.warnHours
  let life := match w.life with
    | some n => Config.lampHours.clamp n.toNat
    | none => r.lifeHours
  (min warn life, life)

/-- A step of R32 changed a value. -/
def limitsClamped (w : RawLimits) (r : LampRecord) : Bool :=
  (w.life.any fun n => Config.lampHours.clamp n.toNat != n.toNat)
    || (newLimits w r).1 != (match w.warn with
        | some n => n.toNat
        | none => r.warnHours)

/-- LAMP_LIMITS (R32). -/
def lampLimitsRequest (w : RawLimits) (s : State) : State × Answer :=
  if w.spare ≠ 0 ∨ (w.warn = none ∧ w.life = none) then (s, .invalid)
  else
    let l := newLimits w s.lamp
    (markDirty .lamp (evaluated (fun r => { r with warnHours := l.1, lifeHours := l.2 }) s),
     .clampedIf (limitsClamped w s.lamp) (byte2 l.1 ++ byte2 l.2))

/-- LAMP_READ (R37). -/
def lampReadRequest (s : State) : State × Answer := (s, .doneWith (lampBytes (condition s.lamp) s.lamp))

/-- HISTORY_READ (R38). -/
def historyReadRequest (index : Byte) (s : State) : State × Answer :=
  if Config.historyMax ≤ index.toNat then (s, .invalid)
  else
    (s, .doneWith (byte1 s.lamp.history.length ::
      (match s.lamp.history[index.toNat]? with
       | some r => closedBytes r
       | none => [])))

/-- The lit seconds since commit stand at 360: LAMP is marked dirty (R42). -/
def litCommitCount (s : State) : State := markIf (s.sinceCommit == Config.sinceCommitMax) .lamp s

end Sys2Proof.Machine
end

