-- ==== Sys2Proof/Machine/Source.lean ====
section
/-! DEFINITION. Source Selection (chapter 4): the switch record and its supersession, trainings and their outcomes, locks,
losses and re-classifications, auto-scan, the user mute and the no-signal count. -/

namespace Sys2Proof.Machine

/-! ### What is handed to SES -/

/-- SSW hands SES an outcome of the session's SELECT: it is recorded while the source state is PENDING and discarded
otherwise, so that no outcome of another session's SELECT is taken (R149). -/
def sesSource (x : SourceState) (s : State) : State :=
  s.modSes fun r => r.map fun r => if r.sourceState = some .pending then { r with sourceState := some x } else r

/-- An outcome or supersession of a record is handed to SES when its origin is TIMETABLE (R63). -/
def handSource (r : SwitchRecord) (x : SourceState) (s : State) : State :=
  if r.origin = .timetable then sesSource x s else s

/-! ### Notices (R64) -/

/-- SOURCE_STATE for the selected input, with a switch record that stands or has just ended. -/
def sourcePayload (i : Fin 6) (path : Option PathState) (r : Option SwitchRecord) (s : State) : Payload :=
  .sourceState i path r s.inputs.entries[i].lastTiming s.inputs.entries[i].kind

/-- Raise SOURCE_STATE for the selected input's path as it stands. -/
def raiseSource (r : Option SwitchRecord) (s : State) : State :=
  match s.ssw.selected with
  | none => s
  | some i => raise (sourcePayload i (some s.inm.path[i]) r s) s

/-- The port of an origin, as the supersession notice goes: TIMETABLE and PART to every port (R64). -/
def portOfOrigin (o : Origin) (p : PortId) : Bool :=
  match o with
  | .engine | .remote | .keypad => p == .e
  | .lectern => p == .l
  | .facilities => p == .f
  | .timetable | .part => true

/-! ### Records and trainings -/

/-- A record present is superseded: its notice is raised, and SES is handed the end of a TIMETABLE record (R66). -/
def supersede (s : State) : State :=
  match s.ssw.record with
  | none => s
  | some r =>
    let told := handSource r .superseded s
    match s.ssw.selected with
    | none => told
    | some i => raiseFor (portOfOrigin r.origin) (sourcePayload i none (some r) s) told

/-- Open a record: the switch timer starts, and the selection is TRAINED from here on (R63, R85). -/
def openRecord (kind : SwitchKind) (origin : Origin) (target : Fin 6) (s : State) : State :=
  s.modSsw fun w => { w with
    record := some ⟨target, origin, kind, w.record.isSome⟩, timer := some s.settings.switchTimeout, trained := true }

/-- Move the selection: XSEL moves, and an input left behind takes its unselected path state (R62). -/
def moveSelection (i : Fin 6) (s : State) : State :=
  match s.ssw.selected with
  | none => s.modSsw fun w => { w with selected := some i }
  | some j =>
    let moved := s.modSsw fun w => { w with selected := some i }
    if j = i then moved else restInput j moved

/-- A pending warp is taken when the selected input's path has left LOCKED with the selection unchanged (R101). DESIGN CHOICE
(log 56): SOURCE_STATE has been raised before it. -/
def leftLocked (before : Bool) (s : State) : State := if before && !s.locked then takePending s else s

/-- The selected input's path state changes. -/
def setSelPath (p : PathState) (s : State) : State :=
  match s.ssw.selected with
  | none => s
  | some i => setPath i p s

/-- A training of the input `i`: the record present is superseded, the selection moves, MUTE is asserted, the record is
opened, the path goes to TRAINING, the monitor is given seek, and SOURCE_STATE is raised (R65, R67, R70, R75). -/
def beginTraining (kind : SwitchKind) (origin : Origin) (i : Fin 6) (s : State) : State :=
  let s := openRecord kind origin i (unready (moveSelection i (supersede s)))
  let s := seek (setPath i .training s)
  raiseSource s.ssw.record s

/-- A scan in progress is abandoned or ends (R76, R77). DESIGN CHOICE (log 62): the rescan mark goes wherever a scan ends, by a
lock or by the home input's UNSUPPORTED too. -/
def endScan (s : State) : State :=
  s.modSsw fun w => { w with phase := .none, scanList := [], scanPos := 0, home := none, rescan := false }

/-- What a SELECT is replied (R65). -/
inductive SelectOutcome where
  | done | accepted | disabled
  deriving DecidableEq, Repr

/-- A SELECT of an input, taken by SSW (R65). -/
def sswSelect (o : Origin) (i : Fin 6) (s : State) : State × SelectOutcome :=
  if !s.inputs.entries[i].enabled then (s, .disabled)
  else if s.ssw.selected = some i ∧ s.locked then (s, .done)
  else (applyPreset .select (beginTraining .select o i (endScan s)), .accepted)

/-- A training of the selected input in place: a warp pending on a LOCKED path is taken as the path leaves LOCKED,
after SOURCE_STATE has been raised (DESIGN CHOICE, log 56). -/
def retrainSelected (o : Origin) (i : Fin 6) (s : State) : State :=
  leftLocked s.locked (beginTraining .retrain o i s)

/-- The first POWER_ON that LSQ takes and does not refuse trains an UNTRAINED selection (R85). -/
def firstPowerOn (s : State) : State :=
  match s.ssw.selected with
  | none => s
  | some i => if s.ssw.trained then s else retrainSelected .part i s

/-! ### Auto-scan (4.4) -/

/-- The input is enabled and its debounced presence is high. -/
def State.attached (s : State) (i : Fin 6) : Bool := s.inputs.entries[i].enabled && s.inm.deb[i].presence

/-- Insert an input by priority; inputs of equal priority keep their index order. -/
def insertByPriority (prio : Fin 6 → Nat) (i : Fin 6) : List (Fin 6) → List (Fin 6)
  | [] => [i]
  | j :: rest => if prio i ≤ prio j then i :: j :: rest else j :: insertByPriority prio i rest

/-- The inputs other than the home input that are enabled and present, by priority and then by index (R75). -/
def State.buildScan (s : State) (home : Fin 6) : List (Fin 6) :=
  (allInputs.filter fun i => i != home && s.attached i).foldr
    (insertByPriority fun i => s.inputs.entries[i].priority) []

/-- An input is made the selected input by a SCAN record of origin PART, with its own preset (R75, R76). -/
def scanSelect (i : Fin 6) (s : State) : State := applyPreset .select (beginTraining .scan .part i s)

/-- Every entry has been tried or passed over: the scan returns to the home input (R76). -/
def scanReturn (s : State) : State :=
  match s.ssw.home with
  | none => endScan s
  | some h => scanSelect h (s.modSsw fun w => { w with phase := .returning, scanList := [], scanPos := 0 })

/-- Try the entries left, testing each afresh; one that is now disabled or not present is passed over (R75). -/
def scanTry : List (Fin 6) → State → State
  | [], s => scanReturn s
  | i :: rest, s =>
    let s := s.modSsw fun w => { w with scanPos := w.scanPos + 1 }
    if s.attached i then scanSelect i s else scanTry rest s

/-- The next entry of the list is tried (R76). -/
def scanNext (s : State) : State := scanTry (s.ssw.scanList.drop s.ssw.scanPos) s

/-- A scan starts: the selected input becomes the home input and the list is built; an empty list ends it at once
(R74, R75). -/
def startScan (s : State) : State :=
  match s.ssw.selected with
  | none => s
  | some h =>
    match s.buildScan h with
    | [] => s
    | l =>
      scanNext (s.modSsw fun w =>
        { w with phase := .trying, scanList := l, scanPos := 0, home := some h, rescan := false })

/-- A scan may start: AUTOSCAN is on, no scan is in progress and the selection is TRAINED (R74). -/
def State.scanMayStart (s : State) : Bool := s.inputs.autoscan && s.ssw.phase == .none && s.ssw.trained

/-- The record whose outcome leaves the path in NO_SIGNAL or ABSENT does not bar a scan: none, a RECOVERY, or a RETRAIN of
origin PART (R74). -/
def scanAfter : Option SwitchRecord → Bool
  | none => true
  | some r =>
    match r.kind with
    | .recovery => true
    | .retrain => r.origin == .part
    | .select | .scan => false

/-- NO_SIGNAL or ABSENT. -/
def sourceless : PathState → Bool
  | .noSignal | .absent => true
  | _ => false

/-- The outcome of a SCAN record that is no lock: the scan moves on, or ends with the home input (R76, R77). -/
def scanOutcome (p : PathState) (s : State) : State :=
  match s.ssw.phase with
  | .none => s
  | .trying => scanNext s
  | .returning => if s.ssw.rescan && sourceless p then startScan (endScan s) else endScan s

/-- What follows an outcome of the selected input that is no lock, for a record `r` it ended, if one stood (R74, R76). -/
def afterOutcome (r : Option SwitchRecord) (p : PathState) (s : State) : State :=
  if r.any fun r => r.kind == .scan then scanOutcome p s
  else if sourceless p && scanAfter r && s.scanMayStart then startScan s
  else s

/-! ### Outcomes of a training (4.3) -/

/-- A record ends by its outcome; SES is handed the outcome of a TIMETABLE record (R63). -/
def closeRecord (x : SourceState) (s : State) : State :=
  let ended := s.modSsw fun w => { w with record := none, timer := none }
  match s.ssw.record with
  | none => ended
  | some r => handSource r x ended

/-- The source state SES is handed for an outcome. -/
def outcomeState : PathState → SourceState
  | .unsupported => .unsupported
  | .noSignal => .noSignal
  | _ => .absent

/-- The selected input's path reaches UNSUPPORTED, NO_SIGNAL or ABSENT: the record ends by that outcome, MUTE is asserted and
the picture-ready mark cleared, SOURCE_STATE is raised, a warp pending on a path that was LOCKED is taken, and a scan moves
on or starts (R69, R70, R73, R74, R76). DESIGN CHOICE (log 56): SOURCE_STATE comes before the WARP_READY of the take. -/
def reach (p : PathState) (s : State) : State :=
  let r := s.ssw.record
  let was := s.locked
  afterOutcome r p <| leftLocked was <| raiseSource r <| closeRecord (outcomeState p) <| setSelPath p (unready s)

/-- The no-signal count returns to 0 and stops, and the dim input is made inactive (R81, R82). -/
def stopNosig (s : State) : State :=
  s.modSsw fun w => { w with nosigCount := 0, autoOffTest := false, dimReport := false }

/-- A lock at entry `k` (R68). -/
def lockAt (k : Fin 24) (s : State) : State :=
  match s.ssw.selected with
  | none => s
  | some i =>
    let r := s.ssw.record
    let s := recordTiming i k (track (setPath i .locked s))
    let s := stopNosig (recompute .lock (unready s))
    raiseSource r (endScan (closeRecord .locked s))

/-- A stable result with no match: UNSUPPORTED, and the monitor watches it (R69). -/
def unsupportedAt (s : State) : State := reach .unsupported (track s)

/-- A stable result is acted on in TRAINING, RECOVERY and NO_SIGNAL while the debounced presence is high; elsewhere it is
discarded (R62, R68, R69, R72). -/
def stableResult (entry : Option (Fin 24)) (s : State) : State :=
  match s.ssw.selected with
  | none => s
  | some i =>
    if s.ssw.trained && s.inm.deb[i].presence then
      match s.inm.path[i] with
      | .training | .recovery | .noSignal =>
        match entry with
        | some k => lockAt k s
        | none => unsupportedAt s
      | _ => s
    else s

/-- A lock loss from LOCKED or UNSUPPORTED opens a RECOVERY; elsewhere it is discarded (R71). DESIGN CHOICE (log 56):
SOURCE_STATE comes before the WARP_READY of a pending warp. -/
def lockLoss (s : State) : State :=
  match s.ssw.selected with
  | none => s
  | some i =>
    if s.ssw.trained && (s.inm.path[i] == .locked || s.inm.path[i] == .unsupported) then
      let was := s.locked
      let s := openRecord .recovery .part i (unready (setPath i .recovery s))
      leftLocked was (raiseSource s.ssw.record s)
    else s

/-- SSW takes what the monitor hands it. -/
def takeMonitor (e : Option MonitorEvent) (s : State) : State :=
  match e with
  | none => s
  | some (.stable entry) => stableResult entry s
  | some (.loss _) => lockLoss s

/-- INM at a FRAME pulse, and SSW on what it hands over. -/
def inmFrame (time : Nat) (s : State) : State :=
  let r := monitorFrame time s
  takeMonitor r.2 r.1

/-- A FRAME pulse reaches INM, GEO and SSW (R53, R80, R100). `geoFirst`: GEO takes it before INM. -/
def framePulseAll (time : Nat) (geoFirst : Bool) (s : State) : State :=
  releasePoint (if geoFirst then inmFrame time (geoFrame s) else geoFrame (inmFrame time s))

/-- The frame watchdog expires, and SSW takes a loss. -/
def watchdogAll (s : State) : State :=
  let r := monitorWatchdog s
  takeMonitor r.2 r.1

/-- The switch timer expires: the path goes to NO_SIGNAL if the debounced presence is high, to ABSENT if it is low (R69). -/
def switchTimeout (s : State) : State :=
  match s.ssw.selected, s.ssw.record with
  | some i, some _ =>
    if s.ssw.timer = some 0 then reach (if s.inm.deb[i].presence then .noSignal else .absent) s else s
  | _, _ => s

/-- A re-classification after a change of entry `k` (R73). -/
def reclassified (k : Fin 24) (result : Option (Fin 24)) (s : State) : State :=
  match s.ssw.selected with
  | none => s
  | some i =>
    match s.inm.path[i], result with
    | .locked, some j =>
      if s.inputs.entries[i].lastTiming = some j then (if j = k then recompute .reclass s else s) else lockAt j s
    | .locked, none => reach .unsupported s
    | .unsupported, some j => lockAt j s
    | _, _ => s

/-- A timing entry `k` has changed: where it has left use the indexes that name it are made absent, and a selected path that
is LOCKED or UNSUPPORTED has its last stable measurement classified afresh (R59). -/
def timingChanged (k : Fin 24) (s : State) : State :=
  let s := if s.timings[k].inUse then s else forgetTimings (· == k) s
  if s.selPath = some .locked ∨ s.selPath = some .unsupported then
    match s.inm.mon.lastStable with
    | none => s
    | some m =>
      let result := classify s.timings m.measure
      reclassified k result (modMon (fun q => { q with lastStable := some ⟨m.measure, result⟩ }) s)
  else s

/-- Write a timing entry; TIMINGS is marked dirty, and only a changed entry leads to R59 (R58). -/
def writeTiming (k : Fin 24) (e : TimingEntry) (s : State) : State :=
  let changed := s.timings[k] != e
  let s := markDirty .timings (s.modTimings fun t => t.set k e)
  if changed then timingChanged k s else s

/-- TIMING_LOAD writing an entry (R58). -/
def timingWriteRequest (index : Byte) (t : RawTiming) (s : State) : State × Answer :=
  match indexOf 24 index, timingOf t with
  | some k, some e => (writeTiming k e s, .done)
  | _, _ => (s, .invalid)

/-- TIMING_LOAD taking an entry out of use: its other fields are kept (R58). -/
def timingOutRequest (index : Byte) (s : State) : State × Answer :=
  match indexOf 24 index with
  | none => (s, .invalid)
  | some k => (writeTiming k { s.timings[k] with inUse := false } s, .done)

/-! ### Presence (R50, R70, R74, R77) -/

/-- A presence rise of an enabled unselected input: it starts a scan, joins the list of one that is trying, or sets the
rescan mark of one that is returning (R74, R77). -/
def risesElsewhere (i : Fin 6) (s : State) : State :=
  match s.ssw.phase with
  | .trying =>
    if s.ssw.home = some i ∨ s.ssw.scanList.contains i then s
    else s.modSsw fun w => { w with scanList := w.scanList ++ [i] }
  | .returning => if s.ssw.home = some i then s else s.modSsw fun w => { w with rescan := true }
  | .none => if s.scanMayStart && (s.selPath.any sourceless) then startScan s else s

/-- SSW takes a presence rise of an input (R70, R74, R77). -/
def sswRise (i : Fin 6) (s : State) : State :=
  if s.ssw.selected = some i then
    if s.ssw.trained && s.inm.path[i] == .absent then retrainSelected .part i s else s
  else if s.inputs.entries[i].enabled then risesElsewhere i s
  else s

/-- An input that is not a TRAINED selection takes its unselected path state; where it is the selected input and its path
changes, SOURCE_STATE is raised (R50, R64). -/
def restPathOf (i : Fin 6) (s : State) : State :=
  let before := s.inm.path[i]
  let s := restInput i s
  if s.ssw.selected = some i ∧ s.inm.path[i] ≠ before then raiseSource s.ssw.record s else s

/-- The input is the selected input of a TRAINED selection. -/
def State.onScreen (s : State) (i : Fin 6) : Bool := s.ssw.selected == some i && s.ssw.trained

/-- A presence rise or fall: INM sets the path state, and SSW acts (R50, R70). -/
def presenceChange (i : Fin 6) (level : Bool) (s : State) : State :=
  let s := setPresence i level s
  if s.onScreen i then
    if level then sswRise i s else if s.inm.path[i] = .absent then s else reach .absent s
  else
    let s := restPathOf i s
    if level then sswRise i s else s

/-- The debounce timer of an input expires (R49). Before start-up is complete no selection stands and the path states wait for
the records, so the debouncer alone acts (R61). -/
def debounceExpiry (i : Fin 6) (s : State) : State :=
  match s.inm.deb[i].timer with
  | none => s
  | some level => if s.operating then presenceChange i level s else setPresence i level s

/-! ### Requests -/

/-- SELECT (R65). -/
def selectAnswer : SelectOutcome → Answer
  | .done => .done
  | .accepted => .accepted
  | .disabled => .refused .inputDisabled

/-- SELECT (R65). -/
def selectRequest (o : Origin) (input : Byte) (s : State) : State × Answer :=
  match indexOf 6 input with
  | none => (s, .invalid)
  | some i => ((sswSelect o i s).1, selectAnswer (sswSelect o i s).2)

/-- RETRAIN (R67). -/
def retrainRequest (o : Origin) (input : Byte) (s : State) : State × Answer :=
  match indexOf 6 input with
  | none => (s, .invalid)
  | some i =>
    if s.ssw.selected = some i then (retrainSelected o i (endScan s), .accepted) else (s, .refused .notSelected)

/-- MUTE_SET (R79). -/
def muteSetRequest (value : Byte) (s : State) : State × Answer :=
  match boolOf value with
  | none => (s, .invalid)
  | some b => (muteCheck (s.modSsw fun w => { w with userMute := b }), .done)

/-- The inputs after `i` in index order, wrapping from IN5 to IN0 (R78). -/
def inputsAfter (i : Fin 6) : List (Fin 6) := [i + 1, i + 2, i + 3, i + 4, i + 5]

/-- The input a KP_SOURCE press names (R78). -/
def State.pressNames (s : State) (i : Fin 6) : Fin 6 := ((inputsAfter i).find? s.attached).getD i

/-- An allowed press of KP_SOURCE (R78). -/
def sourcePress (s : State) : State :=
  match s.ssw.selected with
  | none => s
  | some i => (sswSelect .keypad (s.pressNames i) s).1

/-- The stored fields of an input after an INPUT_CONFIG; `none`: a field value that makes it INVALID (R47). -/
def configEntry (c : RawInputConfig) (e : InputEntry) : Option InputEntry := do
  let kind ← (match c.kind with
    | none => some e.kind
    | some b => inputKindOf b)
  let enabled ← (match c.enabled with
    | none => some e.enabled
    | some b => boolOf b)
  let label ← (match c.label with
    | none => some e.label
    | some l => labelOf l)
  let priority ← (match c.priority with
    | none => some e.priority
    | some b => if b.toNat ≤ 7 then some b.toNat else none)
  let aspect ← (match c.aspect with
    | none => some e.aspect
    | some b => aspectOf b)
  let v := match c.preset with
    | none => e.presetV
    | some p => clampSym Config.keystoneV p.1.toInt
  let h := match c.preset with
    | none => e.presetH
    | some p => clampSym Config.keystoneH p.2.toInt
  return { e with kind := kind, enabled := enabled, label := label, priority := priority, aspect := aspect, presetV := v,
                  presetH := h }

/-- A preset value was clamped. -/
def presetClamped (c : RawInputConfig) : Bool :=
  c.preset.any fun p =>
    clampSym Config.keystoneV p.1.toInt != p.1.toInt || clampSym Config.keystoneH p.2.toInt != p.2.toInt

/-- INPUT_CONFIG carries a field. -/
def configNames (c : RawInputConfig) : Bool :=
  c.kind.isSome || c.enabled.isSome || c.label.isSome || c.priority.isSome || c.aspect.isSome || c.preset.isSome

/-- What follows the writing of an input's enabled flag; a TRAINED selection is left as it stands (R48). DESIGN CHOICE (log 63):
a flag written as it stood is no enabling, and nothing is handed to SSW. -/
def enabledWritten (i : Fin 6) (was : Bool) (s : State) : State :=
  let now := s.inputs.entries[i].enabled
  if was = now then s
  else if s.onScreen i then s
  else
    let s := restPathOf i s
    if now && s.inm.deb[i].presence then sswRise i s else s

/-- What follows the writing of the selected input's preset or aspect mode (R47, R91). -/
def geometryWritten (i : Fin 6) (c : RawInputConfig) (s : State) : State :=
  if s.ssw.selected = some i then
    if c.preset.isSome then applyPreset .config s else if c.aspect.isSome then recompute .config s else s
  else s

/-- INPUT_CONFIG (R47, R48). DESIGN CHOICE (log 54): GEO recomputes before the enabled flag changes the path. -/
def inputConfigRequest (index : Byte) (c : RawInputConfig) (s : State) : State × Answer :=
  match indexOf 6 index with
  | none => (s, .invalid)
  | some i =>
    if c.spare ≠ 0 ∨ !configNames c then (s, .invalid)
    else
      match configEntry c s.inputs.entries[i] with
      | none => (s, .invalid)
      | some e =>
        let was := s.inputs.entries[i].enabled
        let s := markDirty .inputs (s.modInputs fun r => { r with entries := r.entries.set i e })
        (enabledWritten i was (geometryWritten i c s), .clampedIf (presetClamped c) [])

/-! ### The lamp, the power-off report and the no-signal count (4.7) -/

/-- SSW is handed a new lamp state: MUTE, the no-signal count and the dim report follow it (R80, R81, R82). -/
def sswLamp (new : LampState) (s : State) : State :=
  let s := if new = .warmup ∨ new = .on then s.modSsw fun w => { w with powerOffSince := false } else s
  muteCheck (if litState new then s else stopNosig s)

/-- A POWER_OFF taken by LSQ is reported to SSW (R79, R81, R82). -/
def sswPowerOff (s : State) : State :=
  (stopNosig s).modSsw fun w => { w with userMute := false, powerOffSince := true }

/-- SSW at a second event: the count and the switch timer advance, and the auto-off test falls due (R63, R81, R83). -/
def sswSecond (s : State) : State :=
  let n := if s.nosigRunning then countUp Config.nosigCountMax s.ssw.nosigCount else s.ssw.nosigCount
  let due := s.nosigRunning && s.settings.nosigOff != 0 && decide (s.settings.nosigOff ≤ n)
  s.modSsw fun w => { w with nosigCount := n, autoOffTest := due, timer := w.timer.map (· - 1) }

/-- The running count stands at or above a non-zero NOSIG_DIM: the dim report is made active (R82). -/
def nosigDim (s : State) : State :=
  if s.nosigRunning && s.settings.nosigDim != 0 && decide (s.settings.nosigDim ≤ s.ssw.nosigCount) then
    s.modSsw fun w => { w with dimReport := true }
  else s

/-- A NOSIG_DIM has been written: 0 sets an active report inactive, and a value at or below the running count makes it active
(R82). -/
def nosigDimWritten (s : State) : State :=
  if s.settings.nosigDim = 0 then s.modSsw fun w => { w with dimReport := false } else nosigDim s

/-- Turning AUTOSCAN off ends a scan in progress (R77, R84). -/
def autoscanWritten (s : State) : State := if s.inputs.autoscan then s else endScan s

end Sys2Proof.Machine
end

