-- ==== Sys2Proof/Machine/Lamp.lean ====
section
/-! DEFINITION. Lamp Sequencing (chapter 1): the held power-on, the change of lamp state and what is handed with it, faults,
ignition attempts, power requests, and the ends of the guard timers. -/

namespace Sys2Proof.Machine

/-! ### The held power-on (R5) and the session's power-deferred mark (R148) -/

/-- LSQ reports to SES the making or the end of a hold made for a TIMETABLE power-on; with no session open the report is
discarded (R148). DEDUCED (log 59): the mark of a MANUAL session stays clear (R150). -/
def setDeferred (b : Bool) (s : State) : State :=
  s.modSes fun r => r.map fun r => { r with deferred := b && r.kind == .scheduled }

/-- The hold kept, if it was made for a TIMETABLE power-on, is reported to SES as ended. -/
def reportHoldEnd (s : State) : State :=
  if s.lsq.held.any fun h => h.origin == .timetable then setDeferred false s else s

/-- A hold ends by release or by cancellation: no notice is raised (R5). -/
def endHold (s : State) : State := (reportHoldEnd s).modLsq fun q => { q with held := none }

/-- A hold is dropped: STRIKE_HELD with the disposition DROPPED (R5). -/
def dropHold (c : DropCause) (s : State) : State :=
  match s.lsq.held with
  | none => s
  | some h => raise (.strikeDropped h.origin c) (endHold s)

/-- A power-on is held, or replaces the one held: STRIKE_HELD with the disposition HELD (R5). -/
def hold (o : Origin) (r : HeldReason) (s : State) : State :=
  let told := if o = .timetable then setDeferred true s else reportHoldEnd s
  raise (.strikeHeld o r (s.openingTime r)) (told.modLsq fun q => { q with held := some ⟨o, r⟩ })

/-! ### A change of lamp state (R23) -/

/-- LLC is told of the lamp reaching OFF from COOLING, or reaching FAULT (R16, R31). -/
def tellLife (new prev : LampState) (s : State) : State :=
  if new = .fault ∨ (new = .off ∧ prev = .cooling) then clearHot s else s

/-- SES is told of the lamp reaching ON (R148). -/
def tellSession (new : LampState) (s : State) : State := if new = .on then setDeferred false s else s

/-- LKC closes an open confirm window at a change into OFF, COOLING, FAULT_COOLING or FAULT (R120). -/
def tellLockout (new : LampState) (s : State) : State :=
  if drivenState new then s else s.modLkc fun k => { k with confirmOpen := false }

/-- The attempt number a LAMP_STATE carries: 1..3 in STRIKING, 0 otherwise (R23). -/
def attemptIn (new : LampState) (q : Lsq) : Nat := if new = .striking then q.attempt else 0

/-- The lamp goes to a new state: LAMP_STATE is raised and the state is handed to LLC, SSW, SES and LKC (R23). -/
def lampChange (new : LampState) (cause : LampCause) (s : State) : State :=
  let prev := s.lsq.state
  let entered := s.modLsq fun q => { q with state := new }
  let raised := raise (.lampState new prev (attemptIn new entered.lsq) cause) entered
  tellLockout new (tellSession new (sswLamp new (tellLife new prev raised)))

/-- The timers of the striking and lit states are discarded and the attempt number returns to 0 (R11, R12, R15, R17, R18). -/
def stopTimers (s : State) : State :=
  s.modLsq fun q => { q with attemptTimer := none, gapTimer := none, warmupTimer := none, attempt := 0 }

/-- The cool timer is started for a full COOL. -/
def startCool (s : State) : State := s.modLsq fun q => { q with coolTimer := some s.settings.cool }

/-- The lamp goes to COOLING with a full COOL. -/
def goCooling (cause : LampCause) (s : State) : State := lampChange .cooling cause (startCool (stopTimers s))

/-- The lamp goes to FAULT_COOLING with a full COOL, for a fault just recorded. -/
def goFaultCooling (s : State) : State := lampChange .faultCooling .fault (startCool (stopTimers s))

/-- The lamp goes to WARMUP, the warm-up timer started (R6, R14, R15). -/
def goWarmup (cause : LampCause) (s : State) : State :=
  lampChange .warmup cause ((stopTimers s).modLsq fun q => { q with warmupTimer := some s.settings.warmupTime })

/-! ### Faults (R19) -/

/-- The fault record made from a fault. -/
def firstFault (k : FaultKind) (s : State) : FaultRecord :=
  ⟨k, s.cal.date, s.cal.time, s.lsq.state, s.lamp.cur.hours, s.lamp.cur.sub, s.lamp.cur.strikes, 0⟩

/-- A fault is recorded, or counted in the record held; at 255 the count stays and nothing is raised (R19). -/
def recordFault (k : FaultKind) (s : State) : State :=
  match s.lamp.fault with
  | none =>
    raise (.lampFault k s.lsq.state 0) (markDirty .lamp (s.modLamp fun r => { r with fault := some (firstFault k s) }))
  | some f =>
    if f.later < Config.laterFaultsMax then
      raise (.lampFault k s.lsq.state (f.later + 1))
        (markDirty .lamp (s.modLamp fun r => { r with fault := some { f with later := f.later + 1 } }))
    else s

/-! ### Ignition attempts (R4, R13) -/

/-- Append a stamp; when the log is at its greatest length the oldest goes first (R4). -/
def stampLog (max now : Nat) (log : List Nat) : List Nat := log.drop (log.length + 1 - max) ++ [now]

/-- Trim the log to a lowered STRIKE_MAX (R4). -/
def trimLog (max : Nat) (log : List Nat) : List Nat := log.drop (log.length - max)

/-- LSQ's part in the beginning of an attempt: the attempt number, the stamp and the attempt timer; IGNITE follows from them
(R13). -/
def attemptBegun (s : State) : State :=
  s.modLsq fun q => { q with
    attempt := q.attempt + 1
    strikeLog := stampLog s.settings.strikeMax s.uptime q.strikeLog
    attemptTimer := some s.settings.igniteTimeout
    gapTimer := none }

/-- The first attempt of an ignition, with the lamp going from OFF to STRIKING (R6, R13). -/
def firstAttempt (o : Origin) (s : State) : State :=
  chargeStrike <| lampChange .striking .request <| attemptBegun <|
    s.modLsq fun q => { q with ignOrigin := o, attempt := 0 }

/-- A later attempt, with the LAMP_STATE of R13. -/
def nextAttempt (s : State) : State :=
  let begun := chargeStrike (attemptBegun s)
  raise (.lampState .striking .striking begun.lsq.attempt .timer) begun

/-! ### Power requests (1.4) -/

/-- The outcome of a POWER_ON as SES sees it (R147). -/
inductive PowerOutcome where
  | started
  | alreadyLit
  | deferred
  | refused (r : Reason)
  deriving DecidableEq, Repr

/-- BFAULT found asserted at a POWER_ON in OFF: the BALLAST fault, the drop of the hold, and FAULT (R6). -/
def ballastAtPowerOn (s : State) : State := lampChange .fault .fault (dropHold .fault (recordFault .ballast s))

/-- A POWER_ON taken in OFF, by the checks of R6 in their order. -/
def powerOnInOff (o : Origin) (s : State) : State × PowerOutcome :=
  if condition s.lamp = .expired then (s, .refused .lampExpired)
  else if s.lines.bfault then (ballastAtPowerOn s, .refused .lampFault)
  else if s.lines.lit then (goWarmup .request (endHold s), .started)
  else if s.windowFull then (hold o .window s, .deferred)
  else (firstAttempt o (endHold s), .started)

/-- The reason of a hold made in COOLING (R8). -/
def State.coolingReason (s : State) : HeldReason := if s.windowFull then .coolingWindow else .cooling

/-- A POWER_ON taken by LSQ (R6 to R8). -/
def lsqPowerOn (o : Origin) (s : State) : State × PowerOutcome :=
  match s.lsq.state with
  | .off => powerOnInOff o s
  | .striking | .warmup | .on => (s, .alreadyLit)
  | .offPending => (lampChange .on .request s, .alreadyLit)
  | .cooling => (hold o s.coolingReason s, .deferred)
  | .faultCooling | .fault => (s, .refused .lampFault)

/-- A POWER_ON taken by LSQ; one that is not refused is told to SSW (R85). -/
def takePowerOn (o : Origin) (s : State) : State × PowerOutcome :=
  match lsqPowerOn o s with
  | (s', .refused r) => (s', .refused r)
  | (s', out) => (firstPowerOn s', out)

/-- The reply to a POWER_ON (1.4). -/
def powerOnAnswer : PowerOutcome → Answer
  | .started => .accepted
  | .deferred => .accepted
  | .alreadyLit => .done
  | .refused r => .refused r

/-- A POWER_OFF taken by LSQ, with its reply (R10 to R12). -/
def lsqPowerOff (s : State) : State × Answer :=
  match s.lsq.state with
  | .off | .cooling => (endHold s, .done)
  | .striking => (goCooling .request s, .done)
  | .warmup | .on =>
    if s.settings.minOn ≤ s.lsq.litTime then (goCooling .request s, .done)
    else (lampChange .offPending .request (s.modLsq fun q => { q with warmupTimer := none }), .accepted)
  | .offPending | .faultCooling | .fault => (s, .done)

/-- A POWER_OFF taken by LSQ and reported to SSW (R10). -/
def takePowerOff (s : State) : State × Answer := (sswPowerOff (lsqPowerOff s).1, (lsqPowerOff s).2)

/-! ### Release of a hold (R9) -/

/-- A held power-on whose release finds the window still full stays held (R9). -/
def holdStays (o : Origin) (s : State) : State :=
  raise (.strikeHeld o .window (s.openingTime .window)) (s.modLsq fun q => { q with held := some ⟨o, .window⟩ })

/-- A held power-on is treated as a POWER_ON of its own origin taken in OFF (R9). -/
def releaseHeld (s : State) : State :=
  match s.lsq.held with
  | none => s
  | some h =>
    if condition s.lamp = .expired then dropHold .expired s
    else if s.lines.bfault then dropHold .fault (lampChange .fault .fault (recordFault .ballast s))
    else if s.lines.lit then goWarmup .request (endHold s)
    else if s.windowFull then holdStays h.origin s
    else firstAttempt h.origin (endHold s)

/-- The test of a power-on held in OFF: released where the window has become open (R9). -/
def testHold (s : State) : State :=
  if s.lsq.state = .off ∧ s.lsq.held ≠ none ∧ s.windowFull = false then releaseHeld s else s

/-! ### The lines LIT and BFAULT -/

/-- LIT rises (R14). -/
def litRises (s : State) : State :=
  let s := s.modLsq fun q => { q with litTime := 0, litCounting := true }
  if s.lsq.state = .striking then goWarmup .line s else s

/-- LIT falls (R18). -/
def litFalls (s : State) : State :=
  let s := s.modLsq fun q => { q with litTime := 0 }
  if litState s.lsq.state then goFaultCooling (recordFault .litLost s) else s

/-- BFAULT rises (R17). -/
def bfaultRises (s : State) : State :=
  match s.lsq.state with
  | .striking | .warmup | .on | .offPending => goFaultCooling (recordFault .ballast s)
  | .cooling => dropHold .fault (lampChange .faultCooling .fault (recordFault .ballast s))
  | .off => dropHold .fault (lampChange .fault .fault (recordFault .ballast s))
  | .faultCooling | .fault => recordFault .ballast s

/-! ### Timers -/

/-- The guard timers and the lit time at a second event (R2). -/
def lsqSecond (s : State) : State :=
  s.modLsq fun q => { q with
    attemptTimer := q.attemptTimer.map (· - 1)
    gapTimer := q.gapTimer.map (· - 1)
    warmupTimer := q.warmupTimer.map (· - 1)
    coolTimer := q.coolTimer.map (· - 1)
    litTime := if s.lines.lit && q.litCounting then q.litTime + 1 else q.litTime }

/-- The attempt timer expires (R15). -/
def attemptExpires (s : State) : State :=
  let failed := countFailed (s.modLsq fun q => { q with attemptTimer := none })
  if s.lsq.attempt < Config.attempts then failed.modLsq fun q => { q with gapTimer := some Config.retryGap }
  else goFaultCooling (recordFault .ignition failed)

/-- The retry gap timer expires (R15). -/
def gapExpires (s : State) : State :=
  if s.windowFull then hold s.lsq.ignOrigin .coolingWindow (goCooling .timer s)
  else if s.lines.lit then goWarmup .timer s
  else nextAttempt s

/-- The warm-up timer expires (R16). -/
def warmupExpires (s : State) : State := lampChange .on .timer (s.modLsq fun q => { q with warmupTimer := none })

/-- The cool timer expires (R9, R16). -/
def coolExpires (s : State) : State :=
  let stopped := s.modLsq fun q => { q with coolTimer := none }
  match s.lsq.state with
  | .cooling => releaseHeld (lampChange .off .timer stopped)
  | .faultCooling => lampChange .fault .timer stopped
  | _ => stopped

/-- A lamp in OFF_PENDING whose lit time has reached MIN_ON goes to COOLING (R12). -/
def minOnTest (cause : LampCause) (s : State) : State :=
  if s.lsq.state = .offPending ∧ s.settings.minOn ≤ s.lsq.litTime then goCooling cause s else s

/-! ### Requests of classes POWER and LAMP_SERVICE that LSQ and LLC own -/

/-- LAMP_MODE (R22). -/
def lampModeRequest (mode : Byte) (s : State) : State × Answer :=
  match modeOf mode with
  | none => (s, .invalid)
  | some m => (markIf (s.settings.mode != m) .settings (s.modSettings fun g => { g with mode := m }), .done)

/-- LAMP_CEILING (R22). -/
def lampCeilingRequest (level : Byte) (s : State) : State × Answer :=
  match modeOf level with
  | none => (s, .invalid)
  | some m => (markIf (s.settings.ceiling != m) .settings (s.modSettings fun g => { g with ceiling := m }), .done)

/-- The lamp leaves a fault state whose record has been cleared (R20). -/
def leaveFault (s : State) : State :=
  match s.lsq.state with
  | .fault => lampChange .off .clear s
  | .faultCooling => lampChange .cooling .clear s
  | _ => s

/-- FAULT_CLEAR (R20). -/
def faultClearRequest (s : State) : State × Answer :=
  match s.lamp.fault with
  | none => (s, .done)
  | some _ => (leaveFault (markDirty .lamp (s.modLamp fun r => { r with fault := none })), .done)

/-- FAULT_READ (R19). -/
def faultReadRequest (s : State) : State × Answer := (s, .doneWith (faultBytes s.lamp.fault))

/-- LAMP_REPLACE (R39, R41). -/
def lampReplaceRequest (s : State) : State × Answer :=
  match s.lsq.state with
  | .off => (markDirty .lamp (s.modLamp (replaceLamp s.cal)), .done)
  | .fault => (markDirty .lamp (lampChange .off .clear (s.modLamp (replaceLamp s.cal))), .done)
  | _ => (s, .refused .lampBusy)

end Sys2Proof.Machine
end

