-- ==== Sys2Proof/Machine/Lockout.lean ====
section
/-! DEFINITION. Lockout Control (chapter 6): the inputs of the effective level and their requests. The check itself stands in
Machine/Flags.lean; the keypad's power button, which acts on the lamp and the session, in Machine/Session.lean. -/

namespace Sys2Proof.Machine

/-- LOCKOUT_CHANGED for the four inputs as they stand (R111). -/
def lockPayload (prev : Level) (cause : LockCause) (s : State) : Payload :=
  .lockoutChanged s.effLevel prev cause s.settings.baseLevel s.lkc.hold s.lkc.sessionLevel s.lkc.service

/-- LKC takes a change `f` of its inputs and recomputes the effective level; a change of it raises LOCKOUT_CHANGED
(R110, R111). -/
def lkcChange (cause : LockCause) (f : State → State) (s : State) : State :=
  let s' := f s
  if s'.effLevel = s.effLevel then s' else raise (lockPayload s.effLevel cause s') s'

/-- LOCKOUT_BASE (R112). -/
def lockoutBaseRequest (level : Byte) (s : State) : State × Answer :=
  match levelOf level with
  | none => (s, .invalid)
  | some l => (lkcChange .base (fun s => markDirty .settings (s.modSettings fun g => { g with baseLevel := l })) s, .done)

/-- Set or clear the presenter hold. -/
def setPresenter (b : Bool) (s : State) : State := s.modLkc fun k => { k with hold := b }

/-- PRESENTER_HOLD SET (R113). -/
def presenterSet (s : State) : State × Answer :=
  if s.ses.isSome then (lkcChange .hold (setPresenter true) s, .done) else (s, .refused .noSession)

/-- PRESENTER_HOLD CLEAR (R113). -/
def presenterClear (s : State) : State × Answer := (lkcChange .hold (setPresenter false) s, .done)

/-- PRESENTER_HOLD by its action; another action never passes the check (R109). -/
def presenterHoldRequest (action : Byte) (s : State) : State × Answer :=
  if action = 1 then presenterSet s else if action = 0 then presenterClear s else (s, .denied s.effLevel)

/-- Set or clear the service flag. -/
def setService (b : Bool) (s : State) : State := s.modLkc fun k => { k with service := b }

/-- SERVICE ENTER (R115). -/
def serviceIn (s : State) : State × Answer :=
  if s.lkc.service then (s, .done)
  else if s.lsq.state = .off ∨ s.lsq.state = .fault then (lkcChange .service (setService true) s, .done)
  else (s, .refused .lampNotOff)

/-- SERVICE LEAVE (R116). -/
def serviceOut (s : State) : State × Answer := (lkcChange .service (setService false) s, .done)

/-- SERVICE by its action; another action never passes the check (R109). -/
def serviceRequest (action : Byte) (s : State) : State × Answer :=
  if action = 1 then serviceIn s else if action = 0 then serviceOut s else (s, .denied s.effLevel)

/-- A session opens or closes: the session level, and the presenter hold at a close (R114). -/
def sessionLevel (level : Option Level) (clearHold : Bool) (s : State) : State :=
  lkcChange .session
    (fun s => s.modLkc fun k => { k with sessionLevel := level, hold := if clearHold then false else k.hold }) s

/-- Open or close the confirm window. -/
def setConfirm (b : Bool) (s : State) : State := s.modLkc fun k => { k with confirmOpen := b }

end Sys2Proof.Machine
end

