-- ==== Sys2Proof/Machine/Timetable.lean ====
section
/-! DEFINITION. The Timetable Engine (chapter 7): what runs on a date, the finding and the two queries, the purge, the writing
of entries and the holiday list. The calendar's counting and setting, which SES hears of, stand in Machine/Session.lean. -/

namespace Sys2Proof.Machine

/-- The 48 slots, in index order. -/
def allSlots : List (Fin 48) := List.finRange 48

/-! ### What runs (R137) -/

/-- An enabled dated entry for the date. -/
def Entry.isDated (e : Entry) (d : Date) : Bool :=
  e.enabled && (match e.days with
    | .dated d' => d' == d
    | .weekly _ => false)

/-- An enabled weekday entry whose day set holds the date's weekday. -/
def Entry.isWeekly (e : Entry) (d : Date) : Bool :=
  e.enabled && (match e.days with
    | .weekly days => days.getLsbD (weekday d)
    | .dated _ => false)

/-- At least one enabled dated entry has the date. -/
def TimetableRecord.hasDated (t : TimetableRecord) (d : Date) : Bool :=
  t.slots.toList.any fun e => e.any fun e => e.isDated d

/-- An entry runs on a date (R137). -/
def TimetableRecord.runs (t : TimetableRecord) (d : Date) (e : Entry) : Bool :=
  if t.hasDated d then e.isDated d else if t.holidays.contains d then false else e.isWeekly d

/-- A slot with a copy of its entry, as TTE hands it to SES (R137, R140). -/
structure Found where
  slot : Fin 48
  entry : Entry
  deriving DecidableEq, Repr

/-- The lowest slot whose entry has the property. -/
def TimetableRecord.find (t : TimetableRecord) (p : Entry → Bool) : Option Found :=
  allSlots.findSome? fun i =>
    match t.slots[i] with
    | some e => if p e then some ⟨i, e⟩ else none
    | none => none

/-- The finding of a minute event: the entry that runs on the date and starts at the minute; none while the clock-valid flag
is clear (R137). -/
def State.finding (s : State) (d : Date) (m : Nat) : Option Found :=
  if s.cal.valid then s.timetable.find fun e => s.timetable.runs d e && e.start == m else none

/-- The late-start query (R138). -/
def State.lateStart (s : State) (d : Date) (m : Nat) : Option Found :=
  if s.cal.valid then
    s.timetable.find fun e =>
      s.timetable.runs d e && decide (e.start ≤ m) && decide (m < e.stop) && decide (m + Config.spanMin ≤ e.stop)
  else none

/-- The least of a list of minutes. -/
def leastOf : List Nat → Option Nat
  | [] => none
  | n :: rest =>
    match leastOf rest with
    | none => some n
    | some m => some (min n m)

/-- The next-start query: the lowest start minute at or after `m` among the entries that run on the date (R138). -/
def State.nextStart (s : State) (d : Date) (m : Nat) : Option Nat :=
  if s.cal.valid then
    leastOf ((s.timetable.slots.toList.filterMap id).filterMap fun e =>
      if s.timetable.runs d e && decide (m ≤ e.start) then some e.start else none)
  else none

/-! ### The purge (R139) -/

/-- A dated entry whose date is before `d`. -/
def Entry.isPast (e : Entry) (d : Date) : Bool :=
  match e.days with
  | .dated d' => dateBefore d' d
  | .weekly _ => false

/-- Dated entries before the date are deleted; TIMETABLE is marked dirty if there is one (R139). -/
def purge (d : Date) (s : State) : State :=
  if s.timetable.slots.toList.any fun e => e.any fun e => e.isPast d then
    markDirty .timetable <| s.modTimetable fun t =>
      { t with slots := t.slots.map fun e => if e.any fun e => e.isPast d then none else e }
  else s

/-! ### Writing entries (R130 to R133) -/

/-- Two spans overlap: each starts before the other ends (R129). -/
def spansOverlap (a b : Entry) : Bool := decide (a.start < b.stop) && decide (b.start < a.stop)

/-- Two entries can both run on one date (R131). -/
def canBothRun (a b : Entry) : Bool :=
  match a.days, b.days with
  | .weekly x, .weekly y => x &&& y != 0
  | .dated x, .dated y => x == y
  | _, _ => false

/-- Two enabled entries that can both run on one date share a minute (R131). -/
def conflicts (a b : Entry) : Bool := a.enabled && b.enabled && canBothRun a b && spansOverlap a b

/-- The lowest slot, other than the one written, whose entry conflicts (R131, R132). -/
def TimetableRecord.conflict (t : TimetableRecord) (i : Fin 48) (e : Entry) : Option (Fin 48) :=
  allSlots.find? fun j => j != i && t.slots[j].any fun e' => conflicts e e'

/-- The lowest free slot (R132). -/
def TimetableRecord.freeSlot (t : TimetableRecord) : Option (Fin 48) := allSlots.find? fun j => t.slots[j].isNone

/-- The entry is placed in the slot, unless it conflicts (R132). `clamped`: the warn lead was (R130). -/
def placeEntry (i : Fin 48) (e : Entry) (clamped : Bool) (s : State) : State × Answer :=
  match s.timetable.conflict i e with
  | some j => (s, .conflict j)
  | none =>
    (markDirty .timetable (s.modTimetable fun t => { t with slots := t.slots.set i (some e) }),
     .clampedIf clamped [finByte i])

/-- The slot of an ENTRY_WRITE: given when its mark bit is set, and then at most 47 (R130, R190). -/
def slotOf (b : Option Byte) : Option (Option (Fin 48)) :=
  match b with
  | none => some none
  | some b => (indexOf 48 b).map some

/-- ENTRY_WRITE (R130, R132). -/
def entryWriteRequest (w : RawEntryWrite) (s : State) : State × Answer :=
  if w.spare ≠ 0 then (s, .invalid)
  else
    match slotOf w.slot, entryOf w.entry with
    | some (some i), some e => placeEntry i e (decide (Config.warnLeadMax < w.entry.warnLead.toNat)) s
    | some none, some e =>
      match s.timetable.freeSlot with
      | none => (s, .full)
      | some i => placeEntry i e (decide (Config.warnLeadMax < w.entry.warnLead.toNat)) s
    | _, _ => (s, .invalid)

/-- ENTRY_DELETE (R133). -/
def entryDeleteRequest (slot : Byte) (s : State) : State × Answer :=
  match indexOf 48 slot with
  | none => (s, .invalid)
  | some i =>
    if s.timetable.slots[i].isSome then
      (markDirty .timetable (s.modTimetable fun t => { t with slots := t.slots.set i none }), .done)
    else (s, .done)

/-- The number of occupied slots (R134). -/
def TimetableRecord.occupied (t : TimetableRecord) : Nat := (t.slots.toList.filter Option.isSome).length

/-- ENTRY_READ (R134). The bytes of an entry follow for an occupied slot. -/
def entryReadRequest (slot : Byte) (s : State) : State × Answer :=
  match indexOf 48 slot with
  | none => (s, .invalid)
  | some i =>
    (s, .doneWith ([finByte i, flag s.timetable.slots[i].isSome, byte1 s.timetable.occupied]
      ++ (match s.timetable.slots[i] with
          | some e => entryBytes e
          | none => [])))

/-! ### Holidays (R135, R136) -/

/-- Insert a date at its place in ascending order. -/
def insertDate (d : Date) : List Date → List Date
  | [] => [d]
  | x :: rest => if dateBefore d x then d :: x :: rest else x :: insertDate d rest

/-- HOLIDAY_ADD (R135). -/
def holidayAddRequest (raw : RawDate) (s : State) : State × Answer :=
  let d := dateOf raw
  if !validDate d then (s, .invalid)
  else if s.timetable.holidays.contains d then (s, .done)
  else if Config.holidaysMax ≤ s.timetable.holidays.length then (s, .full)
  else (markDirty .timetable (s.modTimetable fun t => { t with holidays := insertDate d t.holidays }), .done)

/-- HOLIDAY_REMOVE (R136). -/
def holidayRemoveRequest (raw : RawDate) (s : State) : State × Answer :=
  let d := dateOf raw
  if !validDate d then (s, .invalid)
  else if s.timetable.holidays.contains d then
    (markDirty .timetable (s.modTimetable fun t => { t with holidays := t.holidays.erase d }), .done)
  else (s, .done)

/-- HOLIDAY_READ (R136). -/
def holidayReadRequest (s : State) : State × Answer :=
  (s, .doneWith (byte1 s.timetable.holidays.length :: s.timetable.holidays.flatMap dateBytes))

/-! ### TIME_READ (R128) -/

/-- TIME_READ. -/
def timeReadRequest (s : State) : State × Answer :=
  (s, .doneWith (dateBytes s.cal.date ++ [byte1 (weekday s.cal.date)] ++ timeBytes s.cal.time ++ [flag s.cal.valid]))

end Sys2Proof.Machine
end

