-- ==== Sys2Proof/Machine/Session.lean ====
section
/-! DEFINITION. Sessions (chapter 8): opening, warning, extension and closing; with them the calendar's second and TIME_SET,
whose events SES acts on (chapter 7), and the power requests of the user origins (R150, R156, R119). -/

namespace Sys2Proof.Machine

/-! ### Closing (R158, R159) -/

/-- What becomes of the end action at a close (R158, R159). A set service flag reports it SUPPRESSED. -/
def endFate (reason : CloseReason) (endOff service : Bool) : ActionFate :=
  match reason with
  | .powerOff | .handover => .notApplicable
  | .ended | .request => if service then .suppressed else if endOff then .issued else .noAction

/-- A POWER_OFF of origin TIMETABLE, whose outcome SES does not use. -/
def issuePowerOff (s : State) : State := (takePowerOff s).1

/-- Step 3 of R158: a hold that LSQ keeps for the session is ended by a POWER_OFF, unless the end action's POWER_OFF or the
successor's POWER_ON will end it. -/
def endDeferral (r : Session) (fate : ActionFate) (nextPowerOn : Bool) (s : State) : State :=
  if r.deferred && fate != .issued && !nextPowerOn then issuePowerOff s else s

/-- Step 4 of R158. -/
def endAction (fate : ActionFate) (s : State) : State := if fate = .issued then issuePowerOff s else s

/-- Every close, in the order of R158. `next`: the entry of the successor at a HANDOVER. -/
def closeSession (reason : CloseReason) (next : Option Entry) (s : State) : State :=
  match s.ses with
  | none => s
  | some r =>
    let fate := endFate reason r.endOff s.lkc.service
    let nextPowerOn := (next.any fun e => e.powerOn) && !s.lkc.service
    let s := applyPreset .session (sessionLevel (next.map fun e => e.level) true s)
    let s := endAction fate (endDeferral r fate nextPowerOn s)
    raise (.sessionClosed r.kind r.slot reason r.used fate) (s.modSes fun _ => none)

/-! ### Opening (R145 to R150) -/

/-- The record of a session opened for an entry (R145). -/
def scheduledSession (f : Found) (d : Date) (suppressed : Bool) (c : Cal) : Session :=
  { kind := .scheduled, slot := some f.slot, openedDate := c.date, openedTime := c.time, date := d,
    plannedEnd := f.entry.stop, level := f.entry.level, warnLead := f.entry.warnLead, allowance := f.entry.allowance,
    used := 0, warned := false, endOff := f.entry.powerOff, source := f.entry.source, sourceState := none,
    deferred := false, suppressed := suppressed }

/-- The source state set at the taking of the session's SELECT (R149). -/
def takenSource : SelectOutcome → SourceState
  | .accepted => .pending
  | .done => .locked
  | .disabled => .refused

/-- SES issues the SELECT of the session's source (R146). -/
def issueSelect (source : Option (Fin 6)) (s : State) : State :=
  match source with
  | none => s
  | some i =>
    let r := sswSelect .timetable i s
    r.1.modSes fun q => q.map fun q => { q with sourceState := some (takenSource r.2) }

/-- The outcome SESSION_OPEN reports for the session's power-on, and its refusal reason (R147). -/
def openReport : PowerOutcome → OpenOutcome × Option Reason
  | .started => (.started, none)
  | .alreadyLit => (.alreadyLit, none)
  | .deferred => (.deferred, none)
  | .refused r => (.lampRefused, some r)

/-- SES issues the start actions and finds the outcome to report (R146, R147). -/
def startActions (e : Entry) (suppressed : Bool) (s : State) : State × OpenOutcome × Option Reason :=
  if suppressed then (s, .suppressed, none)
  else
    let s := issueSelect e.source s
    if e.powerOn then
      let r := takePowerOn .timetable s
      (r.1, openReport r.2)
    else (s, .noAction, none)

/-- A SCHEDULED session opens for an entry (R145). `level`: LKC is handed the level now; at a HANDOVER it has been handed
with the close (R114). -/
def openScheduled (way : SessionWay) (f : Found) (d : Date) (suppressed handLevel : Bool) (s : State) : State :=
  let s := s.modSes fun _ => some (scheduledSession f d suppressed s.cal)
  let s := if handLevel then sessionLevel (some f.entry.level) false s else s
  let r := startActions f.entry suppressed s
  raise (.sessionOpen .scheduled (some f.slot) way f.entry.stop f.entry.level r.2.1 r.2.2) r.1

/-- A HANDOVER: the open session closes and the successor opens, its actions by the service flag (R157). -/
def handover (way : SessionWay) (f : Found) (d : Date) (s : State) : State :=
  openScheduled way f d s.lkc.service false (closeSession .handover (some f.entry) s)

/-- The record of a manual session (R150). -/
def manualSession (s : State) : Session :=
  { kind := .manual, slot := none, openedDate := s.cal.date, openedTime := s.cal.time, date := s.cal.date,
    plannedEnd := min (minuteOf s.cal.time + s.settings.manualSpan) Config.dayMinutes, level := s.settings.manualLevel,
    warnLead := s.settings.manualWarn, allowance := s.settings.manualExt, used := 0, warned := false, endOff := true,
    source := none, sourceState := none, deferred := false, suppressed := false }

/-- A MANUAL session opens at a user POWER_ON that was not refused (R150). -/
def openManual (out : PowerOutcome) (s : State) : State :=
  let r := manualSession s
  let s := sessionLevel (some r.level) false (s.modSes fun _ => some r)
  raise (.sessionOpen .manual none .manual r.plannedEnd r.level (openReport out).1 none) s

/-! ### The late-start check (R151) -/

/-- The answer of the late-start query, treated as none where it names the slot of the session that is closing or has just
closed. -/
def State.lateAnswer (s : State) (closed : Option (Fin 48)) (d : Date) (m : Nat) : Option Found :=
  (s.lateStart d m).filter fun f => closed != some f.slot

/-- The check with no session open; an answer opens with the way LATE. -/
def lateCheck (closed : Option (Fin 48)) (suppressed : Bool) (s : State) : State :=
  match s.lateAnswer closed s.cal.date (minuteOf s.cal.time) with
  | none => s
  | some f => openScheduled .late f s.cal.date suppressed true s

/-- A close of reason REQUEST or POWER_OFF and the check after it, whose session opens with its actions suppressed. -/
def closeThenLate (reason : CloseReason) (s : State) : State :=
  match s.ses with
  | none => s
  | some r => lateCheck r.slot true (closeSession reason none s)

/-! ### Power requests of the user origins -/

/-- A user POWER_ON: taken by LSQ, its outcome handed to SES (R150). -/
def userPowerOn (o : Origin) (s : State) : State × PowerOutcome :=
  let r := takePowerOn o s
  match r.2 with
  | .refused _ => r
  | out => (if r.1.ses.isNone && !r.1.lkc.service then openManual out r.1 else r.1, out)

/-- A user POWER_OFF: taken by LSQ and reported to SES, which closes an open session (R156). -/
def userPowerOff (s : State) : State × Answer := (closeThenLate .powerOff (takePowerOff s).1, (takePowerOff s).2)

/-- POWER_ON as a request (1.4). -/
def powerOnRequest (o : Origin) (s : State) : State × Answer := ((userPowerOn o s).1, powerOnAnswer (userPowerOn o s).2)

/-- POWER_OFF as a request (1.4). -/
def powerOffRequest (s : State) : State × Answer := userPowerOff s

/-- An allowed press of KP_POWER (R119). -/
def powerPressAllowed (s : State) : State :=
  if drivenState s.lsq.state then
    if s.lkc.confirmOpen then (userPowerOff (setConfirm false s)).1
    else raise (.keypadConfirm s.lsq.state Config.confirmSeconds) (setConfirm true s)
  else (userPowerOn .keypad s).1

/-- A press of KP_POWER (R118, R119). -/
def powerPress (s : State) : State :=
  if s.keypadPasses .power then powerPressAllowed s else setConfirm false (raiseDenied .power s)

/-- The auto-off test of R83: with no session open, a POWER_OFF of origin PART. -/
def autoOff (s : State) : State := if s.ses.isNone then (takePowerOff s).1 else s

/-- The auto-off is due: the running count stands at or above a non-zero NOSIG_OFF (R83). -/
def State.autoOffDue (s : State) : Bool :=
  s.nosigRunning && s.settings.nosigOff != 0 && decide (s.settings.nosigOff ≤ s.ssw.nosigCount)

/-- The test that a second event has made due (R83). -/
def nosigOffTest (s : State) : State :=
  if s.ssw.autoOffTest && s.autoOffDue then autoOff (s.modSsw fun w => { w with autoOffTest := false }) else s

/-! ### Warning and extension (R152, R153) -/

/-- SESSION_WARN at a minute of the session date (R152). -/
def warnPayload (r : Session) (m : Nat) : Payload :=
  .sessionWarn r.kind r.slot r.plannedEnd (r.plannedEnd - m) (r.allowance - r.used)

/-- Raise SESSION_WARN and set warned. -/
def warn (r : Session) (m : Nat) (s : State) : State :=
  raise (warnPayload r m) (s.modSes fun _ => some { r with warned := true })

/-- The warning test of a minute event (R152). -/
def warnTest (d : Date) (m : Nat) (s : State) : State :=
  match s.ses with
  | none => s
  | some r =>
    if r.date = d ∧ m < r.plannedEnd ∧ r.warnLead ≠ 0 ∧ r.warned = false ∧ r.plannedEnd ≤ m + r.warnLead then warn r m s
    else s

/-- The new planned end an EXTEND finds (R153). -/
def State.extendedEnd (s : State) (r : Session) : Nat :=
  min (min (r.plannedEnd + s.settings.extMinutes) ((s.nextStart r.date r.plannedEnd).getD Config.dayMinutes))
    Config.dayMinutes

/-- EXTEND (R153). -/
def extendRequest (s : State) : State × Answer :=
  match s.ses with
  | none => (s, .refused .noSession)
  | some r =>
    if r.allowance ≤ r.used then (s, .refused .extExhausted)
    else if s.extendedEnd r = r.plannedEnd then (s, .refused .nextEntry)
    else
      (s.modSes fun _ => some { r with plannedEnd := s.extendedEnd r, used := r.used + 1, warned := false },
       .doneWith (byte2 (s.extendedEnd r) ++ [byte1 (r.allowance - (r.used + 1))]))

/-- END_SESSION (R155). -/
def endSessionRequest (s : State) : State × Answer :=
  if s.ses.isSome then (closeThenLate .request s, .done) else (s, .refused .noSession)

/-- SESSION_READ (R143). -/
def sessionReadRequest (s : State) : State × Answer := (s, .doneWith (sessionBytes s.ses))

/-! ### Minute and day events (R126, R137, R145, R154) -/

/-- A minute event with its finding, for SES: an opening, a handover or a close. -/
def minuteFinding (d : Date) (m : Nat) (f : Option Found) (s : State) : State :=
  match s.ses, f with
  | none, none => s
  | none, some f => openScheduled .minute f d s.lkc.service true s
  | some _, some f => handover .minute f d s
  | some r, none =>
    if r.date = d ∧ m = r.plannedEnd then
      match s.lateAnswer r.slot d m with
      | some g => handover .late g d s
      | none => closeSession .ended none s
    else s

/-- A minute event: TTE's finding, then SES, with the warning test last. -/
def minuteEvent (d : Date) (m : Nat) (s : State) : State := warnTest d m (minuteFinding d m (s.finding d m) s)

/-- The three events of midnight, in their order (R126); `ending` is the date that ends. -/
def midnightEvents (ending : Date) (s : State) : State :=
  minuteEvent s.cal.date 0 (purge s.cal.date (minuteEvent ending Config.dayMinutes s))

/-- The events a calendar second hands, for the date before it (R126). -/
def calendarEvents (before : Date) (s : State) : State :=
  if s.cal.time = midnight then midnightEvents before s
  else if s.cal.time.second = 0 then minuteEvent s.cal.date (minuteOf s.cal.time) s
  else s

/-! ### CAL (R124, R127) -/

/-- The last date of the calendar. -/
def lastDate : Date := ⟨2099, 12, 31⟩

/-- The calendar one second on (R124). -/
def Cal.next (c : Cal) : Cal :=
  let t := timeAfter c.time 1
  if t = midnight then
    { c with date := nextDate c.date, time := t, valid := c.valid && c.date != lastDate }
  else { c with time := t }

/-- TIME_INVALID, with the date the running clock shows (R125). -/
def raiseTimeInvalid (s : State) : State := raise (.timeInvalid s.cal.date) s

/-- A calendar second at which the part runs: CAL counts and hands its events; the rollover that clears the flag raises
TIME_INVALID (R124 to R126). -/
def calendarTick (s : State) : State :=
  let counted := s.modCal Cal.next
  calendarEvents s.cal.date (if s.cal.valid && !counted.cal.valid then raiseTimeInvalid counted else counted)

/-- The record after a TIME_SET from minute `m` to minute `m'` of date `d` (R160). -/
def movedSession (r : Session) (m : Nat) (d : Date) (m' : Nat) : Session :=
  let stop := min (m' + (r.plannedEnd - m)) Config.dayMinutes
  { r with plannedEnd := stop, date := d, warned := if m' + r.warnLead < stop then false else r.warned }

/-- The time-set report at SES: an open session keeps its remaining minutes, and one that stands past its warning point is
warned at once; with no session open the late-start check is made (R151, R160). -/
def timeSetReport (m : Nat) (s : State) : State :=
  match s.ses with
  | none => lateCheck none s.lkc.service s
  | some r =>
    let m' := minuteOf s.cal.time
    let r' := movedSession r m s.cal.date m'
    warnTest s.cal.date m' (s.modSes fun _ => some r')

/-- TIME_SET (R127). -/
def timeSetRequest (date : RawDate) (time : RawTime) (s : State) : State × Answer :=
  if validDate (dateOf date) && validTime (timeOf time) then
    (timeSetReport (minuteOf s.cal.time)
      (s.modCal fun c => { c with date := dateOf date, time := timeOf time, valid := true }), .done)
  else (s, .invalid)

end Sys2Proof.Machine
end

