-- ==== Sys2Proof/Machine/Guard.lean ====
section
/-! DEFINITION. GUARD_SET (R3, R30, R84, R144): its check as a whole, the values it leaves, and what follows from them at
once. -/

namespace Sys2Proof.Machine

/-- A field that is absent, or whose value stands in its table. -/
def fieldOk {α : Type} (f : Byte → Option α) (b : Option Byte) : Bool :=
  match b with
  | none => true
  | some b => (f b).isSome

/-- No field carries a value for which INVALID is laid down (R84, R144). -/
def guardValid (g : RawGuard) : Bool :=
  fieldOk boolOf g.autoDim && fieldOk boolOf g.autoscan && fieldOk (indexOf 6) g.powerOnInput
    && fieldOk levelOf g.manualLevel

/-- A carried value, clamped to its range; otherwise the value held. -/
def newNat {w : Nat} (r : Config.Range) (b : Option (BitVec w)) (old : Nat) : Nat :=
  match b with
  | none => old
  | some n => r.clamp n.toNat

/-- A carried code's value; otherwise the value held. -/
def newCode {α : Type} (f : Byte → Option α) (b : Option Byte) (old : α) : α := (b.bind f).getD old

/-- A carried value that its clamp changes. -/
def wasClamped {w : Nat} (r : Config.Range) (b : Option (BitVec w)) : Bool :=
  b.any fun n => r.clamp n.toNat != n.toNat

/-- A value of the request was clamped. -/
def guardClamped (g : RawGuard) : Bool :=
  wasClamped Config.minOn g.minOn || wasClamped Config.cool g.cool || wasClamped Config.warmupTime g.warmupTime
    || wasClamped Config.igniteTimeout g.igniteTimeout || wasClamped Config.strikeMax g.strikeMax
    || wasClamped Config.strikeWindow g.strikeWindow || wasClamped Config.strikeWear g.strikeWear
    || wasClamped Config.switchTimeout g.switchTimeout || wasClamped Config.nosigDim g.nosigDim
    || wasClamped Config.nosigOff g.nosigOff || wasClamped Config.manualSpan g.manualSpan
    || wasClamped Config.manualExt g.manualExt || wasClamped Config.manualWarn g.manualWarn
    || wasClamped Config.extMinutes g.extMinutes

/-- SETTINGS after the request. -/
def guardSettings (g : RawGuard) (t : Settings) : Settings :=
  { t with
    minOn := newNat Config.minOn g.minOn t.minOn
    cool := newNat Config.cool g.cool t.cool
    warmupTime := newNat Config.warmupTime g.warmupTime t.warmupTime
    igniteTimeout := newNat Config.igniteTimeout g.igniteTimeout t.igniteTimeout
    strikeMax := newNat Config.strikeMax g.strikeMax t.strikeMax
    strikeWindow := newNat Config.strikeWindow g.strikeWindow t.strikeWindow
    switchTimeout := newNat Config.switchTimeout g.switchTimeout t.switchTimeout
    nosigDim := newNat Config.nosigDim g.nosigDim t.nosigDim
    nosigOff := newNat Config.nosigOff g.nosigOff t.nosigOff
    autoDim := newCode boolOf g.autoDim t.autoDim
    manualSpan := newNat Config.manualSpan g.manualSpan t.manualSpan
    manualLevel := newCode levelOf g.manualLevel t.manualLevel
    manualExt := newNat Config.manualExt g.manualExt t.manualExt
    manualWarn := newNat Config.manualWarn g.manualWarn t.manualWarn
    extMinutes := newNat Config.extMinutes g.extMinutes t.extMinutes }

/-- The request carries a setting held in SETTINGS. -/
def guardInSettings (g : RawGuard) : Bool :=
  g.minOn.isSome || g.cool.isSome || g.warmupTime.isSome || g.igniteTimeout.isSome || g.strikeMax.isSome
    || g.strikeWindow.isSome || g.switchTimeout.isSome || g.nosigDim.isSome || g.nosigOff.isSome || g.autoDim.isSome
    || g.manualSpan.isSome || g.manualLevel.isSome || g.manualExt.isSome || g.manualWarn.isSome || g.extMinutes.isSome

/-- The values are written together and their records marked dirty (R3, R30, R84, R144). DESIGN CHOICE (log 55): SETTINGS is
marked first, then LAMP, then INPUTS. -/
def guardWrite (g : RawGuard) (s : State) : State :=
  let s := s.modSettings (guardSettings g)
  let s := s.modLamp fun r => { r with strikeWear := newNat Config.strikeWear g.strikeWear r.strikeWear }
  let s := s.modInputs fun r =>
    { r with autoscan := newCode boolOf g.autoscan r.autoscan
             powerOnInput := newCode (indexOf 6) g.powerOnInput r.powerOnInput }
  markIf (g.autoscan.isSome || g.powerOnInput.isSome) .inputs
    (markIf g.strikeWear.isSome .lamp (markIf (guardInSettings g) .settings s))

/-- `f` where `b` holds. -/
def doIf (b : Bool) (f : State → State) (s : State) : State := if b then f s else s

/-- The strike log is trimmed to a lowered STRIKE_MAX (R4). -/
def trimStrikes (s : State) : State :=
  s.modLsq fun q => { q with strikeLog := trimLog s.settings.strikeMax q.strikeLog }

/-- NOSIG_OFF has been lowered from `old` to `new`; 0 means never and stands above every other value (R83; log 39). -/
def nosigOffLowered (old new : Nat) : Bool := new != 0 && (old == 0 || decide (new < old))

/-- What follows at once from the values written, NOSIG_OFF having been `nosigOff`: the strike log and the hold waiting on it,
MIN_ON, NOSIG_DIM, AUTOSCAN, and the test of an auto-off that a lowered NOSIG_OFF makes due (R3, R4, R9, R12, R77, R82, R83).
DEDUCED (log 39): a write that does not lower NOSIG_OFF tests nothing. -/
def guardEffects (g : RawGuard) (nosigOff : Nat) (s : State) : State :=
  let s := doIf g.strikeMax.isSome trimStrikes s
  let s := doIf g.minOn.isSome (minOnTest .request) s
  let s := doIf (g.strikeMax.isSome || g.strikeWindow.isSome) testHold s
  let s := doIf g.nosigDim.isSome nosigDimWritten s
  let s := doIf g.autoscan.isSome autoscanWritten s
  doIf (nosigOffLowered nosigOff s.settings.nosigOff && s.autoOffDue) autoOff s

/-- GUARD_SET. -/
def guardSetRequest (g : RawGuard) (s : State) : State × Answer :=
  if g.spare ≠ 0 ∨ guardValid g = false then (s, .invalid)
  else (guardEffects g s.settings.nosigOff (guardWrite g s), .clampedIf (guardClamped g) [])

end Sys2Proof.Machine
end

