-- ==== Sys2Proof/Machine/Ports.lean ====
section
/-! DEFINITION. The Control Ports (chapter 9): the owning block of every request, the taking of a request and its reply, the
reads and SUBSCRIBE that PTC owns, the receivers, the E port's transactions and the transmitters. -/

namespace Sys2Proof.Machine

/-! ### The requests PTC owns -/

/-- Set a port's subscription mask. -/
def Settings.setMask (g : Settings) (p : PortId) (m : BitVec 24) : Settings :=
  match p with
  | .e => { g with maskE := m }
  | .l => { g with maskL := m }
  | .f => { g with maskF := m }

/-- SUBSCRIBE (R175). -/
def subscribeRequest (p : PortId) (m : BitVec 24) (s : State) : State × Answer :=
  if m.toNat < 65536 then (markDirty .settings (s.modSettings fun g => g.setMask p m), .done) else (s, .invalid)

/-- A flags byte, bit 0 first. -/
def flagsByte (bs : List Bool) : Byte := byte1 (bs.foldr (fun b n => (if b then 1 else 0) + 2 * n) 0)

/-- The lamp's part of STATUS_READ. -/
def statusLamp (s : State) : List Byte :=
  [lampCode s.lsq.state, (match s.lsq.held with
      | some h => heldReasonCode h.reason
      | none => 0), optByte (fun h => originCode h.origin) s.lsq.held, modeCode s.settings.mode, modeCode s.settings.ceiling,
   powerCode s.powerLevel, flagsByte [s.lines.lit, s.lines.bfault], conditionCode (condition s.lamp)]
    ++ byte2 s.lamp.cur.hours ++ [flag s.lamp.cur.hot]

/-- The picture's part of STATUS_READ. -/
def statusPicture (s : State) : List Byte :=
  [optByte finByte s.ssw.selected, optByte pathCode s.selPath, optByte (fun r => switchCode r.kind) s.ssw.record,
   optByte (fun r => finByte r.target) s.ssw.record, optByte (fun r => originCode r.origin) s.ssw.record,
   phaseCode s.ssw.phase,
   flagsByte [s.ssw.userMute, s.ssw.mute, s.ssw.dimReport, s.ssw.trained, s.ssw.record.any fun r => r.superseded]]
    ++ byte2 s.ssw.nosigCount

/-- The lockout's and the session's part of STATUS_READ. -/
def statusRoom (s : State) : List Byte :=
  [levelCode s.effLevel, levelCode s.settings.baseLevel, optByte levelCode s.lkc.sessionLevel,
   flagsByte [s.lkc.hold, s.lkc.service, s.lkc.keylock, s.lkc.confirmOpen],
   optByte (fun r => sessionKindCode r.kind) s.ses]
    ++ optHalf (s.ses.map fun r => r.plannedEnd) ++ [optByte (fun r => flag r.deferred) s.ses]

/-- STATUS_READ: 30 bytes (R171, 11.5). -/
def statusReadRequest (p : PortId) (s : State) : State × Answer :=
  (s, .doneWith (statusLamp s ++ statusPicture s ++ statusRoom s
    ++ [flagsByte [s.cal.valid, s.storeBusy, (s.port p).overflow], byte1 (s.port p).queue.length]))

/-- NOTICES_READ (R174): at most four notices leave the queue, and one OVERFLOW may join it (R173). -/
def noticesReadRequest (p : PortId) (s : State) : State × Answer :=
  let taken := (s.port p).queue.take Config.noticesPerRead
  let s' := s.modPort p fun q => q.dropNotices Config.noticesPerRead s.cal.time
  (s', .doneWith ([byte1 taken.length, byte1 (s'.port p).queue.length] ++ taken.flatMap noticeEntry))

/-! ### The owning blocks (R166 step 6) -/

/-- The block that owns a request checks its fields, acts and answers. -/
def ownerAct (p : PortId) (o : Origin) (r : Request) (s : State) : State × Answer :=
  match r with
  | .powerOn => powerOnRequest o s
  | .powerOff => powerOffRequest s
  | .lampMode m => lampModeRequest m s
  | .select i => selectRequest o i s
  | .retrain i => retrainRequest o i s
  | .muteSet v => muteSetRequest v s
  | .keystone k => keystoneRequest k s
  | .presetStore => presetStoreRequest s
  | .extendEnd => extendRequest s
  | .endSession => endSessionRequest s
  | .timeSet d t => timeSetRequest d t s
  | .entryWrite w => entryWriteRequest w s
  | .entryDelete i => entryDeleteRequest i s
  | .holidayAdd d => holidayAddRequest d s
  | .holidayRemove d => holidayRemoveRequest d s
  | .lampReplace => lampReplaceRequest s
  | .lampLimits w => lampLimitsRequest w s
  | .lampCeiling l => lampCeilingRequest l s
  | .faultClear => faultClearRequest s
  | .inputConfig i c => inputConfigRequest i c s
  | .timingWrite i t => timingWriteRequest i t s
  | .timingOut i => timingOutRequest i s
  | .timingOther _ _ _ => (s, .invalid)
  | .panelSet w h => panelSetRequest w h s
  | .guardSet g => guardSetRequest g s
  | .subscribe m => subscribeRequest p m s
  | .lockoutBase l => lockoutBaseRequest l s
  | .presenterHold a => presenterHoldRequest a s
  | .service a => serviceRequest a s
  | .statusRead => statusReadRequest p s
  | .lampRead => lampReadRequest s
  | .historyRead i => historyReadRequest i s
  | .faultRead => faultReadRequest s
  | .inputRead i => inputReadRequest i s
  | .timingRead i => timingReadRequest i s
  | .geometryRead => geometryReadRequest s
  | .entryRead i => entryReadRequest i s
  | .holidayRead => holidayReadRequest s
  | .sessionRead => sessionReadRequest s
  | .timeRead => timeReadRequest s
  | .noticesRead => noticesReadRequest p s

/-! ### Taking (R166, R167) -/

/-- PTC forms the reply, which the port then holds. -/
def hasReply (p : PortId) (code : Byte) (a : Answer) (s : State) : State :=
  s.modPort p fun q => { q with reply := some ⟨code, a.status, a.fields⟩ }

/-- Steps 4 to 6 of R166: the origin, the check of LKC, the owning block; the reply is formed in the same step. -/
def takeRequest (p : PortId) (o : Byte) (r : Request) (s : State) : State :=
  match originOn p o with
  | none => hasReply p (kindCode (requestKind r)) .invalid s
  | some origin =>
    if checkPasses s.effLevel origin r then
      hasReply p (kindCode (requestKind r)) (ownerAct p origin r s).2 (ownerAct p origin r s).1
    else hasReply p (kindCode (requestKind r)) (.denied s.effLevel) s

/-- A complete frame is taken (R166). -/
def takeFrame (p : PortId) (body : List Byte) (s : State) : State :=
  match parseBody body with
  | .notRequest => s
  | .unknownCode c => hasReply p c .invalid s
  | .badLength c => hasReply p c .invalid s
  | .request o r => takeRequest p o r s

/-- A port takes its complete frames one at a time, in their order, while it holds no reply (R167). -/
def takeWaiting (p : PortId) : Nat → State → State
  | 0, s => s
  | n + 1, s =>
    if (s.port p).reply.isSome then s
    else
      match (s.port p).frames with
      | [] => s
      | body :: rest => takeWaiting p n (takeFrame p body (s.modPort p fun q => { q with frames := rest }))

/-- The port frames and takes requests: start-up is complete, and on E ENG_RST is negated (R176, R177). -/
def State.portOpen (s : State) (p : PortId) : Bool := s.operating && !(p == .e && s.lines.engRst)

/-- Take what can be taken; a port that is closed takes nothing. -/
def takeAll (p : PortId) (s : State) : State :=
  if s.portOpen p then takeWaiting p (s.port p).frames.length s else s

/-! ### Receive buffers (R164, R165) -/

/-- The bytes a receive buffer holds. -/
def Port.used (q : Port) : Nat := q.asm.length + (q.frames.map frameSize).sum

/-- A byte reaches a receiver; one that finds the buffer full is dropped. With `single`, bytes after a whole frame are
discarded (R168). The second value: a check byte has been reached. -/
def Port.receive (single : Bool) (b : Byte) (q : Port) : Port × Bool :=
  if Config.bufferMax ≤ q.used then (q, false)
  else
    let r := scanAll single (q.asm ++ [b])
    ({ q with asm := r.asm, frames := q.frames ++ r.done }, r.sawCheck)

/-- A frame with this body has just completed on the port: it is taken where no reply is held and none waits before it, and
otherwise joins the buffer, unless it finds no room (R165, R167). DESIGN CHOICE (log 27): a frame that finds no room is
dropped whole. DESIGN CHOICE (log 65): it arrives whole whatever the receiver assembles and whatever transaction is under way on
E, and both stand as they did. -/
def frameArrives (p : PortId) (body : List Byte) (take : State → State) (s : State) : State :=
  if s.portOpen p then
    settle <|
      if (s.port p).reply.isNone && (s.port p).frames.isEmpty then take s
      else if (s.port p).used + frameSize body ≤ Config.bufferMax then
        s.modPort p fun q => { q with frames := q.frames ++ [body] }
      else s
  else s

/-- A request arrives on a port as a complete frame. -/
def requestArrives (p : PortId) (o : Byte) (r : Request) (s : State) : State :=
  frameArrives p (encodeBody o r) (takeRequest p o r) s

/-- A frame given by its body arrives; fewer than 3 or more than 64 bytes never make a complete frame (R164). -/
def bodyArrives (p : PortId) (body : List Byte) (s : State) : State :=
  if Config.bodyMin ≤ body.length ∧ body.length ≤ Config.bodyMax then frameArrives p body (takeFrame p body) s else s

/-- A byte received on LRX or FRX without a framing error (R163, R164). -/
def uartByte (u : UartId) (b : Byte) (s : State) : State :=
  takeAll u.port (s.modPort u.port fun q => (q.receive false b).1)

/-- The gap timer of a port expires: the frame in assembly is abandoned (R164). -/
def gapExpired (p : PortId) (s : State) : State := s.modPort p fun q => { q with asm := [] }

/-! ### The E port's transactions (R168, R169) -/

/-- The frame a read returns where no reply is held. -/
def zeroFrame : List Byte := [0xA5, 0x00, 0x00]

/-- The first bytes that SDO sends of a frame, zeros after its last. -/
def sdoBytes (frame : List Byte) (n : Nat) : List Byte := frame.take n ++ List.replicate (n - frame.length) 0

/-- The bytes of a write, one by one. Once a check byte has been reached in the transaction, bytes that find no frame in
assembly are discarded (R164, R168). The second value: one has been reached. -/
def Port.receiveE : List Byte → Bool → Port → Port × Bool
  | [], checked, q => (q, checked)
  | b :: rest, checked, q =>
    if checked && q.asm.isEmpty then (q, true)
    else Port.receiveE rest (checked || (q.receive true b).2) (q.receive true b).1

/-- Set the transaction and what SDO has sent in it. -/
def setTxn (t : Transaction) (sdo : List Byte) (s : State) : State := s.modPtc fun q => { q with txn := t, sdo := sdo }

/-- SDO sends `n` zero bytes more. -/
def sdoZeros (n : Nat) (s : State) : List Byte := s.ptc.sdo ++ List.replicate n 0

/-- A transaction starts: what SDO has sent is counted afresh. -/
def startTxn (t : Transaction) (s : State) : State := setTxn t [] s

/-- Bytes of a write under way; the receiver discards every byte until start-up is complete (R168, R176). -/
def writeBytes (checked : Bool) (bs : List Byte) (s : State) : State :=
  if s.operating then
    let r := Port.receiveE bs checked s.ptc.e
    takeAll .e ((setTxn (.write r.2) (sdoZeros bs.length s) s).modPtc fun q => { q with e := r.1 })
  else setTxn (.write checked) (sdoZeros bs.length s) s

/-- Bytes of a read under way: SDO sends on (R169). -/
def readBytes (frame : List Byte) (isReply : Bool) (sent n : Nat) (s : State) : State :=
  setTxn (.read frame isReply (sent + n)) (sdoBytes frame (sent + n)) s

/-- A read starts: what it returns is fixed at the read byte (R169, R176). -/
def startRead (s : State) : State :=
  match s.ptc.e.reply with
  | some r => if s.operating then startTxn (.read (frameBytes (replyBody r)) true 0) s else startTxn (.read zeroFrame false 0) s
  | none => startTxn (.read zeroFrame false 0) s

/-- Bytes of a transaction under way. -/
def moreBytes (bs : List Byte) (s : State) : State :=
  match s.ptc.txn with
  | .write checked => writeBytes checked bs s
  | .read frame isReply sent => readBytes frame isReply sent bs.length s
  | .idle | .ignored => setTxn .ignored (sdoZeros bs.length s) s

/-- The bytes of a transaction, its first byte deciding what it is; while ENG_RST is asserted it is ignored
(R168, R169, R177). -/
def sdiBytes (bs : List Byte) (s : State) : State :=
  match s.ptc.txn, bs with
  | _, [] => s
  | .idle, b :: rest =>
    if s.lines.engRst then moreBytes bs (startTxn .ignored s)
    else if b = 0xA5 then moreBytes bs (startTxn (.write false) s)
    else if b = 0x5A then moreBytes rest (startRead s)
    else moreBytes bs (startTxn .ignored s)
  | _, _ => moreBytes bs s

/-- SSEL is negated: a frame still in assembly is abandoned, and a reply read to its check byte is released, whereupon the
next frame is taken (R167 to R169). -/
def txnEnds (s : State) : State :=
  let idle := s.modPtc fun q => { q with txn := .idle, e := { q.e with asm := [] } }
  match s.ptc.txn with
  | .read frame true sent =>
    if frame.length ≤ sent then takeAll .e (idle.modPort .e fun q => { q with reply := none }) else idle
  | _ => idle

/-- The bytes of a transaction, and its end where SSEL is negated after them. -/
def transaction (bs : List Byte) (ended : Bool) (s : State) : State :=
  if ended then txnEnds (sdiBytes bs s) else sdiBytes bs s

/-! ### The transmitters of L and F (R167) -/

/-- The idle transmitter chooses a notice before the port takes the frame that waits, where both can happen
(R167). DESIGN CHOICE (log 61): the operand decides. -/
def chooseFirst (u : UartId) (noticeFirst : Bool) (s : State) : State :=
  if noticeFirst && !(s.port u.port).frames.isEmpty then startTx u s else s

/-- The transmission of a frame ends: a reply sent is released and the next frame taken. -/
def sent (u : UartId) (noticeFirst : Bool) (s : State) : State :=
  let idle := s.modPtc fun t => t.setTx u .idle
  match s.ptc.tx u with
  | .reply _ => takeAll u.port (chooseFirst u noticeFirst (idle.modPort u.port fun q => { q with reply := none }))
  | .notice _ | .idle => idle

end Sys2Proof.Machine
end

