-- ==== Sys2Proof/Machine/ConfigCommands.lean ====
section
/-! DEFINITION. The CONFIG requests as commands. Each is one complete frame of its layout arriving on a port: a
port that is closed makes nothing of it, and a port that is busy keeps it in its buffer (R165, R167, R176, R177). -/

namespace Sys2Proof.Machine

/-- INPUT_CONFIG (R47). -/
def execInputConfig (p : PortId) (o : Byte) (index : Byte) (c : RawInputConfig) (s : State) : Host.Outcome State Fault Refusal :=
  .next (requestArrives p o (.inputConfig index c) s)

/-- TIMING_LOAD with the action 01h, write (R58). -/
def execTimingLoadWrite (p : PortId) (o : Byte) (index : Byte) (t : RawTiming) (s : State) : Host.Outcome State Fault Refusal :=
  .next (requestArrives p o (.timingWrite index t) s)

/-- TIMING_LOAD with the action 00h, out of use (R59). -/
def execTimingLoadOutOfUse (p : PortId) (o : Byte) (index : Byte) (s : State) : Host.Outcome State Fault Refusal :=
  .next (requestArrives p o (.timingOut index) s)

/-- PANEL_SET (R86). -/
def execPanelSet (p : PortId) (o : Byte) (width height : Half) (s : State) : Host.Outcome State Fault Refusal :=
  .next (requestArrives p o (.panelSet width height) s)

/-- GUARD_SET (R3). -/
def execGuardSet (p : PortId) (o : Byte) (g : RawGuard) (s : State) : Host.Outcome State Fault Refusal :=
  .next (requestArrives p o (.guardSet g) s)

/-- SUBSCRIBE (R175). -/
def execSubscribe (p : PortId) (o : Byte) (mask : BitVec 24) (s : State) : Host.Outcome State Fault Refusal :=
  .next (requestArrives p o (.subscribe mask) s)

end Sys2Proof.Machine
end

