-- ==== Sys2Proof/Machine/KeypadCommands.lean ====
section
/-! DEFINITION. The dial, the buttons, the key switch and the confirm window, as commands (R94, R117 to R120). Keypad events before start-up
is complete are discarded (R118). -/

namespace Sys2Proof.Machine

/-- The count of a dial change, handed on where the part runs. -/
def handCount (n : Option Int) (s : State) : State :=
  match n with
  | none => s
  | some n => if s.operating then dialCounted n s else s

/-- DIAL_A or DIAL_B changes: the new pair becomes the accepted pair (R94). -/
def dialMoved (a b : Bool) (s : State) : State :=
  let lined := s.modLines fun l => { l with dialA := a, dialB := b }
  if s.lines.supply then
    handCount (dialCount s.kpi.pairA s.kpi.pairB a b) (lined.modKpi fun k => { k with pairA := a, pairB := b })
  else lined

/-- A change of DIAL_A or DIAL_B (R94). -/
def execDialEdge (a b : Bool) (s : State) : Host.Outcome State Fault Refusal :=
  .next (settle (dialMoved a b s))

/-- The debounced levels when the next command comes: the button just pressed may have been released since, and each other
button keeps its level or has been released (R94). DESIGN CHOICE (log 45): the operand `held` says so. -/
def Kpi.pressed (k : Kpi) (event : KeypadEvent) (held : Buttons) : Kpi :=
  { k with power := (k.power || event == .power) && held.power
           source := (k.source || event == .source) && held.source
           axis := (k.axis || event == .axis) && held.axis }

/-- A debounced press of KP_POWER (R119). -/
def execKpPowerPress (s : State) (held : Buttons := ⟨false, false, false⟩) : Host.Outcome State Fault Refusal :=
  .next (whenOperating powerPress (s.modKpi fun k => k.pressed .power held))

/-- A debounced press of KP_SOURCE (R78, R118). -/
def execKpSourcePress (s : State) (held : Buttons := ⟨false, false, false⟩) : Host.Outcome State Fault Refusal :=
  .next (whenOperating (fun s => if s.keypadPasses .picture then sourcePress s else raiseDenied .source s)
    (s.modKpi fun k => k.pressed .source held))

/-- A debounced press of KP_AXIS (R97). -/
def execKpAxisPress (s : State) (held : Buttons := ⟨false, false, false⟩) : Host.Outcome State Fault Refusal :=
  .next (whenOperating axisPress (s.modKpi fun k => k.pressed .axis held))

/-- A debounced change of KEYLOCK (R117). -/
def execKeylockChange (level : Bool) (s : State) : Host.Outcome State Fault Refusal :=
  .next ((s.modLines fun l => { l with keylock := level }).modLkc fun k =>
    { k with keylock := if s.lines.supply then level else k.keylock })

/-- The confirm window timer expires (R120). -/
def execConfirmWindowExpiry (s : State) : Host.Outcome State Fault Refusal := .next (whenOperating (setConfirm false) s)

end Sys2Proof.Machine
end

