-- ==== Sys2Proof/Machine/LampCommands.lean ====
section
/-! DEFINITION. The lamp's lines, the second event and the guard timers, as commands (chapters 1 and 2). An expiry acts where its timer stands
at 0. -/

namespace Sys2Proof.Machine

/-- `f` where a timer has run to 0. -/
def atZero (t : Option Nat) (f : State → State) (s : State) : State := if t = some 0 then f s else s

/-- The end of a timer, or a test, that falls due at a second event; it acts only where it is due (R2). -/
def dueTest (x : DueTest) (s : State) : State :=
  match x with
  | .attempt => atZero s.lsq.attemptTimer attemptExpires s
  | .retryGap => atZero s.lsq.gapTimer gapExpires s
  | .warmup => atZero s.lsq.warmupTimer warmupExpires s
  | .cool => atZero s.lsq.coolTimer coolExpires s
  | .minOn => minOnTest .timer s
  | .holdRelease => testHold s
  | .nosigDim => nosigDim s
  | .nosigOff => nosigOffTest s

/-- The part of the second event that every running block takes: LSQ and SSW count, and LLC counts with the level, the flag and
LIT as they stand when it comes to it (R2, R25, R31, R63, R81). DESIGN CHOICE (log 64): `early` lists what is taken before LLC. -/
def secondTaken (early : List DueTest) (s : State) : State :=
  llcSecond (early.foldl (fun s x => dueTest x s) (sswSecond (lsqSecond s)))

/-- LIT rises (R14). DEDUCED (log 51): before start-up is complete only the line moves, and no lit time starts. -/
def execLitRise (s : State) : Host.Outcome State Fault Refusal :=
  .next (whenOperating litRises (s.modLines fun l => { l with lit := true }))

/-- LIT falls (R18). DEDUCED (log 51): before start-up is complete only the line moves. -/
def execLitFall (s : State) : Host.Outcome State Fault Refusal :=
  .next (whenOperating litFalls (s.modLines fun l => { l with lit := false }))

/-- BFAULT rises (R17). DEDUCED (log 51): before start-up is complete only the line moves, and no fault is recorded. -/
def execBfaultRise (s : State) : Host.Outcome State Fault Refusal :=
  .next (whenOperating bfaultRises (s.modLines fun l => { l with bfault := true }))

/-- BFAULT falls: no state changes (R17). -/
def execBfaultFall (s : State) : Host.Outcome State Fault Refusal :=
  .next (s.modLines fun l => { l with bfault := false })

/-- The second event (R2, R25): uptime counts from power-on reset, the blocks from the completion of start-up. -/
def execSecondEvent (s : State) (early : List DueTest := []) : Host.Outcome State Fault Refusal :=
  .next (if s.powered then whenOperating (secondTaken early) (s.modUptime (· + 1)) else s)

/-- The attempt timer expires (R15). -/
def execAttemptTimerExpiry (s : State) : Host.Outcome State Fault Refusal :=
  .next (whenOperating (dueTest .attempt) s)

/-- The retry gap timer expires (R15). -/
def execRetryGapExpiry (s : State) : Host.Outcome State Fault Refusal :=
  .next (whenOperating (dueTest .retryGap) s)

/-- The warm-up timer expires (R16). -/
def execWarmupTimerExpiry (s : State) : Host.Outcome State Fault Refusal :=
  .next (whenOperating (dueTest .warmup) s)

/-- The cool timer expires (R16). -/
def execCoolTimerExpiry (s : State) : Host.Outcome State Fault Refusal :=
  .next (whenOperating (dueTest .cool) s)

/-- The lit time has reached MIN_ON in OFF_PENDING (R12). -/
def execMinOnReached (s : State) : Host.Outcome State Fault Refusal := .next (whenOperating (dueTest .minOn) s)

/-- The window is found open with a power-on held in OFF (R9). -/
def execHoldReleaseWindow (s : State) : Host.Outcome State Fault Refusal := .next (whenOperating (dueTest .holdRelease) s)

/-- The lit seconds since commit have reached 360 (R42). -/
def execLitCommitCountReached (s : State) : Host.Outcome State Fault Refusal := .next (whenOperating litCommitCount s)

/-- The no-signal count has reached NOSIG_DIM (R82). -/
def execNosigDimReached (s : State) : Host.Outcome State Fault Refusal := .next (whenOperating (dueTest .nosigDim) s)

/-- The no-signal count stands at or above NOSIG_OFF (R83). -/
def execNosigOffReached (s : State) : Host.Outcome State Fault Refusal := .next (whenOperating (dueTest .nosigOff) s)

end Sys2Proof.Machine
end

