-- ==== Sys2Proof/Machine/PathCommands.lean ====
section
/-! DEFINITION. The presence lines, the pulses of the selected path and the switch timer, as commands (chapters 3 to 5). -/

namespace Sys2Proof.Machine

/-- A PRES line changes (R49). -/
def execPresLineChange (i : Fin 6) (level : Bool) (s : State) : Host.Outcome State Fault Refusal :=
  .next (if s.lines.supply then presLine i level s else s.modLines fun l => { l with pres := l.pres.set i level })

/-- The debounce timer of an input expires (R49, R50). -/
def execPresenceDebounceExpiry (i : Fin 6) (s : State) : Host.Outcome State Fault Refusal :=
  .next (if s.lines.supply then settle (debounceExpiry i s) else s)

/-- A FRAME pulse (R53, R100). -/
def execFramePulse (time : Nat) (geoFirst : Bool) (s : State) : Host.Outcome State Fault Refusal :=
  .next (whenOperating (framePulseAll time geoFirst) s)

/-- A LINE pulse (R53). -/
def execLinePulse (s : State) : Host.Outcome State Fault Refusal := .next (whenOperating monitorLine s)

/-- The frame watchdog expires (R55). -/
def execFrameWatchdogExpiry (s : State) : Host.Outcome State Fault Refusal := .next (whenOperating watchdogAll s)

/-- The switch timer expires (R69). -/
def execSwitchTimerExpiry (s : State) : Host.Outcome State Fault Refusal := .next (whenOperating switchTimeout s)

end Sys2Proof.Machine
end

