-- ==== Sys2Proof/Machine/PictureCommands.lean ====
section
/-! DEFINITION. The PICTURE and GEOMETRY requests as commands. Each is one complete frame of its layout arriving on a port: a
port that is closed makes nothing of it, and a port that is busy keeps it in its buffer (R165, R167, R176, R177). -/

namespace Sys2Proof.Machine

/-- SELECT (R65). -/
def execSelect (p : PortId) (o : Byte) (input : Byte) (s : State) : Host.Outcome State Fault Refusal :=
  .next (requestArrives p o (.select input) s)

/-- RETRAIN (R67). -/
def execRetrain (p : PortId) (o : Byte) (input : Byte) (s : State) : Host.Outcome State Fault Refusal :=
  .next (requestArrives p o (.retrain input) s)

/-- MUTE_SET (R79). -/
def execMuteSet (p : PortId) (o : Byte) (value : Byte) (s : State) : Host.Outcome State Fault Refusal :=
  .next (requestArrives p o (.muteSet value) s)

/-- KEYSTONE (R92). -/
def execKeystone (p : PortId) (o : Byte) (k : RawKeystone) (s : State) : Host.Outcome State Fault Refusal :=
  .next (requestArrives p o (.keystone k) s)

/-- PRESET_STORE (R93). -/
def execPresetStore (p : PortId) (o : Byte) (s : State) : Host.Outcome State Fault Refusal :=
  .next (requestArrives p o .presetStore s)

end Sys2Proof.Machine
end

