-- ==== Sys2Proof/Machine/PortCommands.lean ====
section
/-! DEFINITION. Bytes, frames, transactions and transmissions at the ports, as commands (chapter 9). -/

namespace Sys2Proof.Machine

/-- `f` while main supply is present. -/
def whenSupplied (f : State → State) (s : State) : State := if s.lines.supply then settle (f s) else s

/-- A complete frame that is replied INVALID at steps 2 to 4 of R166. -/
def execUnknownRequestCode (p : PortId) (body : List Byte) (s : State) : Host.Outcome State Fault Refusal :=
  .next (bodyArrives p body s)

/-- A complete frame whose type is not REQUEST (R166 step 1). -/
def execNonRequestFrame (p : PortId) (body : List Byte) (s : State) : Host.Outcome State Fault Refusal :=
  .next (bodyArrives p body s)

/-- A byte on LRX or FRX; one with a framing error is dropped (R163, R164). -/
def execUartByteReceived (u : UartId) (b : Byte) (framingError : Bool) (s : State) : Host.Outcome State Fault Refusal :=
  .next (if framingError then s else whenOperating (uartByte u b) s)

/-- Bytes of a write transaction on E (R168). -/
def execEWriteTransaction (bytes : List Byte) (ended : Bool) (s : State) : Host.Outcome State Fault Refusal :=
  .next (whenSupplied (transaction bytes ended) s)

/-- The read byte 5Ah and the bytes clocked after it (R169). -/
def execEReadTransaction (clocks : Nat) (ended : Bool) (s : State) : Host.Outcome State Fault Refusal :=
  .next (whenSupplied (transaction (0x5A :: List.replicate clocks 0) ended) s)

/-- SSEL is negated (R168, R169). -/
def execSselNegated (s : State) : Host.Outcome State Fault Refusal := .next (whenSupplied txnEnds s)

/-- The 50 ms gap timer of a port expires (R164). -/
def execGapTimerExpiry (p : PortId) (s : State) : Host.Outcome State Fault Refusal :=
  .next (whenOperating (gapExpired p) s)

/-- The transmitter of L or F ends a frame (R167). -/
def execTransmissionEnd (u : UartId) (s : State) (noticeFirst : Bool := false) :
    Host.Outcome State Fault Refusal :=
  .next (whenOperating (sent u noticeFirst) s)

end Sys2Proof.Machine
end

