-- ==== Sys2Proof/Machine/PowerCommands.lean ====
section
/-! DEFINITION. The POWER and LAMP_SERVICE requests as commands. Each is one complete frame of its layout arriving on a port: a
port that is closed makes nothing of it, and a port that is busy keeps it in its buffer (R165, R167, R176, R177). -/

namespace Sys2Proof.Machine

/-- POWER_ON (R6). -/
def execPowerOn (p : PortId) (o : Byte) (s : State) : Host.Outcome State Fault Refusal :=
  .next (requestArrives p o .powerOn s)

/-- POWER_OFF (R10). -/
def execPowerOff (p : PortId) (o : Byte) (s : State) : Host.Outcome State Fault Refusal :=
  .next (requestArrives p o .powerOff s)

/-- LAMP_MODE (R22). -/
def execLampMode (p : PortId) (o : Byte) (mode : Byte) (s : State) : Host.Outcome State Fault Refusal :=
  .next (requestArrives p o (.lampMode mode) s)

/-- LAMP_REPLACE (R41). -/
def execLampReplace (p : PortId) (o : Byte) (s : State) : Host.Outcome State Fault Refusal :=
  .next (requestArrives p o .lampReplace s)

/-- LAMP_LIMITS (R32). -/
def execLampLimits (p : PortId) (o : Byte) (w : RawLimits) (s : State) : Host.Outcome State Fault Refusal :=
  .next (requestArrives p o (.lampLimits w) s)

/-- LAMP_CEILING (R22). -/
def execLampCeiling (p : PortId) (o : Byte) (level : Byte) (s : State) : Host.Outcome State Fault Refusal :=
  .next (requestArrives p o (.lampCeiling level) s)

/-- FAULT_CLEAR (R20). -/
def execFaultClear (p : PortId) (o : Byte) (s : State) : Host.Outcome State Fault Refusal :=
  .next (requestArrives p o .faultClear s)

end Sys2Proof.Machine
end

