-- ==== Sys2Proof/Machine/ReadCommands.lean ====
section
/-! DEFINITION. The READ requests as commands. Each is one complete frame of its layout arriving on a port: a
port that is closed makes nothing of it, and a port that is busy keeps it in its buffer (R165, R167, R176, R177). -/

namespace Sys2Proof.Machine

/-- STATUS_READ (R171). -/
def execStatusRead (p : PortId) (o : Byte) (s : State) : Host.Outcome State Fault Refusal :=
  .next (requestArrives p o .statusRead s)

/-- LAMP_READ (R37). -/
def execLampRead (p : PortId) (o : Byte) (s : State) : Host.Outcome State Fault Refusal :=
  .next (requestArrives p o .lampRead s)

/-- HISTORY_READ (R38). -/
def execHistoryRead (p : PortId) (o : Byte) (index : Byte) (s : State) : Host.Outcome State Fault Refusal :=
  .next (requestArrives p o (.historyRead index) s)

/-- FAULT_READ (R19). -/
def execFaultRead (p : PortId) (o : Byte) (s : State) : Host.Outcome State Fault Refusal :=
  .next (requestArrives p o .faultRead s)

/-- INPUT_READ (R51). -/
def execInputRead (p : PortId) (o : Byte) (index : Byte) (s : State) : Host.Outcome State Fault Refusal :=
  .next (requestArrives p o (.inputRead index) s)

/-- TIMING_READ (R56). -/
def execTimingRead (p : PortId) (o : Byte) (index : Byte) (s : State) : Host.Outcome State Fault Refusal :=
  .next (requestArrives p o (.timingRead index) s)

/-- GEOMETRY_READ (R103). -/
def execGeometryRead (p : PortId) (o : Byte) (s : State) : Host.Outcome State Fault Refusal :=
  .next (requestArrives p o .geometryRead s)

/-- ENTRY_READ (R134). -/
def execEntryRead (p : PortId) (o : Byte) (slot : Byte) (s : State) : Host.Outcome State Fault Refusal :=
  .next (requestArrives p o (.entryRead slot) s)

/-- HOLIDAY_READ (R136). -/
def execHolidayRead (p : PortId) (o : Byte) (s : State) : Host.Outcome State Fault Refusal :=
  .next (requestArrives p o .holidayRead s)

/-- SESSION_READ (R143). -/
def execSessionRead (p : PortId) (o : Byte) (s : State) : Host.Outcome State Fault Refusal :=
  .next (requestArrives p o .sessionRead s)

/-- TIME_READ (R128). -/
def execTimeRead (p : PortId) (o : Byte) (s : State) : Host.Outcome State Fault Refusal :=
  .next (requestArrives p o .timeRead s)

/-- NOTICES_READ (R174). -/
def execNoticesRead (p : PortId) (o : Byte) (s : State) : Host.Outcome State Fault Refusal :=
  .next (requestArrives p o .noticesRead s)

end Sys2Proof.Machine
end

