-- ==== Sys2Proof/Machine/RoomCommands.lean ====
section
/-! DEFINITION. The SESSION, TIMETABLE and LOCKOUT requests as commands. Each is one complete frame of its layout arriving on a port: a
port that is closed makes nothing of it, and a port that is busy keeps it in its buffer (R165, R167, R176, R177). -/

namespace Sys2Proof.Machine

/-- EXTEND (R153). -/
def execExtendEnd (p : PortId) (o : Byte) (s : State) : Host.Outcome State Fault Refusal :=
  .next (requestArrives p o .extendEnd s)

/-- END_SESSION (R155). -/
def execEndSession (p : PortId) (o : Byte) (s : State) : Host.Outcome State Fault Refusal :=
  .next (requestArrives p o .endSession s)

/-- TIME_SET (R127). -/
def execTimeSet (p : PortId) (o : Byte) (date : RawDate) (time : RawTime) (s : State) : Host.Outcome State Fault Refusal :=
  .next (requestArrives p o (.timeSet date time) s)

/-- ENTRY_WRITE (R132). -/
def execEntryWrite (p : PortId) (o : Byte) (w : RawEntryWrite) (s : State) : Host.Outcome State Fault Refusal :=
  .next (requestArrives p o (.entryWrite w) s)

/-- ENTRY_DELETE (R133). -/
def execEntryDelete (p : PortId) (o : Byte) (slot : Byte) (s : State) : Host.Outcome State Fault Refusal :=
  .next (requestArrives p o (.entryDelete slot) s)

/-- HOLIDAY_ADD (R135). -/
def execHolidayAdd (p : PortId) (o : Byte) (date : RawDate) (s : State) : Host.Outcome State Fault Refusal :=
  .next (requestArrives p o (.holidayAdd date) s)

/-- HOLIDAY_REMOVE (R136). -/
def execHolidayRemove (p : PortId) (o : Byte) (date : RawDate) (s : State) : Host.Outcome State Fault Refusal :=
  .next (requestArrives p o (.holidayRemove date) s)

/-- LOCKOUT_BASE (R112). -/
def execLockoutBase (p : PortId) (o : Byte) (level : Byte) (s : State) : Host.Outcome State Fault Refusal :=
  .next (requestArrives p o (.lockoutBase level) s)

/-- PRESENTER_HOLD with the action SET, 01h (R113, 11.3). -/
def execPresenterHoldSet (p : PortId) (o : Byte) (s : State) : Host.Outcome State Fault Refusal :=
  .next (requestArrives p o (.presenterHold 1) s)

/-- PRESENTER_HOLD with the action CLEAR, 00h (R113, 11.3). -/
def execPresenterHoldClear (p : PortId) (o : Byte) (s : State) : Host.Outcome State Fault Refusal :=
  .next (requestArrives p o (.presenterHold 0) s)

/-- SERVICE with the action ENTER, 01h (R115, 11.3). -/
def execServiceEnter (p : PortId) (o : Byte) (s : State) : Host.Outcome State Fault Refusal :=
  .next (requestArrives p o (.service 1) s)

/-- SERVICE with the action LEAVE, 00h (R116, 11.3). -/
def execServiceLeave (p : PortId) (o : Byte) (s : State) : Host.Outcome State Fault Refusal :=
  .next (requestArrives p o (.service 0) s)

end Sys2Proof.Machine
end

