-- ==== Sys2Proof/Machine/Store.lean ====
section
/-! DEFINITION. The Settings Store's images and checks (chapter 10): the completion of a commit, power fail, and the checks of
a loaded record (R185). -/

namespace Sys2Proof.Machine

/-! ### Images and commits -/

/-- An image as a commit of `x` leaves it: completed, with the CRC of `x` beside it (R178, R181), or cut off, with the CRC
field of the image before, which fails (R182). -/
def Image.written {α : Type} (i : Image α) (x : α) (completed : Bool) : Image α :=
  ⟨x, if completed then Config.crc16 x else i.crc, completed⟩

/-- Change one image. -/
def setImage (i : Images) (c : Commit) (completed : Bool) : Images :=
  match c with
  | .settings x => { i with settings := i.settings.written x completed }
  | .lamp x => { i with lamp := i.lamp.written x completed }
  | .inputs x => { i with inputs := i.inputs.written x completed }
  | .timings x => { i with timings := i.timings.written x completed }
  | .timetable x => { i with timetable := i.timetable.written x completed }

/-- Power-fail mode after the completion of a commit: the final LAMP commit, once begun, is done (R183). -/
def afterCommit : PowerFail → PowerFail
  | .begun => .done
  | p => p

/-- The commit in flight completes: the image and its CRC are replaced together (R181). -/
def commitDone (s : State) : State :=
  match s.sto.inflight with
  | none => s
  | some c => s.modSto fun t => { t with images := setImage t.images c true, inflight := none, pf := afterCommit t.pf }

/-- Main supply falls: a commit in flight leaves its image incomplete, and the changes listed are lost (R182). -/
def supplyLost (s : State) : State :=
  s.modSto fun t =>
    { t with
      images := match t.inflight with
        | none => t.images
        | some c => setImage t.images c false
      inflight := none
      dirty := [] }

/-- PFAIL is asserted: power-fail mode, LAMP marked dirty, and a final LAMP commit owed (R183, R184). -/
def powerFails (s : State) : State := markDirty .lamp (s.modSto fun t => { t with pf := .owed })

/-- PFAIL is negated: power-fail mode ends (R184). -/
def powerHolds (s : State) : State := s.modSto fun t => { t with pf := .off }

/-! ### The checks of a loaded record (R185) -/

/-- A mask names only known kinds (R175). -/
def maskOk (m : BitVec 24) : Bool := decide (m.toNat < 65536)

/-- A level that a setting or an entry may hold. -/
def levelOk (l : Level) : Bool := l != .service

/-- SETTINGS keeps its ranges (R3, R84, R112, R144, R175). -/
def settingsOk (t : Settings) : Bool :=
  Config.minOn.holds t.minOn && Config.cool.holds t.cool && Config.warmupTime.holds t.warmupTime
    && Config.igniteTimeout.holds t.igniteTimeout && Config.strikeMax.holds t.strikeMax
    && Config.strikeWindow.holds t.strikeWindow && Config.switchTimeout.holds t.switchTimeout
    && Config.nosigDim.holds t.nosigDim && Config.nosigOff.holds t.nosigOff && levelOk t.baseLevel
    && Config.manualSpan.holds t.manualSpan && levelOk t.manualLevel && Config.manualExt.holds t.manualExt
    && Config.manualWarn.holds t.manualWarn && Config.extMinutes.holds t.extMinutes && maskOk t.maskE && maskOk t.maskL
    && maskOk t.maskF

/-- The counts of an account keep their ranges (R28, R29). -/
def countsOk (hours sub litSeconds strikes failed : Nat) : Bool :=
  decide (hours ≤ Config.count16Max) && decide (sub < Config.unitsPerHour) && decide (litSeconds ≤ Config.litSecondsMax)
    && decide (strikes ≤ Config.count16Max) && decide (failed ≤ Config.count16Max)

/-- A fault record keeps its ranges (R19). -/
def faultOk (f : FaultRecord) : Bool :=
  validDate f.date && validTime f.time && countsOk f.hours f.sub 0 f.strikes 0 && decide (f.later ≤ Config.laterFaultsMax)

/-- A closed record keeps its ranges (R38). -/
def closedOk (r : ClosedLamp) : Bool :=
  countsOk r.hours r.sub r.litSeconds r.strikes r.failed && validDate r.installed && validDate r.removed

/-- LAMP keeps its ranges and rules: WARN_HOURS at most LIFE_HOURS, at most 8 history records. -/
def lampOk (r : LampRecord) : Bool :=
  countsOk r.cur.hours r.cur.sub r.cur.litSeconds r.cur.strikes r.cur.failed && validDate r.cur.installed
    && decide (r.history.length ≤ Config.historyMax) && r.history.all closedOk && Config.lampHours.holds r.warnHours
    && Config.lampHours.holds r.lifeHours && decide (r.warnHours ≤ r.lifeHours) && Config.strikeWear.holds r.strikeWear
    && (r.fault.all faultOk)

/-- An input entry keeps its ranges (R46). -/
def inputOk (e : InputEntry) : Bool :=
  decide (e.label.length ≤ 12) && e.label.all labelChar && decide (e.priority ≤ 7)
    && clampSym Config.keystoneV e.presetV == e.presetV && clampSym Config.keystoneH e.presetH == e.presetH

/-- INPUTS keeps its ranges. -/
def inputsOk (r : InputsRecord) : Bool :=
  r.entries.toList.all inputOk && Config.panelW.holds r.panelW && Config.panelH.holds r.panelH

/-- A timing entry keeps its ranges, and in use each min is at most its max (R56). -/
def timingOk (e : TimingEntry) : Bool :=
  Config.timingLines.holds e.linesMin && Config.timingLines.holds e.linesMax && Config.timingPeriod.holds e.periodMin
    && Config.timingPeriod.holds e.periodMax && Config.activeW.holds e.width && Config.activeH.holds e.height
    && (!e.inUse || (decide (e.linesMin ≤ e.linesMax) && decide (e.periodMin ≤ e.periodMax)))

/-- TIMINGS keeps its ranges. -/
def timingsOk (t : TimingsRecord) : Bool := t.toList.all timingOk

/-- A day set that is not empty, or a date of the calendar. -/
def daysOk : EntryDays → Bool
  | .weekly days => days != 0
  | .dated d => validDate d

/-- A timetable entry keeps its ranges (R129). -/
def entryOk (e : Entry) : Bool :=
  daysOk e.days && decide (e.start ≤ Config.startMax) && decide (e.start + Config.spanMin ≤ e.stop)
    && decide (e.stop ≤ Config.dayMinutes) && levelOk e.level && decide (e.warnLead ≤ Config.warnLeadMax)
    && decide (e.allowance ≤ Config.allowanceMax)

/-- No two enabled entries that can both run on one date overlap (R131). -/
def noOverlap : List Entry → Bool
  | [] => true
  | e :: rest => rest.all (fun e' => !conflicts e e') && noOverlap rest

/-- Dates strictly ascending. -/
def ascending : List Date → Bool
  | a :: b :: rest => dateBefore a b && ascending (b :: rest)
  | _ => true

/-- TIMETABLE keeps its ranges and rules. -/
def timetableOk (t : TimetableRecord) : Bool :=
  (t.slots.toList.filterMap id).all entryOk && noOverlap (t.slots.toList.filterMap id)
    && t.holidays.all validDate && ascending t.holidays && decide (t.holidays.length ≤ Config.holidaysMax)

/-- What loading finds wrong with an image: its CRC first, then its content. -/
def lostOf (intact ok : Bool) : Option LostCause := if !intact then some .crc else if !ok then some .range else none

end Sys2Proof.Machine
end

