-- ==== Sys2Proof/Machine/Startup.lean ====
section
/-! DEFINITION. Power-on reset, loading and settling (10.4), and the engine restart (R105, R177). -/

namespace Sys2Proof.Machine

/-! ### Power-on reset -/

/-- STO after power-on reset: power-fail mode is on where PFAIL is asserted (R185). -/
def resetSto (images : Images) (pfail : Bool) : Sto := ⟨images, [], none, if pfail then .owed else .off, .loading⟩

/-- Every block at its value after power-on reset; the lines, CAL, the nonvolatile images and the waiting commands stand
(R24, R44, R61, R85, R94, R104, R123, R124, R141, R162, R176, R185). Until they are loaded the records are their
defaults. -/
def resetBlocks (s : State) : State :=
  { s with
    uptime := 0
    lamp := defaultLamp
    inputs := defaultInputs
    timings := defaultTimings
    timetable := defaultTimetable
    settings := defaultSettings
    lsq := resetLsq
    sinceCommit := 0
    inm := resetInm s.lines.pres
    ssw := resetSsw
    geo := resetGeo
    lkc := resetLkc s.lines.keylock
    ses := none
    kpi := resetKpi s.lines.dialA s.lines.dialB
    ptc := resetPtc
    sto := resetSto s.sto.images s.lines.pfail }

/-- CAL starts afresh where its backup domain has lost its state (R125). -/
def calAtRise (c : Cal) : Cal := if c.lost then freshCal else c

/-- RESET is asserted: a commit in flight is completed, and then the reset acts (R182, R185). -/
def resetAsserted (s : State) : State := resetBlocks ((commitDone s).modLines fun l => { l with reset := true })

/-- Main supply rises (R125, R185). -/
def supplyRises (s : State) : State :=
  resetBlocks ((s.modCal calAtRise).modLines fun l => { l with supply := true })

/-! ### Loading (R185, R186) -/

/-- What follows a record found bad: it is marked dirty and STORE_LOST is raised; its defaults have been handed on. -/
def reportLost (r : RecordName) (lost : Option LostCause) (s : State) : State :=
  match lost with
  | none => s
  | some c => raise (.storeLost r c) (markDirty r s)

/-- A record's content after loading: the image's, or the defaults. -/
def loaded {α : Type} (i : Image α) (lost : Option LostCause) (defaults : α) : α :=
  match lost with
  | none => i.content
  | some _ => defaults

def loadSettings (s : State) : State :=
  let i := s.sto.images.settings
  let lost := lostOf i.intact (settingsOk i.content)
  reportLost .settings lost (s.modSettings fun _ => loaded i lost defaultSettings)

def loadLamp (s : State) : State :=
  let i := s.sto.images.lamp
  let lost := lostOf i.intact (lampOk i.content)
  reportLost .lamp lost (s.modLamp fun _ => loaded i lost defaultLamp)

def loadInputs (s : State) : State :=
  let i := s.sto.images.inputs
  let lost := lostOf i.intact (inputsOk i.content)
  reportLost .inputs lost (s.modInputs fun _ => loaded i lost defaultInputs)

def loadTimings (s : State) : State :=
  let i := s.sto.images.timings
  let lost := lostOf i.intact (timingsOk i.content)
  reportLost .timings lost (s.modTimings fun _ => loaded i lost defaultTimings)

def loadTimetable (s : State) : State :=
  let i := s.sto.images.timetable
  let lost := lostOf i.intact (timetableOk i.content)
  reportLost .timetable lost (s.modTimetable fun _ => loaded i lost defaultTimetable)

/-- Loading reads the five records in its order. -/
def loadRecords (s : State) : State := loadTimetable (loadTimings (loadInputs (loadLamp (loadSettings s))))

/-! ### Settling (R187) -/

/-- The lamp state chosen at start-up from the lamp-hot flag and the fault record (R24). -/
def startLamp (r : LampRecord) : LampState :=
  match r.cur.hot, r.fault with
  | true, some _ => .faultCooling
  | true, none => .cooling
  | false, some _ => .fault
  | false, none => .off

/-- The cool timer at start-up: a full COOL where the lamp may be hot (R24). -/
def startTimer (r : LampRecord) (cool : Nat) : Option Nat := if r.cur.hot then some cool else none

/-- Step 1: LSQ (R24). DEDUCED (log 52): a START into FAULT is not told to LLC, so it marks no LAMP dirty. -/
def settleLamp (s : State) : State :=
  raise (.lampState (startLamp s.lamp) .off 0 .start) <|
    s.modLsq fun _ => { resetLsq with state := startLamp s.lamp, coolTimer := startTimer s.lamp s.settings.cool }

/-- Step 2: INM, its path states by R50 and the last timing indexes of entries not in use made absent (R61). -/
def settleInputs (s : State) : State :=
  let s := forgetTimings (fun k => !s.timings[k].inUse) s
  s.modInm fun n => { n with path := Vector.ofFn fun i => s.restPath i }

/-- Step 3: SSW selects POWER_ON_INPUT, UNTRAINED (R85). -/
def settleSource (s : State) : State :=
  raiseSource none (s.modSsw fun w => { w with selected := some s.inputs.powerOnInput })

/-- Step 4: GEO computes the first warp with generation 0 (R104). -/
def settleGeometry (s : State) : State :=
  let i := s.inputs.powerOnInput
  let s := s.modGeo fun _ =>
    { resetGeo with liveV := s.inputs.entries[i].presetV, liveH := s.inputs.entries[i].presetH }
  raise (.warpReady 0 i .start) (s.modGeo fun q => { q with active := some ⟨s.warpFor i .start, 0⟩ })

/-- Step 5: TTE's purge and CAL's report of a clear flag (R125, R139). -/
def settleTimetable (s : State) : State :=
  let s := purge s.cal.date s
  if s.cal.valid then s else raiseTimeInvalid s

/-- Step 6: the late-start check (R162). -/
def settleSession (s : State) : State := lateCheck none s.lkc.service s

/-- A second event that falls after step `k`: it is taken by LSQ from step 1 on and by SSW from step 3 on; LLC counts only
from the completion of start-up (R187). -/
def settlingSecond (k : Nat) (s : State) : State :=
  let counted := lsqSecond (s.modUptime (· + 1))
  if 3 ≤ k then sswSecond counted else counted

/-- A calendar second that falls after step `k`: CAL counts; from step 5 on a rollover that clears the flag raises
TIME_INVALID and a day event purges. A minute event reaches no open session: SES settles last (R126, R141, R187). -/
def settlingCalendar (k : Nat) (s : State) : State :=
  let counted := s.modCal Cal.next
  if 5 ≤ k then
    let told := if s.cal.valid && !counted.cal.valid then raiseTimeInvalid counted else counted
    if counted.cal.time = midnight then purge counted.cal.date told else told
  else counted

/-- One event that falls after step `k`. DESIGN CHOICE (log 20): which fall, and where, is the command's operand. -/
def settlingEvent (k : Nat) (s : State) : SettlingEvent → State
  | .second => settlingSecond k s
  | .calendar => settlingCalendar k s

/-- The events that fall after step `k`, in their order. -/
def settlingEvents (k : Nat) (es : List SettlingEvent) (s : State) : State := es.foldl (settlingEvent k) s

/-- Set the start-up phase. -/
def setPhase (p : StartPhase) (s : State) : State := s.modSto fun t => { t with phase := p }

/-- Loading, then SETTLING in its six steps with the events that fall between them; start-up is then COMPLETE (R187). -/
def startUp (falls : Vector (List SettlingEvent) 5) (s : State) : State :=
  let s := setPhase .settling (loadRecords s)
  let s := settlingEvents 1 falls[0] (settleLamp s)
  let s := settlingEvents 2 falls[1] (settleInputs s)
  let s := settlingEvents 3 falls[2] (settleSource s)
  let s := settlingEvents 4 falls[3] (settleGeometry s)
  let s := settlingEvents 5 falls[4] (settleTimetable s)
  setPhase .complete (settleSession s)

/-! ### The engine restart (R105, R177) -/

/-- ENG_RST is asserted: the E port is reset; a transaction in progress is ignored to its end (R177). -/
def engineResets (s : State) : State :=
  s.modPtc fun t => { t with
    e := resetPort
    txn := match t.txn with
      | .idle => .idle
      | _ => .ignored }

/-- ENG_RST is released: GEO raises WARP_READY for the active warp as it stands (R105). -/
def engineReturns (s : State) : State :=
  match s.geo.active with
  | none => s
  | some a => raise (.warpReady a.generation a.warp.input a.warp.cause) s

end Sys2Proof.Machine
end

