-- ==== Sys2Proof/Machine/SystemCommands.lean ====
section
/-! DEFINITION. The calendar second, commits, power fail, supply, reset, start-up and the engine restart, as commands (chapters 7 and 10). -/

namespace Sys2Proof.Machine

/-- CAL advances by one calendar second; without main supply it counts and hands nothing (R124, R126). -/
def execCalendarSecond (s : State) : Host.Outcome State Fault Refusal :=
  .next (if s.cal.lost then s else if s.operating then settle (calendarTick s) else s.modCal Cal.next)

/-- A commit completes (R181). -/
def execCommitComplete (s : State) : Host.Outcome State Fault Refusal :=
  .next (if s.powered then settle (commitDone s) else s)

/-- PFAIL is asserted (R183). -/
def execPfailAsserted (s : State) : Host.Outcome State Fault Refusal :=
  .next (if s.lines.supply then settle (powerFails (s.modLines fun l => { l with pfail := true }))
    else s.modLines fun l => { l with pfail := true })

/-- PFAIL is negated (R184). -/
def execPfailNegated (s : State) : Host.Outcome State Fault Refusal :=
  .next (if s.lines.supply then settle (powerHolds (s.modLines fun l => { l with pfail := false }))
    else s.modLines fun l => { l with pfail := false })

/-- Main supply falls (R182). -/
def execSupplyFall (s : State) : Host.Outcome State Fault Refusal :=
  .next (supplyLost (s.modLines fun l => { l with supply := false }))

/-- RESET is asserted, or main supply rises (R185). -/
def execPowerOnReset (cause : ResetCause) (s : State) : Host.Outcome State Fault Refusal :=
  .next (match cause with
    | .resetLine => if s.lines.supply then resetAsserted s else s.modLines fun l => { l with reset := true }
    | .supplyRise => supplyRises s)

/-- RESET is negated: with main supply present, loading begins (R185). -/
def execResetRelease (s : State) : Host.Outcome State Fault Refusal :=
  .next (s.modLines fun l => { l with reset := false })

/-- The fifth record has been loaded or defaulted: the blocks settle and start-up is COMPLETE (R187). -/
def execStartupLoadComplete (s : State) (falls : Vector (List SettlingEvent) 5 := Vector.replicate 5 []) :
    Host.Outcome State Fault Refusal :=
  .next (if s.powered && s.sto.phase == .loading then settle (startUp falls s) else s)

/-- ENG_RST is asserted (R177). -/
def execEngRstAsserted (s : State) : Host.Outcome State Fault Refusal :=
  .next (if s.lines.supply then settle (engineResets (s.modLines fun l => { l with engRst := true }))
    else s.modLines fun l => { l with engRst := true })

/-- ENG_RST is released (R105, R177). -/
def execEngRstReleased (s : State) : Host.Outcome State Fault Refusal :=
  .next (if s.lines.supply then settle (engineReturns (s.modLines fun l => { l with engRst := false }))
    else s.modLines fun l => { l with engRst := false })

/-- CAL's backup domain loses its state, with main supply and VBAT both absent (R125). -/
def execBackupDomainLoss (s : State) : Host.Outcome State Fault Refusal :=
  .next (if s.lines.supply then s else s.modCal fun _ => { freshCal with lost := true })

end Sys2Proof.Machine
end

