-- ==== Sys2Proof/Machine/Dispatch.lean ====
section
/-! DEFINITION. The dispatch: one arm per command. -/

namespace Sys2Proof.Machine

def exec (i : Instr) (s : State) : Host.Outcome State Fault Refusal :=
  match i with
  | .powerOn p o => Sys2Proof.Machine.execPowerOn p o s
  | .powerOff p o => Sys2Proof.Machine.execPowerOff p o s
  | .lampMode p o mode => Sys2Proof.Machine.execLampMode p o mode s
  | .select p o input => Sys2Proof.Machine.execSelect p o input s
  | .retrain p o input => Sys2Proof.Machine.execRetrain p o input s
  | .muteSet p o value => Sys2Proof.Machine.execMuteSet p o value s
  | .keystone p o k => Sys2Proof.Machine.execKeystone p o k s
  | .presetStore p o => Sys2Proof.Machine.execPresetStore p o s
  | .extendEnd p o => Sys2Proof.Machine.execExtendEnd p o s
  | .endSession p o => Sys2Proof.Machine.execEndSession p o s
  | .timeSet p o date time => Sys2Proof.Machine.execTimeSet p o date time s
  | .entryWrite p o w => Sys2Proof.Machine.execEntryWrite p o w s
  | .entryDelete p o slot => Sys2Proof.Machine.execEntryDelete p o slot s
  | .holidayAdd p o date => Sys2Proof.Machine.execHolidayAdd p o date s
  | .holidayRemove p o date => Sys2Proof.Machine.execHolidayRemove p o date s
  | .lampReplace p o => Sys2Proof.Machine.execLampReplace p o s
  | .lampLimits p o w => Sys2Proof.Machine.execLampLimits p o w s
  | .lampCeiling p o level => Sys2Proof.Machine.execLampCeiling p o level s
  | .faultClear p o => Sys2Proof.Machine.execFaultClear p o s
  | .inputConfig p o index c => Sys2Proof.Machine.execInputConfig p o index c s
  | .timingLoadWrite p o index t => Sys2Proof.Machine.execTimingLoadWrite p o index t s
  | .timingLoadOutOfUse p o index => Sys2Proof.Machine.execTimingLoadOutOfUse p o index s
  | .panelSet p o width height => Sys2Proof.Machine.execPanelSet p o width height s
  | .guardSet p o g => Sys2Proof.Machine.execGuardSet p o g s
  | .subscribe p o mask => Sys2Proof.Machine.execSubscribe p o mask s
  | .lockoutBase p o level => Sys2Proof.Machine.execLockoutBase p o level s
  | .presenterHoldSet p o => Sys2Proof.Machine.execPresenterHoldSet p o s
  | .presenterHoldClear p o => Sys2Proof.Machine.execPresenterHoldClear p o s
  | .serviceEnter p o => Sys2Proof.Machine.execServiceEnter p o s
  | .serviceLeave p o => Sys2Proof.Machine.execServiceLeave p o s
  | .statusRead p o => Sys2Proof.Machine.execStatusRead p o s
  | .lampRead p o => Sys2Proof.Machine.execLampRead p o s
  | .historyRead p o index => Sys2Proof.Machine.execHistoryRead p o index s
  | .faultRead p o => Sys2Proof.Machine.execFaultRead p o s
  | .inputRead p o index => Sys2Proof.Machine.execInputRead p o index s
  | .timingRead p o index => Sys2Proof.Machine.execTimingRead p o index s
  | .geometryRead p o => Sys2Proof.Machine.execGeometryRead p o s
  | .entryRead p o slot => Sys2Proof.Machine.execEntryRead p o slot s
  | .holidayRead p o => Sys2Proof.Machine.execHolidayRead p o s
  | .sessionRead p o => Sys2Proof.Machine.execSessionRead p o s
  | .timeRead p o => Sys2Proof.Machine.execTimeRead p o s
  | .noticesRead p o => Sys2Proof.Machine.execNoticesRead p o s
  | .unknownRequestCode p body => Sys2Proof.Machine.execUnknownRequestCode p body s
  | .nonRequestFrame p body => Sys2Proof.Machine.execNonRequestFrame p body s
  | .uartByteReceived u b framingError => Sys2Proof.Machine.execUartByteReceived u b framingError s
  | .eWriteTransaction bytes ended => Sys2Proof.Machine.execEWriteTransaction bytes ended s
  | .eReadTransaction clocks ended => Sys2Proof.Machine.execEReadTransaction clocks ended s
  | .sselNegated => Sys2Proof.Machine.execSselNegated s
  | .gapTimerExpiry p => Sys2Proof.Machine.execGapTimerExpiry p s
  | .transmissionEnd u noticeFirst => Sys2Proof.Machine.execTransmissionEnd u s noticeFirst
  | .litRise => Sys2Proof.Machine.execLitRise s
  | .litFall => Sys2Proof.Machine.execLitFall s
  | .bfaultRise => Sys2Proof.Machine.execBfaultRise s
  | .bfaultFall => Sys2Proof.Machine.execBfaultFall s
  | .secondEvent early => Sys2Proof.Machine.execSecondEvent s early
  | .attemptTimerExpiry => Sys2Proof.Machine.execAttemptTimerExpiry s
  | .retryGapExpiry => Sys2Proof.Machine.execRetryGapExpiry s
  | .warmupTimerExpiry => Sys2Proof.Machine.execWarmupTimerExpiry s
  | .coolTimerExpiry => Sys2Proof.Machine.execCoolTimerExpiry s
  | .minOnReached => Sys2Proof.Machine.execMinOnReached s
  | .holdReleaseWindow => Sys2Proof.Machine.execHoldReleaseWindow s
  | .litCommitCountReached => Sys2Proof.Machine.execLitCommitCountReached s
  | .presLineChange line level => Sys2Proof.Machine.execPresLineChange line level s
  | .presenceDebounceExpiry line => Sys2Proof.Machine.execPresenceDebounceExpiry line s
  | .framePulse time geoFirst => Sys2Proof.Machine.execFramePulse time geoFirst s
  | .linePulse => Sys2Proof.Machine.execLinePulse s
  | .frameWatchdogExpiry => Sys2Proof.Machine.execFrameWatchdogExpiry s
  | .switchTimerExpiry => Sys2Proof.Machine.execSwitchTimerExpiry s
  | .nosigDimReached => Sys2Proof.Machine.execNosigDimReached s
  | .nosigOffReached => Sys2Proof.Machine.execNosigOffReached s
  | .dialEdge a b => Sys2Proof.Machine.execDialEdge a b s
  | .kpPowerPress held => Sys2Proof.Machine.execKpPowerPress s held
  | .kpSourcePress held => Sys2Proof.Machine.execKpSourcePress s held
  | .kpAxisPress held => Sys2Proof.Machine.execKpAxisPress s held
  | .keylockChange level => Sys2Proof.Machine.execKeylockChange level s
  | .confirmWindowExpiry => Sys2Proof.Machine.execConfirmWindowExpiry s
  | .calendarSecond => Sys2Proof.Machine.execCalendarSecond s
  | .commitComplete => Sys2Proof.Machine.execCommitComplete s
  | .pfailAsserted => Sys2Proof.Machine.execPfailAsserted s
  | .pfailNegated => Sys2Proof.Machine.execPfailNegated s
  | .supplyFall => Sys2Proof.Machine.execSupplyFall s
  | .powerOnReset cause => Sys2Proof.Machine.execPowerOnReset cause s
  | .resetRelease => Sys2Proof.Machine.execResetRelease s
  | .startupLoadComplete falls => Sys2Proof.Machine.execStartupLoadComplete s falls
  | .engRstAsserted => Sys2Proof.Machine.execEngRstAsserted s
  | .engRstReleased => Sys2Proof.Machine.execEngRstReleased s
  | .backupDomainLoss => Sys2Proof.Machine.execBackupDomainLoss s

end Sys2Proof.Machine
end

