-- ==== Sys2Proof/Safety.lean ====
section
/-! DEFINITION. What the part promises of every moment between commands: the laws that the rules state of the whole
machine, as properties of one state; and the terms in which the claims are written. -/

namespace Sys2Proof.Machine

/-! ### The lamp -/

/-- The timers that run and the attempt number stand as the lamp state has them (1.1, R2, R11, R13 to R16). -/
def timersFit (q : Lsq) : Bool :=
  match q.state with
  | .striking =>
    (q.attemptTimer.isSome != q.gapTimer.isSome) && q.warmupTimer.isNone && q.coolTimer.isNone
      && decide (1 ≤ q.attempt) && decide (q.attempt ≤ Config.attempts)
      && (q.gapTimer.isNone || decide (q.attempt < Config.attempts))
  | .warmup =>
    q.attemptTimer.isNone && q.gapTimer.isNone && q.warmupTimer.isSome && q.coolTimer.isNone && q.attempt == 0
  | .cooling | .faultCooling =>
    q.attemptTimer.isNone && q.gapTimer.isNone && q.warmupTimer.isNone && q.coolTimer.isSome && q.attempt == 0
  | .off | .on | .offPending | .fault =>
    q.attemptTimer.isNone && q.gapTimer.isNone && q.warmupTimer.isNone && q.coolTimer.isNone && q.attempt == 0

/-- A fault record is held exactly while the lamp is in FAULT_COOLING or FAULT (R19). -/
def faultFits (s : State) : Bool :=
  s.lamp.fault.isSome == (s.lsq.state == .faultCooling || s.lsq.state == .fault)

/-- A power-on is held only in OFF and COOLING (R5). -/
def heldFits (s : State) : Bool := s.lsq.held.isNone || s.lsq.state == .off || s.lsq.state == .cooling

/-- What the lamp's blocks promise. -/
def lampFits (s : State) : Bool := timersFit s.lsq && faultFits s && heldFits s

/-! ### The picture -/

/-- MUTE is released only where R80 allows it. -/
def muteFits (s : State) : Bool := s.ssw.mute || (s.sto.phase == .complete && s.showable)

/-- TRAINING or RECOVERY. -/
def training (p : PathState) : Bool := p == .training || p == .recovery

/-- A switch record is present exactly while the selected path of a TRAINED selection is TRAINING or RECOVERY, and it names
the selected input; the switch timer runs with it (R62, R63). -/
def recordFits (s : State) : Bool :=
  s.ssw.record.isSome == (s.ssw.trained && s.selPath.any training)
    && s.ssw.timer.isSome == s.ssw.record.isSome
    && s.ssw.record.all fun r => s.ssw.selected == some r.target

/-- Before start-up is complete there is no selection. -/
def selectionFits (s : State) : Bool :=
  if s.sto.phase == .complete then s.ssw.selected.isSome
  else s.ssw.selected.isNone && !s.ssw.trained && s.ssw.record.isNone && s.ssw.mute

/-- What the picture's blocks promise. -/
def pictureFits (s : State) : Bool := muteFits s && recordFits s && selectionFits s

/-! ### The room -/

/-- The session level is that of the open session, and the presenter hold is set only while one is open (R113, R114). -/
def lockoutFits (s : State) : Bool :=
  s.lkc.sessionLevel == s.ses.map (fun r => r.level) && (!s.lkc.hold || s.ses.isSome)

/-- A session's extensions used and its planned end keep their bounds (R142). -/
def boundsFit (r : Session) : Bool := decide (r.used ≤ r.allowance) && decide (r.plannedEnd ≤ Config.dayMinutes)

/-- What SES promises: the bounds of R142, and a timetable whose entries keep theirs (R129, R131). -/
def sessionFits (s : State) : Bool := s.ses.all boundsFit && timetableOk s.timetable

/-- The power-deferred mark of a manual session is clear (R150). -/
def deferralFits (s : State) : Bool := s.ses.all fun r => r.kind == .scheduled || !r.deferred

/-! ### The records, the ports and the store -/

/-- The live keystone and the dial accumulator stay within their limits (R90, R95). -/
def liveFits (g : Geo) : Bool :=
  clampSym Config.keystoneV g.liveV == g.liveV && clampSym Config.keystoneH g.liveH == g.liveH
    && decide (-3 ≤ g.dialAcc) && decide (g.dialAcc ≤ 3)

/-- Every stored record would pass the check of a loading (R185), CAL shows a date and a time, and the live keystone keeps
its limits. -/
def recordsFit (s : State) : Bool :=
  settingsOk s.settings && lampOk s.lamp && inputsOk s.inputs && timingsOk s.timings && timetableOk s.timetable
    && validDate s.cal.date && validTime s.cal.time && liveFits s.geo

/-- A port's queue and buffer keep their sizes (R165, R173). -/
def portFits (q : Port) : Bool :=
  decide (q.queue.length ≤ Config.queueMax) && decide (q.used ≤ Config.bufferMax)
    && (!q.overflow || q.queue.length == Config.queueMax)

/-- The ports keep their sizes. -/
def portsFit (s : State) : Bool := portFits s.ptc.e && portFits s.ptc.l && portFits s.ptc.f

/-- The strike log holds at most STRIKE_MAX stamps, oldest first and none later than now (R4). -/
def strikesFit (s : State) : Bool :=
  decide (s.lsq.strikeLog.length ≤ s.settings.strikeMax) && s.lsq.strikeLog.all (fun n => decide (n ≤ s.uptime))

/-- No name stands twice in the dirty list (R179), and power-fail mode goes with the PFAIL line (R183, R184). -/
def storeFits (s : State) : Bool :=
  s.sto.dirty.dedup.length == s.sto.dirty.length && (!s.lines.supply || (s.sto.pf == .off) == !s.lines.pfail)

/-! ### The terms of the claims -/

/-- A command answers a next state of which `P` holds. -/
def Completes (c : Instr) (s : State) (P : State → Prop) : Prop := ∃ t, exec c s = .next t ∧ P t

/-- A command answers a next state, of which `P` holds but for what stands at the end of every command: a transmission or a
commit that begins (`settle`, whose effect a claim of its own states). -/
def Settles (c : Instr) (s : State) (P : State → Prop) : Prop := ∃ u, exec c s = .next (settle u) ∧ P u

/-- The parts of the state. -/
inductive Part where
  | lines | uptime | lamp | inputs | timings | timetable | settings | lsq | sinceCommit | inm | ssw | geo | lkc | cal | ses
  | kpi | ports | store | queue
  deriving DecidableEq, Repr

/-- A part stands as it did. -/
def Part.same (x : Part) (s t : State) : Prop :=
  match x with
  | .lines => t.lines = s.lines
  | .uptime => t.uptime = s.uptime
  | .lamp => t.lamp = s.lamp
  | .inputs => t.inputs = s.inputs
  | .timings => t.timings = s.timings
  | .timetable => t.timetable = s.timetable
  | .settings => t.settings = s.settings
  | .lsq => t.lsq = s.lsq
  | .sinceCommit => t.sinceCommit = s.sinceCommit
  | .inm => t.inm = s.inm
  | .ssw => t.ssw = s.ssw
  | .geo => t.geo = s.geo
  | .lkc => t.lkc = s.lkc
  | .cal => t.cal = s.cal
  | .ses => t.ses = s.ses
  | .kpi => t.kpi = s.kpi
  | .ports => t.ptc = s.ptc
  | .store => t.sto = s.sto
  | .queue => t.pending = s.pending

/-- Every part but those named stands as it did. -/
def Keeps (changed : List Part) (s t : State) : Prop := ∀ x, x ∉ changed → x.same s t

/-- The port makes and takes requests at once: it is open, holds no reply and has no frame waiting. What its receiver
assembles, and a transaction under way on E, play no part: the model's choice of log 65. -/
def Free (p : PortId) (s : State) : Prop :=
  s.portOpen p = true ∧ (s.port p).reply = none ∧ (s.port p).frames = []

/-- A request of origin byte `o` on a free port is taken with the origin `a` and passes the check (R106, R107). -/
def Taken (p : PortId) (o : Byte) (a : Origin) (r : Request) (s : State) : Prop :=
  Free p s ∧ originOn p o = some a ∧ checkPasses s.effLevel a r = true

/-- The port holds this reply. -/
def Answers (p : PortId) (code : Byte) (st : Status) (fields : List Byte) (u : State) : Prop :=
  (u.port p).reply = some ⟨code, st, fields⟩

/-- The record has been marked dirty, and nothing else of the store has changed. -/
def Marked (r : RecordName) (s u : State) : Prop := u.sto = (markDirty r s).sto

/-- Raise notices, in order. -/
def raiseAll : List Payload → State → State
  | [], s => s
  | n :: rest, s => raiseAll rest (raise n s)

/-- The notices raised, in order, are all that has come at the ports. -/
def Raised (ns : List Payload) (s u : State) : Prop := u.ptc = (raiseAll ns s).ptc

/-- At the ports the notices `ns` have been raised, in order, and then the reply of `p` has come; nothing else of the ports
has changed. -/
def Told (p : PortId) (code : Byte) (st : Status) (fields : List Byte) (ns : List Payload) (s u : State) : Prop :=
  u.ptc = (raiseAll ns s).ptc.mod p fun q => { q with reply := some ⟨code, st, fields⟩ }

/-- The port answers, and nothing else has changed anywhere. -/
def OnlyReplied (p : PortId) (code : Byte) (st : Status) (fields : List Byte) (s u : State) : Prop :=
  Told p code st fields [] s u ∧ Keeps [.ports] s u

/-- A setting after a request: the value carried, clamped to its range, or the value held (R3). -/
def clampedTo {w : Nat} (r : Config.Range) (b : Option (BitVec w)) (old : Nat) : Nat :=
  (b.map fun n => r.clamp n.toNat).getD old

/-- No value carried lies outside its range. -/
def unclamped {w : Nat} (r : Config.Range) (b : Option (BitVec w)) : Bool := b.all fun n => r.holds n.toNat

/-- The command of the table that a request is; a TIMING_LOAD, PRESENTER_HOLD or SERVICE of another action has no row. -/
def requestRow (p : PortId) (o : Byte) : Request → Option Instr
  | .powerOn => some (.powerOn p o)
  | .powerOff => some (.powerOff p o)
  | .lampMode m => some (.lampMode p o m)
  | .select i => some (.select p o i)
  | .retrain i => some (.retrain p o i)
  | .muteSet v => some (.muteSet p o v)
  | .keystone k => some (.keystone p o k)
  | .presetStore => some (.presetStore p o)
  | .extendEnd => some (.extendEnd p o)
  | .endSession => some (.endSession p o)
  | .timeSet d t => some (.timeSet p o d t)
  | .entryWrite w => some (.entryWrite p o w)
  | .entryDelete i => some (.entryDelete p o i)
  | .holidayAdd d => some (.holidayAdd p o d)
  | .holidayRemove d => some (.holidayRemove p o d)
  | .lampReplace => some (.lampReplace p o)
  | .lampLimits w => some (.lampLimits p o w)
  | .lampCeiling l => some (.lampCeiling p o l)
  | .faultClear => some (.faultClear p o)
  | .inputConfig i c => some (.inputConfig p o i c)
  | .timingWrite i t => some (.timingLoadWrite p o i t)
  | .timingOut i => some (.timingLoadOutOfUse p o i)
  | .timingOther _ _ _ => none
  | .panelSet w h => some (.panelSet p o w h)
  | .guardSet g => some (.guardSet p o g)
  | .subscribe m => some (.subscribe p o m)
  | .lockoutBase l => some (.lockoutBase p o l)
  | .presenterHold a => if a = 1 then some (.presenterHoldSet p o) else if a = 0 then some (.presenterHoldClear p o) else none
  | .service a => if a = 1 then some (.serviceEnter p o) else if a = 0 then some (.serviceLeave p o) else none
  | .statusRead => some (.statusRead p o)
  | .lampRead => some (.lampRead p o)
  | .historyRead i => some (.historyRead p o i)
  | .faultRead => some (.faultRead p o)
  | .inputRead i => some (.inputRead p o i)
  | .timingRead i => some (.timingRead p o i)
  | .geometryRead => some (.geometryRead p o)
  | .entryRead i => some (.entryRead p o i)
  | .holidayRead => some (.holidayRead p o)
  | .sessionRead => some (.sessionRead p o)
  | .timeRead => some (.timeRead p o)
  | .noticesRead => some (.noticesRead p o)

/-- The state after the bytes have reached a UART one by one, none with a framing error. -/
def sendBytes (x : UartId) : List Byte → State → Option State
  | [], s => some s
  | b :: rest, s =>
    match exec (.uartByteReceived x b false) s with
    | .next t => sendBytes x rest t
    | _ => none

/-! ### What the rules leave of a block -/

/-- LSQ gone to COOLING or FAULT_COOLING with a full COOL. -/
def cooled (state : LampState) (cool : Nat) (q : Lsq) : Lsq :=
  { q with state := state, attempt := 0, attemptTimer := none, gapTimer := none, warmupTimer := none,
           coolTimer := some cool }

/-- LSQ gone to WARMUP. -/
def warmed (time : Nat) (q : Lsq) : Lsq :=
  { q with state := .warmup, attempt := 0, attemptTimer := none, gapTimer := none, warmupTimer := some time }

/-- LSQ as an ignition attempt begins at uptime `now` (R13). -/
def struck (g : Settings) (now attempt : Nat) (q : Lsq) : Lsq :=
  { q with state := .striking, attempt := attempt, attemptTimer := some g.igniteTimeout, gapTimer := none,
           strikeLog := q.strikeLog.drop (q.strikeLog.length + 1 - g.strikeMax) ++ [now] }

/-- LAMP after a strike has been charged (R26, R28, R29). -/
def charged (r : LampRecord) : LampRecord :=
  { r with cur := addUnits r.strikeWear { r.cur with strikes := countUp Config.count16Max r.cur.strikes, hot := true } }

/-- The fault record after a fault: made, or its later-faults count one up to 255 (R19). -/
def faultAfter (k : FaultKind) (s : State) : FaultRecord :=
  match s.lamp.fault with
  | none =>
    { kind := k, date := s.cal.date, time := s.cal.time, state := s.lsq.state, hours := s.lamp.cur.hours,
      sub := s.lamp.cur.sub, strikes := s.lamp.cur.strikes, later := 0 }
  | some f => { f with later := min (f.later + 1) (max f.later Config.laterFaultsMax) }

/-- LAMP after a fault. -/
def faulted (k : FaultKind) (s : State) : LampRecord := { s.lamp with fault := some (faultAfter k s) }

/-- LAMP with the lamp-hot flag clear (R31). -/
def cold (r : LampRecord) : LampRecord := { r with cur := { r.cur with hot := false } }

/-- SSW once the lamp has left the lit states: muted, the no-signal count at 0 and the dim report inactive (R80 to R82). -/
def darkened (w : Ssw) : Ssw := { w with mute := true, nosigCount := 0, autoOffTest := false, dimReport := false }

/-- LKC with the confirm window closed (R120). -/
def windowClosed (k : Lkc) : Lkc := { k with confirmOpen := false }

/-- The session record once the hold kept, if it was made for the timetable, has ended (R148). -/
def holdEnded (s : State) : Option Session :=
  if s.lsq.held.any fun h => h.origin == .timetable then s.ses.map fun r => { r with deferred := false } else s.ses

/-- The session record once LSQ has made a hold of origin TIMETABLE: the mark is set, that of a manual session stays clear
(R148, R150). -/
def holdMade (s : State) : Option Session := s.ses.map fun r => { r with deferred := r.kind == .scheduled }

/-- A user POWER_ON that is not refused opens a manual session (R150). -/
def manualOpens (s : State) : Bool := s.ses.isNone && !s.lkc.service

/-- The session record a user POWER_ON leaves, where `old` is left if no manual session opens. -/
def sesAfterOn (s : State) (old : Option Session) : Option Session :=
  if manualOpens s then some (manualSession s) else old

/-- LKC once a user POWER_ON has opened a manual session, or not. -/
def lkcAfterOn (s : State) : Lkc :=
  if manualOpens s then { s.lkc with sessionLevel := some s.settings.manualLevel } else s.lkc

/-- SSW as a switch record opens a training (R63, R65, R67). -/
def trainingSsw (i : Fin 6) (o : Origin) (k : SwitchKind) (timeout : Nat) (w : Ssw) : Ssw :=
  { w with selected := some i, trained := true, record := some ⟨i, o, k, w.record.isSome⟩, timer := some timeout,
           mute := true, ready := false }

/-- SSW with no scan in progress (R77). -/
def scanless (w : Ssw) : Ssw := { w with phase := .none, scanList := [], scanPos := 0, home := none, rescan := false }

/-- The monitor given seek (R52). -/
def sought (m : Monitor) : Monitor :=
  { m with mode := .seeking, openFrame := none, candidates := [], locked := none, lastFrame := none, watchdog := true }

/-- INM with the input `i` in a training. -/
def trainingInm (i : Fin 6) (n : Inm) : Inm := { n with path := n.path.set i .training, mon := sought n.mon }

/-- SSW once a POWER_ON has been taken and not refused: an UNTRAINED selection is trained (R85). -/
def firstSsw (s : State) (w : Ssw) : Ssw :=
  match s.ssw.selected with
  | some i => if s.ssw.trained then w else trainingSsw i .part .retrain s.settings.switchTimeout w
  | none => w

/-- INM at the same moment. -/
def firstInm (s : State) : Inm :=
  match s.ssw.selected with
  | some i => if s.ssw.trained then s.inm else trainingInm i s.inm
  | none => s.inm

/-- The session record once the outcome `x` of the switch record present has been handed to SES (R63, R149). -/
def handedSes (x : SourceState) (s : State) : Option Session :=
  if s.ssw.record.any fun r => r.origin == .timetable then
    s.ses.map fun r => if r.sourceState = some .pending then { r with sourceState := some x } else r
  else s.ses

/-- The session record once the switch record present has been superseded (R149). -/
def supersededSes (s : State) : Option Session := handedSes .superseded s

/-- GEO once it has taken a warp (R101). -/
def tookWarp (w : Warp) (g : Geo) : Geo := { g with active := some ⟨w, nextGeneration g.active⟩, pendingWarp := none }

/-- GEO once the selected path has left LOCKED, if it was LOCKED, with the selection unchanged (R101). -/
def leftGeo (s : State) : Geo :=
  if s.locked then (match s.geo.pendingWarp with
    | some w => tookWarp w s.geo
    | none => s.geo)
  else s.geo

/-- The warp of an input for given live values (R87 to R89). -/
def State.warpAt (s : State) (i : Fin 6) (v h : Int) (cause : WarpCause) : Warp :=
  computeWarp s.inputs.panelW s.inputs.panelH (s.sourceSize i) s.inputs.entries[i].aspect v h i cause

/-- GEO once a recompute has found `w`: pending on a LOCKED path, otherwise taken (R99, R101). -/
def placedGeo (s : State) (w : Warp) (g : Geo) : Geo := if s.locked then { g with pendingWarp := some w } else tookWarp w g

/-- The notice of that take, if there is one. -/
def placedNotice (s : State) (w : Warp) : List Payload :=
  if s.locked then [] else [.warpReady (nextGeneration s.geo.active) w.input w.cause]

/-- GEO with the live keystone at an input's preset. -/
def presetGeo (s : State) (i : Fin 6) : Geo :=
  { s.geo with liveV := s.inputs.entries[i].presetV, liveH := s.inputs.entries[i].presetH }

/-- The warp for that preset. -/
def presetWarp (s : State) (i : Fin 6) (cause : WarpCause) : Warp :=
  s.warpAt i s.inputs.entries[i].presetV s.inputs.entries[i].presetH cause

/-- The lamp's condition notice after LAMP has become `r` (R34). -/
def conditionNotices (s : State) (r : LampRecord) : List Payload := (conditionNotice (condition s.lamp) r).toList

/-! ### Notices of the selection -/

/-- SOURCE_STATE for an input, as its entry stands (R64). -/
def sourceTold (s : State) (i : Fin 6) (p : Option PathState) (r : Option SwitchRecord) : Payload :=
  .sourceState i p r s.inputs.entries[i].lastTiming s.inputs.entries[i].kind

/-- The ports a supersession notice goes to: that of the origin superseded, or every port for TIMETABLE and PART (R64). -/
def supersededTo (o : Origin) (p : PortId) : Bool :=
  o == .timetable || o == .part || p == (if o = .lectern then .l else if o = .facilities then .f else .e)

/-- The ports once a record present has been superseded, the input `j` being selected (R64, R66). -/
def superseding (j : Fin 6) (r : SwitchRecord) (s : State) : State :=
  raiseFor (supersededTo r.origin) (sourceTold s j none (some r)) s

/-- The notice of the warp taken as the selected path leaves LOCKED, if one was pending (R101). -/
def leftNotice (s : State) : List Payload :=
  if s.locked then (match s.geo.pendingWarp with
    | some w => [.warpReady (nextGeneration s.geo.active) w.input w.cause]
    | none => [])
  else []

/-! ### The scan (4.4) -/

/-- SSW once the record present has ended without a lock (R63, R69, R70). -/
def outcomeSsw (w : Ssw) : Ssw := { w with mute := true, ready := false, record := none, timer := none }

/-- A SCAN record of origin PART tries the input `x`, with the preset of `x` and its warp taken at once; an input left
behind takes its unselected path state (R62, R63, R75, R91, R99). -/
def Tries (x : Fin 6) (s u : State) : Prop :=
  u.ssw.selected = some x ∧ u.ssw.trained = true ∧ u.ssw.record = some ⟨x, .part, .scan, false⟩ ∧
  u.ssw.timer = some s.settings.switchTimeout ∧ u.ssw.mute = true ∧ u.ssw.ready = false ∧
  u.inm.path[x] = .training ∧ u.inm.mon = sought s.inm.mon ∧
  (∀ j, s.ssw.selected = some j → j ≠ x → u.inm.path[j] = u.restPath j) ∧
  u.geo = tookWarp (presetWarp s x .select) (presetGeo s x)

/-- The input `a` comes before `b` in a scan list (R75). -/
def scansBefore (s : State) (a b : Fin 6) : Prop :=
  s.inputs.entries[a].priority < s.inputs.entries[b].priority ∨
    (s.inputs.entries[a].priority = s.inputs.entries[b].priority ∧ a < b)

/-- A scan has started from the home input `h`: its list holds every other input that is enabled and present, by priority
and then by index, and its first entry is tried (R74, R75). -/
def ScanStarts (h : Fin 6) (s u : State) : Prop :=
  u.ssw.phase = .trying ∧ u.ssw.home = some h ∧ u.ssw.scanPos = 1 ∧ u.ssw.rescan = false ∧
  (∀ x, x ∈ u.ssw.scanList ↔ x ≠ h ∧ u.attached x = true) ∧ u.ssw.scanList.Pairwise (scansBefore u) ∧
  ∃ x, u.ssw.scanList.head? = some x ∧ Tries x s u

/-- A trial has ended without a lock: the next entry of the list that is still enabled and present is tried, and where none
is left the scan returns to the home input `h` (R75, R76). -/
def ScanMovesOn (h : Fin 6) (s u : State) : Prop :=
  (∀ x before after, s.ssw.scanList.drop s.ssw.scanPos = before ++ x :: after → (∀ y ∈ before, u.attached y = false) →
     u.attached x = true → Tries x s u ∧ u.ssw.phase = .trying ∧ u.ssw.home = some h ∧
     u.ssw.scanList = s.ssw.scanList ∧ u.ssw.scanPos = s.ssw.scanPos + before.length + 1) ∧
  ((∀ y ∈ s.ssw.scanList.drop s.ssw.scanPos, u.attached y = false) →
     Tries h s u ∧ u.ssw.phase = .returning ∧ u.ssw.home = some h ∧ u.ssw.scanList = [] ∧ u.ssw.scanPos = 0)

/-- The selected input `i` has locked at entry `j`, the monitor tracking the measurement `m` (R60, R63, R68, R76, R81, R82,
R101). -/
def LocksAt (i : Fin 6) (j : Fin 24) (m : Measure) (s u : State) : Prop :=
  u.inm.path = s.inm.path.set i .locked ∧ u.inm.mon.mode = .tracking ∧ u.inm.mon.locked = some m ∧
  u.inm.mon.lastStable = some ⟨m, some j⟩ ∧
  u.inputs =
    { s.inputs with entries := s.inputs.entries.set i { s.inputs.entries[i] with lastTiming := some j } } ∧
  u.ssw = darkened (scanless (outcomeSsw s.ssw)) ∧ u.ses = handedSes .locked s ∧
  u.geo = { s.geo with pendingWarp := some (u.warpAt i s.geo.liveV s.geo.liveH .lock) }

/-! ### Timing entries -/

/-- The TIMING_LOAD of a timing entry: with a timing it writes the entry, without one it takes it out of use (R58). -/
def timingRow (p : PortId) (o b : Byte) : Option RawTiming → Instr
  | some t => .timingLoadWrite p o b t
  | none => .timingLoadOutOfUse p o b

/-- The request of that row. -/
def timingAsked (b : Byte) : Option RawTiming → Request
  | some t => .timingWrite b t
  | none => .timingOut b

/-- The entry it leaves where `old` stood (R58). -/
def timingLeft (old : TimingEntry) : Option RawTiming → TimingEntry
  | some t =>
    ⟨true, t.linesMin.toNat, t.linesMax.toNat, t.periodMin.toNat, t.periodMax.toNat, t.width.toNat, t.height.toNat⟩
  | none => { old with inUse := false }

/-- The state once entry `k` stands as `e` and, where it is out of use, no last timing index names it (R59). -/
def retimed (k : Fin 24) (e : TimingEntry) (s : State) : State :=
  { s with
    timings := s.timings.set k e
    inputs := if e.inUse then s.inputs else
      { s.inputs with entries := s.inputs.entries.map fun x =>
          if x.lastTiming = some k then { x with lastTiming := none } else x } }

/-! ### Power requests of the other blocks -/

/-- LSQ after a POWER_ON of origin `o` (R6 to R8). -/
def lsqAfterOn (o : Origin) (s : State) : Lsq :=
  match s.lsq.state with
  | .off =>
    if condition s.lamp = .expired then s.lsq
    else if s.lines.bfault then { s.lsq with state := .fault, held := none }
    else if s.lines.lit then { warmed s.settings.warmupTime s.lsq with held := none }
    else if s.windowFull then { s.lsq with held := some ⟨o, .window⟩ }
    else { struck s.settings s.uptime 1 s.lsq with ignOrigin := o, held := none }
  | .striking | .warmup | .on | .faultCooling | .fault => s.lsq
  | .offPending => { s.lsq with state := .on }
  | .cooling => { s.lsq with held := some ⟨o, if s.windowFull then .coolingWindow else .cooling⟩ }

/-- LSQ after a POWER_OFF (R10 to R12). -/
def lsqAfterOff (s : State) : Lsq :=
  match s.lsq.state with
  | .off | .cooling => { s.lsq with held := none }
  | .striking => cooled .cooling s.settings.cool s.lsq
  | .warmup | .on =>
    if s.settings.minOn ≤ s.lsq.litTime then cooled .cooling s.settings.cool s.lsq
    else { s.lsq with state := .offPending, warmupTimer := none }
  | .offPending | .faultCooling | .fault => s.lsq

/-! ### Sessions -/

/-- The outcome SESSION_OPEN reports of a session's power-on, with its reason (R147). -/
def powerReport (s : State) : OpenOutcome × Option Reason :=
  match s.lsq.state with
  | .off =>
    if condition s.lamp = .expired then (.lampRefused, some .lampExpired)
    else if s.lines.bfault then (.lampRefused, some .lampFault)
    else if s.lines.lit = false ∧ s.windowFull = true then (.deferred, none)
    else (.started, none)
  | .striking | .warmup | .on | .offPending => (.alreadyLit, none)
  | .cooling => (.deferred, none)
  | .faultCooling | .fault => (.lampRefused, some .lampFault)

/-- The outcome SESSION_OPEN reports, with its reason, where the actions are suppressed or not (R146, R147). -/
def startReport (e : Entry) (suppressed : Bool) (s : State) : OpenOutcome × Option Reason :=
  if suppressed then (.suppressed, none) else if e.powerOn then powerReport s else (.noAction, none)

/-- The source state at a session's start (R146, R149). -/
def startSource (e : Entry) (suppressed : Bool) (s : State) : Option SourceState :=
  if suppressed then none
  else e.source.map fun i =>
    if s.inputs.entries[i].enabled = false then .refused
    else if s.ssw.selected = some i ∧ s.locked = true then .locked else .pending

/-- SESSION_WARN where minute `m` stands within the warn lead of a planned end ahead, the session unwarned (R152). -/
def warnNotices (r : Session) (m : Nat) : List Payload :=
  if m < r.plannedEnd ∧ r.warnLead ≠ 0 ∧ r.warned = false ∧ r.plannedEnd ≤ m + r.warnLead then
    [.sessionWarn r.kind r.slot r.plannedEnd (r.plannedEnd - m) (r.allowance - r.used)]
  else []

/-- The record of a session as it opens for an entry on the date `d`, before any warning (R145, R148, R149). -/
def openedRecord (f : Found) (d : Date) (suppressed : Bool) (s : State) : Session :=
  { kind := .scheduled, slot := some f.slot, openedDate := s.cal.date, openedTime := s.cal.time, date := d,
    plannedEnd := f.entry.stop, level := f.entry.level, warnLead := f.entry.warnLead, allowance := f.entry.allowance,
    used := 0, warned := false, endOff := f.entry.powerOff, source := f.entry.source,
    sourceState := startSource f.entry suppressed s,
    deferred := !suppressed && f.entry.powerOn && (powerReport s).1 == .deferred, suppressed := suppressed }

/-- On each port the notices `ns` that it receives stand last in its queue, in order, unless the queue has overflowed. -/
def LastTold (ns : List Payload) (u : State) : Prop :=
  ∀ q, (u.port q).overflow = true ∨
    ((ns.filter fun n => receives u (fun _ => true) n q).map fun n => ⟨n, u.cal.time⟩) <:+ (u.port q).queue

/-- A session has opened for an entry with its start actions carried out or suppressed, `m` being the minute at which it is
then tested for its warning, if it is (R114, R145 to R149, R152). `s`: the state its actions found. -/
def Opened (way : SessionWay) (f : Found) (d : Date) (suppressed : Bool) (m : Option Nat) (s u : State) : Prop :=
  u.ses = some { openedRecord f d suppressed s with
    warned := (m.map fun m => !(warnNotices (openedRecord f d suppressed s) m).isEmpty).getD false } ∧
  u.lkc.sessionLevel = some f.entry.level ∧
  u.lsq = (if !suppressed && f.entry.powerOn then lsqAfterOn .timetable s else s.lsq) ∧
  (∀ i ∈ f.entry.source, startSource f.entry suppressed s = some .pending →
     u.ssw.selected = some i ∧ u.ssw.record = some ⟨i, .timetable, .select, s.ssw.record.isSome⟩ ∧
     u.inm.path[i] = .training) ∧
  (startSource f.entry suppressed s ≠ some .pending → u.ssw.selected = s.ssw.selected) ∧
  LastTold
    (.sessionOpen .scheduled (some f.slot) way f.entry.stop f.entry.level (startReport f.entry suppressed s).1
        (startReport f.entry suppressed s).2 ::
      (m.map fun m => warnNotices (openedRecord f d suppressed s) m).getD []) u

/-- The open session `r` has closed at its planned end with nothing to follow: its end action is carried out, or reported as
not, and a power-on deferred for it is ended (R114, R154, R158, R159). -/
def Ended (r : Session) (s u : State) : Prop :=
  u.ses = none ∧ u.lkc.sessionLevel = none ∧ u.lkc.hold = false ∧
  u.lsq = (if r.deferred || (r.endOff && !s.lkc.service) then lsqAfterOff s else s.lsq) ∧
  LastTold [.sessionClosed r.kind r.slot .ended r.used
    (if s.lkc.service then .suppressed else if r.endOff then .issued else .noAction)] u

/-- The entry's start has no action to carry out. -/
def quietStart (e : Entry) (suppressed : Bool) : Bool := suppressed || (e.source.isNone && !e.powerOn)

/-- A HANDOVER: the session `r` closes and a session opens for the entry, the presenter hold cleared; where the start has no
action, the close and the opening are the last notices (R113, R114, R157, R158). -/
def HandedOver (way : SessionWay) (r : Session) (f : Found) (d : Date) (m : Nat) (s u : State) : Prop :=
  u.lkc.hold = false ∧
  (r.deferred = false → Opened way f d s.lkc.service (some m) s u) ∧
  (quietStart f.entry s.lkc.service = true →
     LastTold
       (.sessionClosed r.kind r.slot .handover r.used .notApplicable ::
         .sessionOpen .scheduled (some f.slot) way f.entry.stop f.entry.level
             (startReport f.entry s.lkc.service s).1 none ::
           warnNotices (openedRecord f d s.lkc.service s) m) u)

/-! ### Reset and start-up -/

/-- The state after a power-on reset that leaves these lines, calendar, images and waiting commands (10.4). -/
def afterReset (l : Lines) (c : Cal) (m : Images) (waiting : List Instr) : State :=
  { State.reset with
    lines := l
    cal := c
    pending := waiting
    inm := { State.reset.inm with deb := l.pres.map fun v => ⟨false, if v = true then some true else none⟩ }
    lkc := { State.reset.lkc with keylock := l.keylock }
    kpi := { State.reset.kpi with pairA := l.dialA, pairB := l.dialB }
    sto := { State.reset.sto with images := m, pf := if l.pfail = true then .owed else .off } }

/-- What is wrong with an image: its CRC, or else a field or a rule of its content (R185, R186). -/
def badImage {α : Type} (i : Image α) (ok : α → Bool) : Option LostCause :=
  if i.intact = false then some .crc else if ok i.content = false then some .range else none

/-- A record's content after loading: the image's, or the defaults where it is bad (R186). -/
def loadedFrom {α : Type} (i : Image α) (ok : α → Bool) (defaults : α) : α :=
  if (badImage i ok).isNone then i.content else defaults

/-- The records found bad, in loading order, each with its cause (R185, R186). -/
def badRecords (m : Images) : List (RecordName × LostCause) :=
  [(RecordName.settings, badImage m.settings settingsOk), (.lamp, badImage m.lamp lampOk),
   (.inputs, badImage m.inputs inputsOk), (.timings, badImage m.timings timingsOk),
   (.timetable, badImage m.timetable timetableOk)].filterMap fun z => z.2.map fun c => (z.1, c)

/-- The dirty list after marks in this order (R179). -/
def markedInTurn (marks old : List RecordName) : List RecordName :=
  marks.foldl (fun l r => if r ∈ l then l else l ++ [r]) old

/-- INPUTS without the last timing indexes that name an entry not in use (R61). -/
def timingsForgotten (t : TimingsRecord) (r : InputsRecord) : InputsRecord :=
  { r with entries := r.entries.map fun e =>
      if e.lastTiming.any (fun k => !t[k].inUse) then { e with lastTiming := none } else e }

/-- TIMETABLE without the dated entries before the date (R139). -/
def purgedBefore (d : Date) (t : TimetableRecord) : TimetableRecord :=
  { t with slots := t.slots.map fun e => if e.any (fun e => e.isPast d) then none else e }

/-- SETTINGS as a GUARD_SET leaves it, with the strike log trimmed where it carries STRIKE_MAX (R3, R4). -/
def rewritten (g : RawGuard) (t : Settings) (s : State) : State :=
  { s with
    settings := t
    lsq := { s.lsq with strikeLog :=
      if g.strikeMax.isSome then s.lsq.strikeLog.drop (s.lsq.strikeLog.length - t.strikeMax) else s.lsq.strikeLog } }

end Sys2Proof.Machine
end

