-- ==== Sys2Proof/WellFormed.lean ====
section
/-! DEFINITION. The commands whose operands the lines can carry. Operands that are bytes or halves of a frame are never
ill-formed: a value outside its range is a matter of the reply (R166). -/

namespace Sys2Proof

/-- A label is a length byte and 12 character bytes (R189). -/
def wfLabel (l : RawLabel) : Bool := l.chars.length == 12

/-- An INPUT_CONFIG's label, where carried, is whole. -/
def wfInputConfig (c : RawInputConfig) : Bool := c.label.all wfLabel

/-- A request that some frame carries. -/
def wfRequest : Request → Bool
  | .inputConfig _ c => wfInputConfig c
  | .timingOther _ action rest => action != 0 && action != 1 && (rest.length == 0 || rest.length == 12)
  | _ => true

/-- The body of a complete frame has 3 to 64 bytes (R164). -/
def wfBody (body : List Byte) : Bool :=
  decide (Config.bodyMin ≤ body.length) && decide (body.length ≤ Config.bodyMax)

/-- The body is replied INVALID at steps 2 to 4 of R166 on this port. -/
def invalidBody (p : PortId) (body : List Byte) : Bool :=
  match Machine.parseBody body with
  | .notRequest => false
  | .unknownCode _ => true
  | .badLength _ => true
  | .request o _ => (Machine.originOn p o).isNone

/-- The first byte is not that of a read, 5Ah (R168, R169). -/
def notRead : List Byte → Bool
  | [] => false
  | b :: _ => b != 0x5A

/-- The operands of a command can stand on the lines. -/
def Instr.wf : Instr → Bool
  | .inputConfig _ _ _ c => wfInputConfig c
  | .unknownRequestCode p body => wfBody body && invalidBody p body
  | .nonRequestFrame _ body => wfBody body && Machine.parseBody body == .notRequest
  | .eWriteTransaction bytes _ => notRead bytes
  | .secondEvent early => decide early.Nodup
  | _ => true

end Sys2Proof
end

