-- ==== Sys2Proof/Certificates/Slice0/Obligations.lean ====
section
/-! DEFINITION. The statements, for the provers. Each title and docstring says what its Lean states; `Settles` says that a
command answers a next state, and its claims are of that state before `settle`, whose effect SettleBeginsWhatWaits
states. -/

open Sys2Proof Sys2Proof.Machine

/-- A step runs the command at the front of the queue. For every command and state, a step with that command at the
front of the queue answers what the command answers on the state with the queue's rest. With nothing waiting, a step
changes nothing, which is the model's choice of log entry 1. (95_what_each_step_holds) -/
def Obligations.StepRunsFrontCommand : Prop :=
  ∀ (c : Instr) (rest : List Instr) (s : State),
    step { s with pending := c :: rest } = exec c { s with pending := rest } ∧
    step { s with pending := [] } = .next { s with pending := [] }

/-- The values after power-on reset, and the lines driven in every state. Right after power-on reset the lamp is OFF
with no timer running, an empty strike log and nothing held; MUTE is asserted, nothing is selected and nothing is
trained; the monitor is IDLE; GEO holds no warp; no session is open; the ports are empty; the store is loading with
nothing dirty. FAN is asserted and IGNITE, PLEV and ATTN are not; XSEL is 7. The levels of the input lines and the
never-written images are the model's choice of log entries 2 and 3. In every state: IGNITE is asserted exactly in an
attempt in STRIKING of the running part with LIT negated; the effective power level is FULL in STRIKING and WARMUP,
and in every other state DIM where the dim report is active and AUTO_DIM on, otherwise FULL where mode and ceiling
are FULL and ECO where one is ECO; PLEV drives it (3, 2, 1) in STRIKING, WARMUP, ON and OFF_PENDING of the running
part and 0 elsewhere; with main supply present FAN is negated exactly in OFF and FAULT of the running part; XSEL is
the index of the selected input, or 7 for none; ATTN is asserted exactly in the running part with ENG_RST negated
while E holds a reply or a notice. (R1, R21, R24, R61, R62, R85, R104, R125, R162, R170, R176, R185) -/
def Obligations.ResetValues : Prop :=
  State.reset.lsq.state = .off ∧ State.reset.lsq.attemptTimer = none ∧ State.reset.lsq.gapTimer = none ∧
  State.reset.lsq.warmupTimer = none ∧ State.reset.lsq.coolTimer = none ∧ State.reset.lsq.litTime = 0 ∧
  State.reset.lsq.attempt = 0 ∧ State.reset.lsq.strikeLog = [] ∧ State.reset.lsq.held = none ∧
  State.reset.uptime = 0 ∧ State.reset.sinceCommit = 0 ∧ State.reset.ses = none ∧
  State.reset.inm.mon.mode = .idle ∧ State.reset.inm.mon.openFrame = none ∧ State.reset.inm.mon.candidates = [] ∧
  State.reset.inm.mon.locked = none ∧ State.reset.inm.mon.lastStable = none ∧
  (∀ i : Fin 6, State.reset.inm.path[i] = .absent ∧ State.reset.inm.deb[i].presence = false) ∧
  State.reset.ssw.selected = none ∧ State.reset.ssw.trained = false ∧ State.reset.ssw.record = none ∧
  State.reset.ssw.timer = none ∧ State.reset.ssw.phase = .none ∧ State.reset.ssw.scanList = [] ∧
  State.reset.ssw.home = none ∧ State.reset.ssw.rescan = false ∧ State.reset.ssw.userMute = false ∧
  State.reset.ssw.ready = false ∧ State.reset.ssw.nosigCount = 0 ∧ State.reset.ssw.dimReport = false ∧
  State.reset.ssw.mute = true ∧ State.reset.geo.active = none ∧ State.reset.geo.pendingWarp = none ∧
  State.reset.geo.dialAcc = 0 ∧ State.reset.geo.axis = .v ∧ State.reset.geo.denial = false ∧
  State.reset.lkc.hold = false ∧ State.reset.lkc.sessionLevel = none ∧ State.reset.lkc.service = false ∧
  State.reset.lkc.confirmOpen = false ∧ State.reset.cal = ⟨⟨2000, 1, 1⟩, ⟨0, 0, 0⟩, false, false⟩ ∧
  (∀ p : PortId, State.reset.port p = ⟨[], [], none, [], false⟩) ∧
  State.reset.ptc.lTx = .idle ∧ State.reset.ptc.fTx = .idle ∧ State.reset.ptc.txn = .idle ∧
  State.reset.sto.dirty = [] ∧ State.reset.sto.inflight = none ∧ State.reset.sto.pf = .off ∧
  State.reset.sto.phase = .loading ∧ State.reset.fan = true ∧ State.reset.ignite = false ∧
  State.reset.plev = 0 ∧ State.reset.xsel = 7 ∧ State.reset.attn = false ∧
  (∀ s : State,
     (s.ignite = true ↔
        s.operating = true ∧ s.lsq.state = .striking ∧ s.lsq.attemptTimer ≠ none ∧ s.lines.lit = false) ∧
     (s.lsq.state = .striking ∨ s.lsq.state = .warmup → s.powerLevel = .full) ∧
     (s.lsq.state ≠ .striking → s.lsq.state ≠ .warmup →
        s.powerLevel =
          (if s.ssw.dimReport = true ∧ s.settings.autoDim = true then .dim
             else if s.settings.mode = .full ∧ s.settings.ceiling = .full then .full else .eco)) ∧
     (s.operating = true →
        s.lsq.state = .striking ∨ s.lsq.state = .warmup ∨ s.lsq.state = .on ∨ s.lsq.state = .offPending →
        s.plev = (if s.powerLevel = .full then 3 else if s.powerLevel = .eco then 2 else 1)) ∧
     (s.operating = false ∨
        ¬(s.lsq.state = .striking ∨ s.lsq.state = .warmup ∨ s.lsq.state = .on ∨ s.lsq.state = .offPending) →
        s.plev = 0) ∧
     (s.lines.supply = true →
        (s.fan = false ↔ s.operating = true ∧ (s.lsq.state = .off ∨ s.lsq.state = .fault))) ∧
     (∀ i, s.ssw.selected = some i → s.xsel = i.val) ∧ (s.ssw.selected = none → s.xsel = 7) ∧
     (s.attn = true ↔
        s.operating = true ∧ s.lines.engRst = false ∧ (s.ptc.e.reply ≠ none ∨ s.ptc.e.queue ≠ [])))

/-- The state after power-on reset meets every law of the part. The lamp, picture, lockout, session (the deferred
mark among them), record, port, strike and store laws that the invariant statements keep hold of the state after
power-on reset. (R5, R19, R62, R80, R113, R142, R165, R173, R179, R185, R150) -/
def Obligations.ResetMeetsLaws : Prop :=
  lampFits State.reset = true ∧
  pictureFits State.reset = true ∧
  lockoutFits State.reset = true ∧
  sessionFits State.reset = true ∧
  deferralFits State.reset = true ∧
  recordsFit State.reset = true ∧
  portsFit State.reset = true ∧
  strikesFit State.reset = true ∧
  storeFits State.reset = true

/-- Settling begins the transmissions and the commit that wait. settle s, in the running part: an idle transmitter
begins with the frame of the reply its port holds, and otherwise with that of the oldest notice, which leaves the
queue (one OVERFLOW joining it where the mark is set); a transmitter that sends goes on. With no commit in flight a
commit begins: LAMP where it is listed, otherwise the oldest record of the list; in power-fail mode only the owed
final LAMP commit. It takes the record off the list and a copy of its live content, and a LAMP commit returns the
lit seconds since commit to 0. Nothing else changes; before start-up is complete nothing begins. This is a claim
about settle alone. That commands end with it, and which end without it, is the model's choice of log entry 8. (R42,
R167, R173, R179, R180, R183, R191) -/
def Obligations.SettleBeginsWhatWaits : Prop :=
  ∀ (s : State),
    (s.operating = false → settle s = s) ∧
    Keeps [.ports, .store, .sinceCommit] s (settle s) ∧
    (s.operating = true → s.sto.inflight = none → s.sto.pf = .off → .lamp ∈ s.sto.dirty →
       (settle s).sto = { s.sto with dirty := s.sto.dirty.erase .lamp, inflight := some (.lamp s.lamp) } ∧
       (settle s).sinceCommit = 0) ∧
    (s.operating = true → s.sto.inflight = none → s.sto.pf = .owed →
       (settle s).sto =
         { s.sto with dirty := s.sto.dirty.erase .lamp, inflight := some (.lamp s.lamp), pf := .begun } ∧
       (settle s).sinceCommit = 0) ∧
    (s.operating = true → s.sto.inflight = none → s.sto.pf = .off → .lamp ∉ s.sto.dirty →
       ((∀ r rest, s.sto.dirty = r :: rest →
               (settle s).sto = { s.sto with dirty := rest, inflight := some (s.copyOf r) }) ∧
          (settle s).sinceCommit = s.sinceCommit)) ∧
    (s.sto.inflight ≠ none ∨ s.sto.pf = .begun ∨ s.sto.pf = .done ∨ s.sto.pf = .off ∧ s.sto.dirty = [] →
       (settle s).sto = s.sto ∧ (settle s).sinceCommit = s.sinceCommit) ∧
    (s.operating = true →
       (∀ x : UartId, s.ptc.tx x ≠ .idle → (settle s).ptc.tx x = s.ptc.tx x ∧ (settle s).port x.port = s.port x.port)) ∧
    (s.operating = true →
       (∀ x : UartId, ∀ y, s.ptc.tx x = .idle → (s.port x.port).reply = some y →
          (settle s).ptc.tx x = .reply (frameBytes (replyBody y)) ∧ (settle s).port x.port = s.port x.port)) ∧
    (s.operating = true →
       (∀ x : UartId, ∀ n rest, s.ptc.tx x = .idle → (s.port x.port).reply = none →
          (s.port x.port).queue = n :: rest → (settle s).ptc.tx x = .notice (frameBytes (noticeBody n)) ∧
          (settle s).port x.port =
            { s.port x.port with
                overflow := false,
                queue := rest ++ (if (s.port x.port).overflow then [⟨.overflow, s.cal.time⟩] else []) })) ∧
    (s.operating = true →
       (∀ x : UartId, s.ptc.tx x = .idle → (s.port x.port).reply = none → (s.port x.port).queue = [] →
          (settle s).ptc.tx x = .idle ∧ (settle s).port x.port = s.port x.port)) ∧
    (settle s).ptc.e = s.ptc.e ∧ (settle s).ptc.txn = s.ptc.txn ∧ (settle s).ptc.sdo = s.ptc.sdo

/-- Every request a frame can carry is parsed as it was laid out. For every origin byte and every request whose
fields a frame can carry, the body laid out by the tables of 11.1 and 11.3 has 3 to 64 bytes, and the examination of
that body finds the same origin byte and the same request, every field at its value, optional fields present or
absent. That a TIMING_LOAD of an unknown action is found as such, with or without its 12 bytes, is the model's
reading of log entry 26. (R166, R189, R190) -/
def Obligations.RequestBodiesParse : Prop :=
  ∀ (o : Byte) (r : Request),
    wfRequest r = true →
    parseBody (encodeBody o r) = .request o r ∧
    wfBody (encodeBody o r) = true

/-- A receiver in HUNTING finds a frame after any bytes that are no sync byte. For every body of 3 to 64 bytes and
every run of bytes other than A5h before its frame, a receiver that reads the run and then the frame of that body
(sync, length, body, check) completes exactly that body and returns to HUNTING; the 8-bit sum of length, body and
check is zero. (R164) -/
def Obligations.FramesAreFound : Prop :=
  ∀ (junk body : List Byte),
    wfBody body = true → (∀ b ∈ junk, b ≠ 0xA5) →
    scanAll false (junk ++ frameBytes body) = ⟨[body], [], true⟩ ∧
    byte1 body.length + byteSum body + checkByte body = 0

/-- A request frame sent byte by byte acts as the command of its row. On an open UART port that is HUNTING, holds no
reply and no waiting frame, in a part where nothing is about to begin (no transmission, no commit), receiving the
bytes of a request's frame one by one, each as a byte command, ends in the same state as the request's own command
of the table. (R164, R166, R167) -/
def Obligations.UartBytesMakeRequest : Prop :=
  ∀ (x : UartId) (o : Byte) (r : Request) (c : Instr) (s : State),
    wfRequest r = true → requestRow x.port o r = some c → Free x.port s → (s.port x.port).asm = [] → settle s = s →
    ∃ t, exec c s = .next t ∧ sendBytes x (frameBytes (encodeBody o r)) s = some t

/-- Every command keeps the lamp's laws. Every step keeps: the timers that run and the attempt number stand as the
lamp state has them; a fault record is held exactly while the lamp is in FAULT_COOLING or FAULT; a power-on is held
only in OFF and COOLING. (R5, R11, R13, R14, R15, R16, R17, R18, R19, R20) -/
def Obligations.LampLawsKept : Prop :=
  ∀ (s t : State),
    lampFits s = true → step s = .next t →
    lampFits t = true

/-- Every command keeps the picture's laws. Every step keeps: MUTE is released only while the part is running with
the lamp ON or OFF_PENDING, the selected input LOCKED, no user mute and the picture-ready mark set; a switch record,
naming the selected input and with its timer running, is present exactly while the path of a TRAINED selection is
TRAINING or RECOVERY; before start-up is complete nothing is selected, and after it something always is. (R62, R63,
R71, R80, R85) -/
def Obligations.PictureLawsKept : Prop :=
  ∀ (s t : State),
    pictureFits s = true → step s = .next t →
    pictureFits t = true

/-- Every command keeps the laws of the lockout and of the session. Every step keeps: the session level is that of
the open session and absent with none; the presenter hold is set only while a session is open; the power-deferred
mark of a manual session is clear. And with a sound timetable it keeps: a session's extensions used never exceed its
allowance, its planned end never exceeds minute 1,440, and no two enabled timetable entries that can both run on one
date overlap. (R113, R114, R131, R142, R153, R150) -/
def Obligations.RoomLawsKept : Prop :=
  ∀ (s t : State),
    step s = .next t →
    (lockoutFits s = true → lockoutFits t = true) ∧
    (sessionFits s = true → sessionFits t = true) ∧
    (deferralFits s = true → deferralFits t = true)

/-- Every command keeps every stored value in its range. Every step keeps: all five records would pass the checks of
a loading (each setting, count, limit, label, timing and entry in its range, no overlap in the timetable, the
holiday list ascending), the calendar shows a date and a time, the live keystone stays within its limits and the
dial accumulator within -3 to +3. (R28, R29, R90, R95, R131, R135, R185) -/
def Obligations.RecordsStayInRange : Prop :=
  ∀ (s t : State),
    recordsFit s = true → step s = .next t →
    recordsFit t = true

/-- Every command keeps the ports' queues and buffers in size. Every step keeps on every port: at most 16 notices
queued, at most 256 bytes in the receive buffer, and the overflow mark set only over a full queue. (R165, R173) -/
def Obligations.PortsStayInSize : Prop :=
  ∀ (s t : State),
    portsFit s = true → step s = .next t →
    portsFit t = true

/-- Every command keeps the strike log in bounds. With the settings in range, every step keeps: the strike log holds
at most STRIKE_MAX stamps, none of them later than the present uptime second. (R4) -/
def Obligations.StrikeLogKept : Prop :=
  ∀ (s t : State),
    strikesFit s = true ∧ settingsOk s.settings = true → step s = .next t →
    strikesFit t = true

/-- Every command keeps the store's laws. Every step keeps: the dirty list names no record twice; while main supply
is present, power-fail mode is on exactly while PFAIL is asserted. (R179, R183, R184) -/
def Obligations.StoreLawsKept : Prop :=
  ∀ (s t : State),
    storeFits s = true → step s = .next t →
    storeFits t = true

/-- POWER_ON in OFF with the way clear strikes the lamp. In a part that meets the picture's laws, an allowed
POWER_ON taken in OFF with the condition not EXPIRED, BFAULT and LIT negated and the window open is replied
ACCEPTED: the lamp goes to STRIKING, attempt 1, its stamp in the strike log and the attempt timer started; the
strike is counted and charged, the lamp-hot flag set and LAMP marked dirty; a power-on held before ends. IGNITE and
FAN are asserted and PLEV drives FULL. MUTE is asserted, an UNTRAINED selection is trained, and with no session open
and the service flag clear a manual session opens and hands its level to LKC. Where a session is open or service is
set and the selection is TRAINED, LAMP_STATE and then any condition notice are all the notices raised, in the order
of log entry 35. Every other block keeps its state. (R1, R4, R6, R13, R26, R28, R31, R80, R85, R114, R150) -/
def Obligations.PowerOnStrikes : Prop :=
  ∀ (p : PortId) (o : Byte) (a : Origin) (s : State),
    Taken p o a .powerOn s → pictureFits s = true → s.lsq.state = .off → condition s.lamp ≠ .expired → s.lines.bfault = false →
    s.lines.lit = false → s.windowFull = false →
    Settles (.powerOn p o) s fun u =>
      u.lsq = { struck s.settings s.uptime 1 s.lsq with ignOrigin := a, held := none } ∧
      u.ignite = true ∧ u.plev = 3 ∧ u.fan = true ∧ u.lamp = charged s.lamp ∧ Marked .lamp s u ∧ Answers p 0x10 .accepted [] u ∧
      u.ssw = firstSsw s (darkened s.ssw) ∧ u.inm = firstInm s ∧
      u.ses = sesAfterOn s (holdEnded s) ∧ u.lkc = lkcAfterOn s ∧
      (s.ssw.trained = true → manualOpens s = false →
         Told p 0x10 .accepted [] (.lampState .striking .off 1 .request :: conditionNotices s (charged s.lamp)) s u) ∧
      Keeps [.lamp, .lsq, .inm, .ssw, .lkc, .ses, .ports, .store] s u

/-- When POWER_ON is refused, and what BFAULT does to it in OFF. An allowed POWER_ON is refused LAMP_EXPIRED in OFF
with an EXPIRED lamp, and LAMP_FAULT in FAULT_COOLING and FAULT, with nothing else changed. In OFF with BFAULT
asserted (and a lamp not EXPIRED) it is refused LAMP_FAULT, a BALLAST fault is recorded, a held power-on is dropped,
the lamp goes to FAULT with the lamp-hot flag clear, LAMP is marked dirty and an open confirm window closes. (R5,
R6, R8, R19, R31, R35, R120) -/
def Obligations.PowerOnRefused : Prop :=
  ∀ (p : PortId) (o : Byte) (a : Origin) (s : State),
    Taken p o a .powerOn s →
    Settles (.powerOn p o) s fun u =>
      (s.lsq.state = .off → condition s.lamp = .expired → OnlyReplied p 0x10 .refused [0x01] s u) ∧
      (s.lsq.state = .faultCooling ∨ s.lsq.state = .fault → OnlyReplied p 0x10 .refused [0x02] s u) ∧
      (s.lsq.state = .off → condition s.lamp ≠ .expired → s.lines.bfault = true →
         u.lsq = { s.lsq with state := .fault, held := none } ∧ u.lamp = cold (faulted .ballast s) ∧
         Marked .lamp s u ∧ u.ssw = darkened s.ssw ∧ u.lkc = windowClosed s.lkc ∧ u.ses = holdEnded s ∧
         Answers p 0x10 .refused [0x02] u ∧ Keeps [.lamp, .lsq, .ssw, .lkc, .ses, .ports, .store] s u)

/-- POWER_ON that waits, finds the lamp lit or brings it back. An allowed POWER_ON in a part that meets the
picture's laws: in OFF with the lamp found lit goes to WARMUP with no attempt, ACCEPTED; in OFF with the window full
is held, reason WINDOW, ACCEPTED; in STRIKING, WARMUP and ON changes nothing of the lamp, DONE; in OFF_PENDING takes
the lamp back to ON, DONE; in COOLING is held, with COOLING+WINDOW where the window is full and COOLING otherwise,
ACCEPTED. In each, with no session open and the service flag clear, a manual session opens; an UNTRAINED selection
is trained; LAMP and the store do not change. (R5, R6, R7, R8, R85, R114, R147, R148, R150) -/
def Obligations.PowerOnElsewhere : Prop :=
  ∀ (p : PortId) (o : Byte) (a : Origin) (s : State),
    Taken p o a .powerOn s → pictureFits s = true → s.lsq.state ≠ .faultCooling → s.lsq.state ≠ .fault →
    (s.lsq.state = .off → condition s.lamp ≠ .expired ∧ s.lines.bfault = false ∧
         (s.lines.lit = true ∨ s.windowFull = true)) →
    Settles (.powerOn p o) s fun u =>
      (s.lsq.state = .off → s.lines.lit = true → u.lsq = { warmed s.settings.warmupTime s.lsq with held := none } ∧
         Answers p 0x10 .accepted [] u ∧ u.ssw = firstSsw s { s.ssw with powerOffSince := false, mute := true } ∧
         u.ses = sesAfterOn s (holdEnded s)) ∧
      (s.lsq.state = .off → s.lines.lit = false → u.lsq = { s.lsq with held := some ⟨a, .window⟩ } ∧
         Answers p 0x10 .accepted [] u ∧ u.ssw = firstSsw s s.ssw ∧ u.ses = sesAfterOn s (holdEnded s)) ∧
      (s.lsq.state = .striking ∨ s.lsq.state = .warmup ∨ s.lsq.state = .on → u.lsq = s.lsq ∧
         Answers p 0x10 .done [] u ∧ u.ssw = firstSsw s s.ssw ∧ u.ses = sesAfterOn s s.ses) ∧
      (s.lsq.state = .offPending → u.lsq = { s.lsq with state := .on } ∧ Answers p 0x10 .done [] u ∧
         u.ses = sesAfterOn s (s.ses.map fun r => { r with deferred := false })) ∧
      (s.lsq.state = .offPending → muteFits s = true → u.ssw = firstSsw s { s.ssw with powerOffSince := false }) ∧
      (s.lsq.state = .cooling →
         u.lsq = { s.lsq with held := some ⟨a, if s.windowFull then .coolingWindow else .cooling⟩ } ∧
         Answers p 0x10 .accepted [] u ∧ u.ssw = firstSsw s s.ssw ∧ u.ses = sesAfterOn s (holdEnded s)) ∧
      u.inm = firstInm s ∧ u.lkc = lkcAfterOn s ∧
      Keeps [.lsq, .inm, .ssw, .lkc, .ses, .ports] s u

/-- POWER_OFF by the lamp state. An allowed POWER_OFF in a part that meets R5's law of the held power-on: in OFF and
COOLING it cancels a held power-on, DONE; in STRIKING it takes the lamp to COOLING with a full COOL, DONE; in WARMUP
and ON it takes the lamp to COOLING where the lit time has reached MIN_ON, DONE, and to OFF_PENDING otherwise,
ACCEPTED; in OFF_PENDING, FAULT_COOLING and FAULT it changes no lamp state, DONE. SSW clears the user mute and stops
the no-signal count. With no session open no other block changes but LKC's confirm window; with one open, whatever
session is open afterwards is a late start with its actions suppressed. (R5, R10, R11, R12, R79, R81, R151, R156) -/
def Obligations.PowerOffByState : Prop :=
  ∀ (p : PortId) (o : Byte) (a : Origin) (s : State),
    Taken p o a .powerOff s → heldFits s = true →
    Settles (.powerOff p o) s fun u =>
      (s.lsq.state = .off ∨ s.lsq.state = .cooling → u.lsq = { s.lsq with held := none } ∧ Answers p 0x11 .done [] u) ∧
      (s.lsq.state = .striking → u.lsq = cooled .cooling s.settings.cool s.lsq ∧ Answers p 0x11 .done [] u) ∧
      (s.lsq.state = .warmup ∨ s.lsq.state = .on → s.settings.minOn ≤ s.lsq.litTime →
         u.lsq = cooled .cooling s.settings.cool s.lsq ∧ Answers p 0x11 .done [] u) ∧
      (s.lsq.state = .warmup ∨ s.lsq.state = .on → s.lsq.litTime < s.settings.minOn →
         u.lsq = { s.lsq with state := .offPending, warmupTimer := none } ∧ Answers p 0x11 .accepted [] u) ∧
      (s.lsq.state = .offPending ∨ s.lsq.state = .faultCooling ∨ s.lsq.state = .fault → u.lsq = s.lsq ∧
         Answers p 0x11 .done [] u) ∧
      u.ssw.userMute = false ∧ u.ssw.nosigCount = 0 ∧ u.ssw.dimReport = false ∧ u.ssw.powerOffSince = true ∧
      (s.ses = none → Keeps [.lsq, .ssw, .lkc, .ports] s u) ∧
      (s.ses ≠ none → (∀ r ∈ u.ses, r.kind = .scheduled ∧ r.suppressed = true) ∧ u.lkc.hold = false ∧
         Keeps [.lsq, .ssw, .geo, .lkc, .ses, .ports] s u)

/-- LAMP_MODE and LAMP_CEILING. An allowed LAMP_MODE of 02h or 03h makes the requested mode ECO or FULL, and an
allowed LAMP_CEILING likewise the ceiling: DONE, with SETTINGS marked dirty where the value changes and nothing else
changed. Any other value is replied INVALID with nothing changed. (R21, R22) -/
def Obligations.PowerModesWritten : Prop :=
  ∀ (p : PortId) (o : Byte) (a : Origin) (m : Byte) (s : State),
    (Taken p o a (.lampMode m) s → m ≠ 2 → m ≠ 3 →
       Settles (.lampMode p o m) s fun u => OnlyReplied p 0x12 .invalid [] s u) ∧
    (Taken p o a (.lampMode m) s → m = 2 ∨ m = 3 →
       Settles (.lampMode p o m) s fun u => u.settings = { s.settings with mode := if m = 2 then .eco else .full } ∧
       u.sto = (markIf (s.settings.mode != if m = 2 then .eco else .full) .settings s).sto ∧
       Told p 0x12 .done [] [] s u ∧ Keeps [.settings, .ports, .store] s u) ∧
    (Taken p o a (.lampCeiling m) s → m ≠ 2 → m ≠ 3 →
       Settles (.lampCeiling p o m) s fun u => OnlyReplied p 0x62 .invalid [] s u) ∧
    (Taken p o a (.lampCeiling m) s → m = 2 ∨ m = 3 →
       Settles (.lampCeiling p o m) s fun u => u.settings =
         { s.settings with ceiling := if m = 2 then .eco else .full } ∧
       u.sto = (markIf (s.settings.ceiling != if m = 2 then .eco else .full) .settings s).sto ∧
       Told p 0x62 .done [] [] s u ∧ Keeps [.settings, .ports, .store] s u)

/-- SELECT trains the input it names. An allowed SELECT of an enabled input that is not both selected and LOCKED is
replied ACCEPTED: a scan is abandoned, the input is selected and driven on XSEL, MUTE asserted and the picture-ready
mark cleared; a SELECT record of the request's origin opens, superseding any record present; the path goes to
TRAINING and the monitor is given seek; an input left behind takes its unselected path state; the live keystone is
the input's preset and its warp is taken at once. With no record present before, SOURCE_STATE and then WARP_READY
(an order read by log entry 34) are all the notices raised; where a record is superseded, SOURCE_STATE with
SUPERSEDED and that record comes before them, at the port of the record's origin, or at every port for TIMETABLE and
PART. (R52, R62, R63, R64, R65, R66, R91, R99, R101) -/
def Obligations.SelectTrains : Prop :=
  ∀ (p : PortId) (o : Byte) (a : Origin) (b : Byte) (i : Fin 6) (s : State),
    Taken p o a (.select b) s → b.toNat = i.val → s.inputs.entries[i].enabled = true →
    ¬(s.ssw.selected = some i ∧ s.locked = true) →
    Settles (.select p o b) s fun u =>
      u.ssw = trainingSsw i a .select s.settings.switchTimeout (scanless s.ssw) ∧
      u.xsel = i.val ∧ u.inm.path[i] = .training ∧ u.inm.deb = s.inm.deb ∧ u.inm.mon = sought s.inm.mon ∧
      (∀ j, j ≠ i → u.inm.path[j] = if s.ssw.selected = some j then s.restPath j else s.inm.path[j]) ∧
      u.geo = tookWarp (presetWarp s i .select) (presetGeo s i) ∧ u.ses = supersededSes s ∧
      Answers p 0x20 .accepted [] u ∧ Keeps [.inm, .ssw, .geo, .ses, .ports] s u ∧
      (s.ssw.record = none →
         Told p 0x20 .accepted []
           [sourceTold s i (some .training) (some ⟨i, a, .select, false⟩),
            .warpReady (nextGeneration s.geo.active) i .select] s u) ∧
      (∀ r j, s.ssw.record = some r → s.ssw.selected = some j →
         Told p 0x20 .accepted []
           [sourceTold s i (some .training) (some ⟨i, a, .select, true⟩),
            .warpReady (nextGeneration s.geo.active) i .select] (superseding j r s) u)

/-- SELECT and RETRAIN that change nothing. An allowed SELECT is INVALID for an index above 5, refused
INPUT_DISABLED for a disabled input, and DONE for the selected input while its path is LOCKED. An allowed RETRAIN is
INVALID for an index above 5 and refused NOT_SELECTED for an input that is not selected. In each case nothing but
the reply changes. (R65, R67, R166) -/
def Obligations.SourceRequestsDeclined : Prop :=
  ∀ (p : PortId) (o : Byte) (a : Origin) (b : Byte) (i : Fin 6) (s : State),
    (Taken p o a (.select b) s → 5 < b.toNat → Settles (.select p o b) s fun u => OnlyReplied p 0x20 .invalid [] s u) ∧
    (Taken p o a (.select b) s → b.toNat = i.val → s.inputs.entries[i].enabled = false →
       Settles (.select p o b) s fun u => OnlyReplied p 0x20 .refused [0x04] s u) ∧
    (Taken p o a (.select b) s → b.toNat = i.val → s.inputs.entries[i].enabled = true → s.ssw.selected = some i →
       s.locked = true → Settles (.select p o b) s fun u => OnlyReplied p 0x20 .done [] s u) ∧
    (Taken p o a (.retrain b) s → 5 < b.toNat → Settles (.retrain p o b) s fun u => OnlyReplied p 0x21 .invalid [] s u) ∧
    (Taken p o a (.retrain b) s → b.toNat = i.val → s.ssw.selected ≠ some i →
       Settles (.retrain p o b) s fun u => OnlyReplied p 0x21 .refused [0x05] s u)

/-- RETRAIN trains the selected input in place. An allowed RETRAIN of the selected input, in whatever path state and
enabled or not, is replied ACCEPTED: a scan is abandoned, MUTE asserted and the picture-ready mark cleared; a
RETRAIN record of the request's origin opens, superseding any record present; the path goes to TRAINING and the
monitor is given seek. The live keystone stands; a warp pending on the LOCKED path is taken. With no record present
before, SOURCE_STATE and the WARP_READY of a pending warp are all the notices raised, in that order, which is the
model's choice of log entry 56; where a record is superseded, SOURCE_STATE with SUPERSEDED and that record comes
before them, at the port of the record's origin, or at every port for TIMETABLE and PART. (R52, R63, R64, R66, R67,
R91, R101) -/
def Obligations.RetrainTrains : Prop :=
  ∀ (p : PortId) (o : Byte) (a : Origin) (b : Byte) (i : Fin 6) (s : State),
    Taken p o a (.retrain b) s → b.toNat = i.val → s.ssw.selected = some i →
    Settles (.retrain p o b) s fun u =>
      u.ssw = trainingSsw i a .retrain s.settings.switchTimeout (scanless s.ssw) ∧
      u.inm = trainingInm i s.inm ∧ u.geo = leftGeo s ∧ u.ses = supersededSes s ∧
      Answers p 0x21 .accepted [] u ∧ Keeps [.inm, .ssw, .geo, .ses, .ports] s u ∧
      (s.ssw.record = none →
         Told p 0x21 .accepted []
           (sourceTold s i (some .training) (some ⟨i, a, .retrain, false⟩) :: leftNotice s) s u) ∧
      (∀ r, s.ssw.record = some r →
         Told p 0x21 .accepted []
           (sourceTold s i (some .training) (some ⟨i, a, .retrain, true⟩) :: leftNotice s) (superseding i r s) u)

/-- MUTE_SET. An allowed MUTE_SET of 01h sets the user mute on and asserts MUTE at once, DONE. One of 00h sets it
off, DONE, and leaves MUTE as it was in a part that releases MUTE only where R80 allows it. Any other value is
INVALID. Nothing else changes. (R79, R80) -/
def Obligations.UserMuteSet : Prop :=
  ∀ (p : PortId) (o : Byte) (a : Origin) (b : Byte) (s : State),
    Taken p o a (.muteSet b) s →
    Settles (.muteSet p o b) s fun u =>
      (b = 1 → u.ssw = { s.ssw with userMute := true, mute := true } ∧ Told p 0x22 .done [] [] s u ∧
         Keeps [.ssw, .ports] s u) ∧
      (b = 0 → muteFits s = true → u.ssw = { s.ssw with userMute := false } ∧ Told p 0x22 .done [] [] s u ∧
         Keeps [.ssw, .ports] s u) ∧
      (b ≠ 0 → b ≠ 1 → OnlyReplied p 0x22 .invalid [] s u)

/-- KEYSTONE sets or moves the live keystone. An allowed KEYSTONE of form ABSOLUTE or RELATIVE with v, h or both
replaces, or adds to, each live value it carries, clamped to -40..+40 and -30..+30, and keeps the other; the reply
carries both live values, CLAMPED exactly where a value was limited and DONE otherwise; the warp is recomputed with
the cause KEYSTONE, pending on a LOCKED path and taken at once on another. A form other than the two, a mark that
names nothing or a bit that names no field is INVALID with nothing changed. (R90, R92, R99, R101, R190) -/
def Obligations.KeystoneMoves : Prop :=
  ∀ (p : PortId) (o : Byte) (a : Origin) (k : RawKeystone) (i : Fin 6) (s : State),
    Taken p o a (.keystone k) s → s.ssw.selected = some i →
    Settles (.keystone p o k) s fun u =>
      (k.spare ≠ 0 ∨ (k.v = none ∧ k.h = none) ∨ 1 < k.form.toNat → OnlyReplied p 0x30 .invalid [] s u) ∧
      (k.spare = 0 → k.v ≠ none ∨ k.h ≠ none → k.form.toNat ≤ 1 →
         ((∀ b ∈ k.v, u.geo.liveV = clampSym 40 (if k.form = 1 then s.geo.liveV + b.toInt else b.toInt)) ∧
            (k.v = none → u.geo.liveV = s.geo.liveV) ∧
            (∀ b ∈ k.h, u.geo.liveH = clampSym 30 (if k.form = 1 then s.geo.liveH + b.toInt else b.toInt)) ∧
            (k.h = none → u.geo.liveH = s.geo.liveH) ∧
            u.geo =
              placedGeo s (s.warpAt i u.geo.liveV u.geo.liveH .keystone)
                { s.geo with liveV := u.geo.liveV, liveH := u.geo.liveH } ∧
            Told p 0x30
              (if (k.v.all fun b =>
                      decide
                        (-40 ≤ (if k.form = 1 then s.geo.liveV + b.toInt else b.toInt) ∧
                           (if k.form = 1 then s.geo.liveV + b.toInt else b.toInt) ≤ 40)) &&
                 (k.h.all fun b =>
                    decide
                      (-30 ≤ (if k.form = 1 then s.geo.liveH + b.toInt else b.toInt) ∧
                         (if k.form = 1 then s.geo.liveH + b.toInt else b.toInt) ≤ 30)) then .done else .clamped)
              [BitVec.ofInt 8 u.geo.liveV, BitVec.ofInt 8 u.geo.liveH]
              (placedNotice s (s.warpAt i u.geo.liveV u.geo.liveH .keystone)) s u ∧ Keeps [.geo, .ports] s u))

/-- PRESET_STORE and PANEL_SET. An allowed PRESET_STORE copies the live keystone into the selected input's preset,
marks INPUTS dirty and is replied DONE. An allowed PANEL_SET sets the panel size, each value clamped to 640..4,096
and 480..2,400, marks INPUTS dirty, recomputes the warp with the cause PANEL from the new size, and replies both
values, CLAMPED exactly where one was limited. Nothing else changes. (R86, R87, R93, R99, R101) -/
def Obligations.PresetAndPanelWritten : Prop :=
  ∀ (p : PortId) (o : Byte) (a : Origin) (w h : Half) (i : Fin 6) (s : State),
    s.ssw.selected = some i →
    (Taken p o a .presetStore s →
       Settles (.presetStore p o) s fun u => u.inputs =
         { s.inputs with
               entries := s.inputs.entries.set i
                   { s.inputs.entries[i] with presetV := s.geo.liveV, presetH := s.geo.liveH } } ∧
       Marked .inputs s u ∧ Told p 0x31 .done [] [] s u ∧ Keeps [.inputs, .ports, .store] s u) ∧
    (Taken p o a (.panelSet w h) s →
       Settles (.panelSet p o w h) s fun u => u.inputs =
         { s.inputs with panelW := max 640 (min w.toNat 4096), panelH := max 480 (min h.toNat 2400) } ∧
       u.geo = placedGeo s (u.warpAt i s.geo.liveV s.geo.liveH .panel) s.geo ∧ Marked .inputs s u ∧
       Told p 0x72 (if 640 ≤ w.toNat ∧ w.toNat ≤ 4096 ∧ 480 ≤ h.toNat ∧ h.toNat ≤ 2400 then .done else .clamped)
         (byte2 u.inputs.panelW ++ byte2 u.inputs.panelH) (placedNotice s (u.warpAt i s.geo.liveV s.geo.liveH .panel))
         s u ∧ Keeps [.inputs, .geo, .ports, .store] s u)

/-- Every corner of a warp lies inside the panel, its edges not too short. For a panel size, a source size (or none)
in their ranges, any aspect mode and a live keystone within -40..+40 and -30..+30: the fitted rectangle lies inside
the panel; every corner lies inside it; and the two corners of any edge, measured along that edge, are at least
11/16 of that edge's fitted length minus 2 pixels apart. (R86, R87, R88, R89, R90) -/
def Obligations.WarpStaysInPanel : Prop :=
  ∀ (pw ph : Nat) (src : Option (Nat × Nat)) (m : Aspect) (v h : Int) (i : Fin 6) (c : WarpCause) (w : Warp),
    Config.panelW.holds pw = true → Config.panelH.holds ph = true →
    (∀ z ∈ src, Config.activeW.holds z.1 = true ∧ Config.activeH.holds z.2 = true) → -40 ≤ v → v ≤ 40 → -30 ≤ h →
    h ≤ 30 → w = computeWarp pw ph src m v h i c →
    w.xf + w.wf ≤ pw ∧ w.yf + w.hf ≤ ph ∧
    (∀ q ∈ [w.tl, w.tr, w.br, w.bl], q.x < pw) ∧
    (∀ q ∈ [w.tl, w.tr, w.br, w.bl], q.y < ph) ∧
    11 * w.wf ≤ 16 * (w.tr.x - w.tl.x + 2) ∧ 11 * w.wf ≤ 16 * (w.br.x - w.bl.x + 2) ∧
    11 * w.hf ≤ 16 * (w.br.y - w.tr.y + 2) ∧ 11 * w.hf ≤ 16 * (w.bl.y - w.tl.y + 2)

/-- EXTEND moves the planned end. An allowed EXTEND is refused NO_SESSION with no session open, EXT_EXHAUSTED with
the allowance used, and NEXT_ENTRY where the new end (the least of the planned end plus EXT_MINUTES, the next start
of an entry on the session date, and 1,440) is the planned end; otherwise the planned end becomes the new end, one
extension more is used, warned is cleared, and the reply is DONE with the new end and the extensions left. Nothing
else changes. (R138, R153) -/
def Obligations.SessionExtended : Prop :=
  ∀ (p : PortId) (o : Byte) (a : Origin) (r : Session) (s : State),
    Taken p o a .extendEnd s →
    Settles (.extendEnd p o) s fun u =>
      (s.ses = none → OnlyReplied p 0x40 .refused [0x06] s u) ∧
      (s.ses = some r → r.allowance ≤ r.used → OnlyReplied p 0x40 .refused [0x07] s u) ∧
      (s.ses = some r → r.used < r.allowance → s.extendedEnd r = r.plannedEnd → OnlyReplied p 0x40 .refused [0x08] s u) ∧
      (s.ses = some r → r.used < r.allowance → s.extendedEnd r ≠ r.plannedEnd →
         u.ses = some { r with plannedEnd := s.extendedEnd r, used := r.used + 1, warned := false } ∧
         Told p 0x40 .done (byte2 (s.extendedEnd r) ++ [byte1 (r.allowance - (r.used + 1))]) [] s u ∧
         Keeps [.ses, .ports] s u) ∧
      s.extendedEnd r =
        min (r.plannedEnd + s.settings.extMinutes) (min ((s.nextStart r.date r.plannedEnd).getD 1440) 1440)

/-- END_SESSION closes the open session. An allowed END_SESSION is refused NO_SESSION with no session open. With one
open it is replied DONE and the session closes: the presenter hold is cleared, the live keystone returns to the
selected input's preset, and whatever session is open afterwards is a late start of another entry with its actions
suppressed; where TTE answers none, no session and no session level remain. With an end action POWER_OFF and the
service flag clear a lamp lit for MIN_ON goes to COOLING; with the service flag set, or an end action NONE, and no
deferred power-on, the lamp is left as it is. (R91, R114, R151, R155, R158, R159) -/
def Obligations.EndSessionCloses : Prop :=
  ∀ (p : PortId) (o : Byte) (a : Origin) (r : Session) (i : Fin 6) (s : State),
    Taken p o a .endSession s →
    Settles (.endSession p o) s fun u =>
      (s.ses = none → OnlyReplied p 0x41 .refused [0x06] s u) ∧
      (s.ses = some r → s.ssw.selected = some i → Answers p 0x41 .done [] u ∧ u.lkc.hold = false ∧
         u.geo.liveV = s.inputs.entries[i].presetV ∧ u.geo.liveH = s.inputs.entries[i].presetH ∧
         (∀ q ∈ u.ses, q.kind = .scheduled ∧ q.suppressed = true ∧ (q.slot = none ∨ q.slot ≠ r.slot)) ∧
         Keeps [.lsq, .ssw, .geo, .lkc, .ses, .ports] s u) ∧
      (s.ses = some r → s.lateAnswer r.slot s.cal.date (minuteOf s.cal.time) = none → u.ses = none ∧
         u.lkc.sessionLevel = none) ∧
      (s.ses = some r → r.endOff = true → r.deferred = false → s.lkc.service = false → s.lsq.state = .on →
         s.settings.minOn ≤ s.lsq.litTime → u.lsq = cooled .cooling s.settings.cool s.lsq) ∧
      (s.ses = some r → r.endOff = false ∨ s.lkc.service = true → r.deferred = false → u.lsq = s.lsq)

/-- TIME_SET sets the clock and keeps a session's remaining minutes. An allowed TIME_SET of an impossible date or
time is INVALID with nothing changed. Otherwise it is replied DONE, the date and time become those carried and the
clock-valid flag is set. An open session whose planned end is still ahead of the minute held keeps its remaining
minutes, at most up to minute 1,440 of the new date, and stands warned exactly where the new minute is at or after
its new warning point; of an open session whose planned end is not ahead nothing more is said than that its date
becomes the new one. With none open, an entry that TTE answers for the new date and minute opens on that date with
the way LATE in its SESSION_OPEN, its start actions carried out, or suppressed where the service flag is set, even
where its start action is NONE (log entry 41), and unwarned; where TTE answers none nothing opens. (R127, R138,
R145, R146, R147, R148, R149, R151, R160) -/
def Obligations.TimeSetSets : Prop :=
  ∀ (p : PortId) (o : Byte) (a : Origin) (d : RawDate) (t : RawTime) (r : Session) (f : Found) (s : State),
    Taken p o a (.timeSet d t) s →
    Settles (.timeSet p o d t) s fun u =>
      (validDate (dateOf d) = false ∨ validTime (timeOf t) = false → OnlyReplied p 0x50 .invalid [] s u) ∧
      (validDate (dateOf d) = true → validTime (timeOf t) = true →
         u.cal = { s.cal with date := dateOf d, time := timeOf t, valid := true } ∧ Answers p 0x50 .done [] u) ∧
      (validDate (dateOf d) = true → validTime (timeOf t) = true → s.ses = some r →
         minuteOf s.cal.time < r.plannedEnd →
         u.ses =
           some
             { r with
                 date := dateOf d,
                 plannedEnd := min (minuteOf (timeOf t) + (r.plannedEnd - minuteOf s.cal.time)) 1440,
                 warned := decide
                     (min (minuteOf (timeOf t) + (r.plannedEnd - minuteOf s.cal.time)) 1440 ≤ minuteOf (timeOf t) +
                        r.warnLead) } ∧ Keeps [.cal, .ses, .ports] s u) ∧
      (validDate (dateOf d) = true → validTime (timeOf t) = true → s.ses ≠ none →
         u.ses.map (fun q => q.date) = some (dateOf d)) ∧
      (validDate (dateOf d) = true → validTime (timeOf t) = true → s.ses = none →
         { s with cal := { s.cal with valid := true } }.lateStart (dateOf d) (minuteOf (timeOf t)) = none →
         u.ses = none ∧ Keeps [.cal, .ports] s u) ∧
      (validDate (dateOf d) = true → validTime (timeOf t) = true → s.ses = none →
         { s with cal := { s.cal with valid := true } }.lateStart (dateOf d) (minuteOf (timeOf t)) = some f →
         Opened .late f (dateOf d) s.lkc.service none
           { s with cal := { s.cal with date := dateOf d, time := timeOf t, valid := true } } u ∧
         u.ses.map (fun q => (q.kind, q.slot, q.plannedEnd, q.level, q.date, q.suppressed)) =
           some (.scheduled, some f.slot, f.entry.stop, f.entry.level, dateOf d, s.lkc.service))

/-- ENTRY_WRITE checks, places and refuses. An allowed ENTRY_WRITE is INVALID, with nothing changed, for a mark bit
that names no field, a slot above 47 or an entry that R130 rejects: an enabled code, form, start action, end action
or level outside its table, an empty day set, a date that is none, a start above 1,435, an end below start + 5 or
above 1,440, a source above 5 other than FFh, or an allowance above 4. With no slot named and none free it is FULL;
an entry that conflicts is CONFLICT with the lowest conflicting slot; neither changes anything. Otherwise the entry
stands in the slot named, or else in the lowest free one, TIMETABLE is marked dirty, and the reply carries the slot,
CLAMPED where the warn lead was above 15 and DONE otherwise. The entry written holds every field carried, the warn
lead limited to 15; of the weekday form it holds the seven bits of the day set alone (log entry 58). (R129, R130,
R131, R132, R190) -/
def Obligations.EntryWritten : Prop :=
  ∀ (p : PortId) (o : Byte) (a : Origin) (w : RawEntryWrite) (e : Entry) (i j : Fin 48) (s : State),
    Taken p o a (.entryWrite w) s →
    Settles (.entryWrite p o w) s fun u =>
      (w.spare ≠ 0 ∨ (w.slot.any fun b => decide (47 < b.toNat)) = true ∨ entryOf w.entry = none →
         OnlyReplied p 0x51 .invalid [] s u) ∧
      (w.spare = 0 → entryOf w.entry = some e → w.slot = none → (∀ k : Fin 48, s.timetable.slots[k] ≠ none) →
         OnlyReplied p 0x51 .full [] s u) ∧
      (w.spare = 0 → entryOf w.entry = some e →
         (w.slot.map BitVec.toNat = some i.val ∨ w.slot = none ∧ s.timetable.freeSlot = some i) →
         s.timetable.conflict i e = some j → OnlyReplied p 0x51 .conflict [BitVec.ofNat 8 j.val] s u) ∧
      (w.spare = 0 → entryOf w.entry = some e →
         (w.slot.map BitVec.toNat = some i.val ∨ w.slot = none ∧ s.timetable.freeSlot = some i) →
         s.timetable.conflict i e = none →
         u.timetable = { s.timetable with slots := s.timetable.slots.set i (some e) } ∧ Marked .timetable s u ∧
         Told p 0x51 (if 15 < w.entry.warnLead.toNat then .clamped else .done) [BitVec.ofNat 8 i.val] [] s u ∧
         Keeps [.timetable, .ports, .store] s u) ∧
      (entryOf w.entry = none ↔
         1 < w.entry.enabled.toNat ∨ 1 < w.entry.form.toNat ∨
           (w.entry.form = 0 ∧ w.entry.day.year.toNat % 128 = 0) ∨
           (w.entry.form = 1 ∧ validDate (dateOf w.entry.day) = false) ∨ 1435 < w.entry.start.toNat ∨
           w.entry.stop.toNat < w.entry.start.toNat + 5 ∨ 1440 < w.entry.stop.toNat ∨
           1 < w.entry.startAction.toNat ∨ 1 < w.entry.endAction.toNat ∨
           (5 < w.entry.source.toNat ∧ w.entry.source ≠ 0xFF) ∨ 3 < w.entry.level.toNat ∨
           4 < w.entry.allowance.toNat) ∧
      (entryOf w.entry = some e →
         e.enabled = (w.entry.enabled == 1) ∧ e.powerOn = (w.entry.startAction == 1) ∧
         e.powerOff = (w.entry.endAction == 1) ∧ levelCode e.level = w.entry.level ∧
         (w.entry.form = 0 ∧ e.days = .weekly (w.entry.day.year.extractLsb' 0 7) ∨
            w.entry.form = 1 ∧ e.days = .dated (dateOf w.entry.day))) ∧
      (entryOf w.entry = some e → e.start = w.entry.start.toNat ∧ e.stop = w.entry.stop.toNat ∧
         e.warnLead = min w.entry.warnLead.toNat 15 ∧ e.allowance = w.entry.allowance.toNat ∧
         (w.entry.source = 0xFF ∧ e.source = none ∨ e.source.map Fin.val = some w.entry.source.toNat) ∧
         entryOk e = true) ∧
      (s.timetable.conflict i e = some j →
         (j ≠ i ∧ (∃ e' ∈ s.timetable.slots[j], conflicts e e' = true) ∧ ∀ k : Fin 48, k < j → k ≠ i →
            ∀ e' ∈ s.timetable.slots[k], conflicts e e' = false))

/-- ENTRY_DELETE frees a slot. An allowed ENTRY_DELETE of a slot above 47 is INVALID. Of an occupied slot it frees
the slot, marks TIMETABLE dirty and is replied DONE. Of a free slot it is replied DONE and changes nothing. The
session record does not change in any case. (R133) -/
def Obligations.EntryDeleted : Prop :=
  ∀ (p : PortId) (o : Byte) (a : Origin) (b : Byte) (i : Fin 48) (s : State),
    Taken p o a (.entryDelete b) s →
    Settles (.entryDelete p o b) s fun u =>
      (47 < b.toNat → OnlyReplied p 0x52 .invalid [] s u) ∧
      (b.toNat = i.val → s.timetable.slots[i] ≠ none →
         u.timetable = { s.timetable with slots := s.timetable.slots.set i none } ∧ Marked .timetable s u ∧
         Told p 0x52 .done [] [] s u ∧ Keeps [.timetable, .ports, .store] s u) ∧
      (b.toNat = i.val → s.timetable.slots[i] = none → OnlyReplied p 0x52 .done [] s u) ∧
      u.ses = s.ses

/-- HOLIDAY_ADD and HOLIDAY_REMOVE. An allowed HOLIDAY_ADD or HOLIDAY_REMOVE of an impossible date is INVALID.
Adding a date already listed, or removing one not listed, is DONE with nothing changed; adding a new date to 16 is
FULL with nothing changed. Otherwise the date joins the list, which stays ascending if it was, or leaves it, the
others keeping their order; TIMETABLE is marked dirty and the reply is DONE. Nothing else changes. (R135, R136) -/
def Obligations.HolidaysKept : Prop :=
  ∀ (p : PortId) (o : Byte) (a : Origin) (d : RawDate) (s : State),
    (Taken p o a (.holidayAdd d) s → validDate (dateOf d) = false →
       Settles (.holidayAdd p o d) s fun u => OnlyReplied p 0x53 .invalid [] s u) ∧
    (Taken p o a (.holidayAdd d) s → validDate (dateOf d) = true → dateOf d ∈ s.timetable.holidays →
       Settles (.holidayAdd p o d) s fun u => OnlyReplied p 0x53 .done [] s u) ∧
    (Taken p o a (.holidayAdd d) s → validDate (dateOf d) = true → dateOf d ∉ s.timetable.holidays →
       16 ≤ s.timetable.holidays.length → Settles (.holidayAdd p o d) s fun u => OnlyReplied p 0x53 .full [] s u) ∧
    (Taken p o a (.holidayAdd d) s → validDate (dateOf d) = true → dateOf d ∉ s.timetable.holidays →
       s.timetable.holidays.length < 16 →
       (Settles (.holidayAdd p o d) s fun u => u.timetable.holidays.Perm (dateOf d :: s.timetable.holidays) ∧
          u.timetable.slots = s.timetable.slots ∧
          (s.timetable.holidays.all validDate = true → ascending s.timetable.holidays = true →
               ascending u.timetable.holidays = true) ∧ Marked .timetable s u ∧ Told p 0x53 .done [] [] s u ∧
          Keeps [.timetable, .ports, .store] s u)) ∧
    (Taken p o a (.holidayRemove d) s → validDate (dateOf d) = false →
       Settles (.holidayRemove p o d) s fun u => OnlyReplied p 0x54 .invalid [] s u) ∧
    (Taken p o a (.holidayRemove d) s → validDate (dateOf d) = true → dateOf d ∉ s.timetable.holidays →
       Settles (.holidayRemove p o d) s fun u => OnlyReplied p 0x54 .done [] s u) ∧
    (Taken p o a (.holidayRemove d) s → validDate (dateOf d) = true → dateOf d ∈ s.timetable.holidays →
       Settles (.holidayRemove p o d) s fun u => u.timetable =
         { s.timetable with holidays := s.timetable.holidays.erase (dateOf d) } ∧ Marked .timetable s u ∧
       Told p 0x54 .done [] [] s u ∧ Keeps [.timetable, .ports, .store] s u)

/-- LAMP_REPLACE closes one account and opens another. An allowed LAMP_REPLACE outside OFF and FAULT is refused
LAMP_BUSY with nothing changed. In OFF and FAULT it is replied DONE: the account, with its condition and the removed
date, joins the history as the newest of at most 8; the counters go to 0, the installed date to CAL's with its valid
mark, the lamp-hot flag and the fault record are cleared, the limits and STRIKE_WEAR stand, and LAMP is marked
dirty. From FAULT the lamp goes to OFF, with LAMP_STATE and the cause CLEAR; in OFF nothing else changes. (R23, R38,
R39, R40, R41) -/
def Obligations.LampReplaced : Prop :=
  ∀ (p : PortId) (o : Byte) (a : Origin) (s : State),
    Taken p o a .lampReplace s →
    Settles (.lampReplace p o) s fun u =>
      (s.lsq.state ≠ .off → s.lsq.state ≠ .fault → OnlyReplied p 0x60 .refused [0x03] s u) ∧
      (s.lsq.state = .off ∨ s.lsq.state = .fault →
         u.lamp =
           { s.lamp with
                 cur :=
                     { hours := 0,
                       sub := 0,
                       litSeconds := 0,
                       strikes := 0,
                       failed := 0,
                       installed := s.cal.date,
                       installedValid := s.cal.valid,
                       hot := false },
                 history := s.lamp.history.drop (s.lamp.history.length + 1 - 8) ++
                     [{ hours := s.lamp.cur.hours,
                        sub := s.lamp.cur.sub,
                        litSeconds := s.lamp.cur.litSeconds,
                        strikes := s.lamp.cur.strikes,
                        failed := s.lamp.cur.failed,
                        installed := s.lamp.cur.installed,
                        installedValid := s.lamp.cur.installedValid,
                        removed := s.cal.date,
                        removedValid := s.cal.valid,
                        condition := condition s.lamp }],
                 fault := none } ∧ Marked .lamp s u) ∧
      (s.lsq.state = .off → Told p 0x60 .done [] [] s u ∧ Keeps [.lamp, .ports, .store] s u) ∧
      (s.lsq.state = .fault → u.lsq = { s.lsq with state := .off } ∧ u.ssw = darkened s.ssw ∧
         u.lkc = windowClosed s.lkc ∧ Told p 0x60 .done [] [.lampState .off .fault 0 .clear] s u ∧
         Keeps [.lamp, .lsq, .ssw, .lkc, .ports, .store] s u)

/-- LAMP_LIMITS. In a part whose records keep their ranges: an allowed LAMP_LIMITS that carries neither limit, or
whose mark has a bit that names none, is INVALID with nothing changed. Otherwise each limit carried is clamped to
100..65,000 and then WARN_HOURS to at most LIFE_HOURS; LAMP is marked dirty, the condition is evaluated (a change
into WORN or EXPIRED raises its notice), and the reply carries both limits, CLAMPED exactly where a step changed a
value. Nothing else changes. (R32, R33, R34, R190) -/
def Obligations.LampLimitsWritten : Prop :=
  ∀ (p : PortId) (o : Byte) (a : Origin) (w : RawLimits) (s : State),
    Taken p o a (.lampLimits w) s → recordsFit s = true →
    Settles (.lampLimits p o w) s fun u =>
      (w.spare ≠ 0 ∨ (w.warn = none ∧ w.life = none) → OnlyReplied p 0x61 .invalid [] s u) ∧
      (w.spare = 0 → w.warn ≠ none ∨ w.life ≠ none →
         u.lamp =
           { s.lamp with
                 lifeHours := ((w.life.map fun n => max 100 (min n.toNat 65000)).getD s.lamp.lifeHours),
                 warnHours := min ((w.warn.map fun n => max 100 (min n.toNat 65000)).getD s.lamp.warnHours)
                     ((w.life.map fun n => max 100 (min n.toNat 65000)).getD s.lamp.lifeHours) } ∧ Marked .lamp s u ∧
         Keeps [.lamp, .ports, .store] s u ∧
         Told p 0x61
           (if (w.life.all fun n => decide (100 ≤ n.toNat ∧ n.toNat ≤ 65000)) &&
              (w.warn.all fun n => decide (100 ≤ n.toNat ∧ n.toNat ≤ 65000)) &&
              decide
                (((w.warn.map fun n => max 100 (min n.toNat 65000)).getD s.lamp.warnHours) ≤
                   ((w.life.map fun n => max 100 (min n.toNat 65000)).getD s.lamp.lifeHours)) then .done else .clamped)
           (byte2 u.lamp.warnHours ++ byte2 u.lamp.lifeHours) (conditionNotices s u.lamp) s u)

/-- FAULT_CLEAR releases the lamp from its fault state. An allowed FAULT_CLEAR is always replied DONE. With no fault
record held nothing changes. With one held the record is cleared and LAMP marked dirty; from FAULT the lamp goes to
OFF, from FAULT_COOLING to COOLING with the cool timer running on, each with LAMP_STATE and the cause CLEAR. The
strike log stands. (R19, R20, R23, R120) -/
def Obligations.FaultCleared : Prop :=
  ∀ (p : PortId) (o : Byte) (a : Origin) (s : State),
    Taken p o a .faultClear s →
    Settles (.faultClear p o) s fun u =>
      (s.lamp.fault = none → OnlyReplied p 0x63 .done [] s u) ∧
      (s.lamp.fault ≠ none → u.lamp = { s.lamp with fault := none } ∧ Marked .lamp s u ∧
         Keeps [.lamp, .lsq, .ssw, .lkc, .ports, .store] s u) ∧
      (s.lamp.fault ≠ none → s.lsq.state = .fault → u.lsq = { s.lsq with state := .off } ∧ u.ssw = darkened s.ssw ∧
         u.lkc = windowClosed s.lkc ∧ Told p 0x63 .done [] [.lampState .off .fault 0 .clear] s u) ∧
      (s.lamp.fault ≠ none → s.lsq.state = .faultCooling → u.lsq = { s.lsq with state := .cooling } ∧
         u.ssw = darkened s.ssw ∧ u.lkc = windowClosed s.lkc ∧
         Told p 0x63 .done [] [.lampState .cooling .faultCooling 0 .clear] s u)

/-- INPUT_CONFIG writes the fields it carries. An allowed INPUT_CONFIG is INVALID, with nothing changed, for an
index above 5, no field, a mark bit that names none, a kind, aspect mode or enabled code outside its table, a
priority above 7, or a label longer than 12 or with a character outside 20h..7Eh. Otherwise the fields carried are
written, a preset clamped, the others and every other input kept; INPUTS is marked dirty; the reply is CLAMPED
exactly where a preset value was limited. For an unselected input whose enabled flag is not carried nothing else
changes; for the selected one a preset carried becomes the live keystone, and an aspect mode carried without one
recomputes the warp. Disabling an unselected input makes its path DISABLED; enabling it makes the path PRESENT or
ABSENT by its debounced presence, and one found PRESENT is as a presence rise: while AUTOSCAN is on, no scan is in
progress and the TRAINED selection is in NO_SIGNAL or ABSENT a scan starts; it joins the list of a scan that is
trying, unless it is the home input or listed; it sets the rescan mark of one that is returning, unless it is the
home input; and otherwise nothing more changes. An enabled flag written as it stood changes nothing more (log entry
63). For the selected input of a TRAINED selection the enabled flag changes nothing but the record; for an UNTRAINED
selection the path follows at once, with SOURCE_STATE where it changes (log entry 33). (R46, R47, R48, R50, R64,
R74, R75, R91, R99, R189, R190, R77) -/
def Obligations.InputConfigured : Prop :=
  ∀ (p : PortId) (o : Byte) (a : Origin) (b : Byte) (i : Fin 6) (c : RawInputConfig) (s : State),
    Taken p o a (.inputConfig b c) s →
    Settles (.inputConfig p o b c) s fun u =>
      (5 < b.toNat ∨ c.spare ≠ 0 ∨ configNames c = false ∨ (c.kind.any fun x => decide (3 < x.toNat)) = true ∨
         (c.enabled.any fun x => decide (1 < x.toNat)) = true ∨
         (c.priority.any fun x => decide (7 < x.toNat)) = true ∨ (c.aspect.any fun x => decide (2 < x.toNat)) = true ∨
         (c.label.any fun l => decide (12 < l.len.toNat) || !((l.chars.take l.len.toNat).all labelChar)) = true →
         OnlyReplied p 0x70 .invalid [] s u) ∧
      (b.toNat = i.val → c.spare = 0 → configNames c = true → configEntry c s.inputs.entries[i] ≠ none →
         ((∀ x, x ≠ i → u.inputs.entries[x] = s.inputs.entries[x]) ∧
            { s.inputs with entries := u.inputs.entries } = u.inputs ∧
            (c.kind.map BitVec.toNat).getD (inputKindCode s.inputs.entries[i].kind).toNat =
              (inputKindCode u.inputs.entries[i].kind).toNat ∧
            u.inputs.entries[i].enabled = (c.enabled.map (· == 1)).getD s.inputs.entries[i].enabled ∧
            u.inputs.entries[i].label =
              (c.label.map fun l => l.chars.take l.len.toNat).getD s.inputs.entries[i].label ∧
            u.inputs.entries[i].priority = (c.priority.map BitVec.toNat).getD s.inputs.entries[i].priority ∧
            (c.aspect.map BitVec.toNat).getD (aspectCode s.inputs.entries[i].aspect).toNat =
              (aspectCode u.inputs.entries[i].aspect).toNat ∧
            u.inputs.entries[i].presetV =
              (c.preset.map fun z => clampSym 40 z.1.toInt).getD s.inputs.entries[i].presetV ∧
            u.inputs.entries[i].presetH =
              (c.preset.map fun z => clampSym 30 z.2.toInt).getD s.inputs.entries[i].presetH ∧
            u.inputs.entries[i].lastTiming = s.inputs.entries[i].lastTiming ∧ Marked .inputs s u ∧
            Answers p 0x70
              (if c.preset.all fun z => decide (-40 ≤ z.1.toInt ∧ z.1.toInt ≤ 40 ∧ -30 ≤ z.2.toInt ∧ z.2.toInt ≤ 30)
                 then .done else .clamped) [] u ∧ Keeps [.inputs, .inm, .ssw, .geo, .ses, .ports, .store] s u)) ∧
      (b.toNat = i.val → c.spare = 0 → configNames c = true → configEntry c s.inputs.entries[i] ≠ none →
         s.ssw.selected ≠ some i → c.enabled = none → Keeps [.inputs, .ports, .store] s u) ∧
      (b.toNat = i.val → c.spare = 0 → configNames c = true → configEntry c s.inputs.entries[i] ≠ none →
         s.ssw.selected = some i → c.preset ≠ none →
         u.geo =
           placedGeo s (presetWarp u i .config)
             { s.geo with liveV := u.inputs.entries[i].presetV, liveH := u.inputs.entries[i].presetH }) ∧
      (b.toNat = i.val → c.spare = 0 → configEntry c s.inputs.entries[i] ≠ none → s.ssw.selected = some i →
         c.preset = none → c.aspect ≠ none → u.geo = placedGeo s (u.warpAt i s.geo.liveV s.geo.liveH .config) s.geo) ∧
      (b.toNat = i.val → c.spare = 0 → configEntry c s.inputs.entries[i] ≠ none → s.ssw.selected ≠ some i →
         c.enabled = some 0 → s.inputs.entries[i].enabled = true →
         u.inm = { s.inm with path := s.inm.path.set i .disabled } ∧ Keeps [.inputs, .inm, .ports, .store] s u) ∧
      (b.toNat = i.val → c.spare = 0 → configEntry c s.inputs.entries[i] ≠ none → s.ssw.selected ≠ some i →
         c.enabled = some 1 → s.inputs.entries[i].enabled = false →
         s.inm.deb[i].presence = false ∨
           (s.ssw.phase = .none ∧ (s.inputs.autoscan = false ∨ s.ssw.trained = false ∨
             (s.selPath ≠ some .noSignal ∧ s.selPath ≠ some .absent))) →
         u.inm =
           { s.inm with path := s.inm.path.set i (if s.inm.deb[i].presence = true then .present else .absent) } ∧
         Keeps [.inputs, .inm, .ports, .store] s u) ∧
      (∀ h, b.toNat = i.val → c.spare = 0 → configEntry c s.inputs.entries[i] ≠ none → h ≠ i →
         c.enabled = some 1 → s.inputs.entries[i].enabled = false → s.inm.deb[i].presence = true →
         s.inputs.autoscan = true → s.ssw.phase = .none → s.ssw.trained = true → s.ssw.selected = some h →
         s.inm.path[h] = .noSignal ∨ s.inm.path[h] = .absent → s.ssw.record = none →
         ScanStarts h { s with inputs := u.inputs } u) ∧
      (b.toNat = i.val → c.spare = 0 → configEntry c s.inputs.entries[i] ≠ none → s.ssw.selected ≠ some i →
         c.enabled = some 1 → s.inputs.entries[i].enabled = false → s.inm.deb[i].presence = true →
         s.ssw.phase ≠ .none →
         u.inm = { s.inm with path := s.inm.path.set i .present } ∧
         u.ssw =
           (if s.ssw.phase = .trying then
              { s.ssw with
                  scanList :=
                    if s.ssw.home = some i ∨ i ∈ s.ssw.scanList then s.ssw.scanList else s.ssw.scanList ++ [i] }
            else { s.ssw with rescan := if s.ssw.home = some i then s.ssw.rescan else true }) ∧
         Keeps [.inputs, .inm, .ssw, .ports, .store] s u) ∧
      (b.toNat = i.val → c.spare = 0 → configEntry c s.inputs.entries[i] ≠ none → s.onScreen i = true →
         c.enabled ≠ none → c.preset = none → c.aspect = none →
         Keeps [.inputs, .ports, .store] s u) ∧
      (b.toNat = i.val → c.spare = 0 → configNames c = true → configEntry c s.inputs.entries[i] ≠ none →
         c.preset = none → c.aspect = none →
         c.enabled = some (if s.inputs.entries[i].enabled = true then 1 else 0) →
         Keeps [.inputs, .ports, .store] s u) ∧
      (b.toNat = i.val → c.spare = 0 → configEntry c s.inputs.entries[i] ≠ none → s.ssw.selected = some i →
         s.ssw.trained = false → c.preset = none → c.aspect = none →
         c.enabled = some (if s.inputs.entries[i].enabled = true then 0 else 1) →
         u.inm = { s.inm with path := s.inm.path.set i (u.restPath i) } ∧
         Told p 0x70 .done []
           (if u.restPath i = s.inm.path[i] then [] else [sourceTold u i (some (u.restPath i)) s.ssw.record]) s u ∧
         Keeps [.inputs, .inm, .ports, .store] s u)

/-- TIMING_LOAD writes an entry or takes one out of use, and the selected path follows. An allowed TIMING_LOAD of an
index above 23 is INVALID, as is a write with a field outside its range or a min above its max; nothing changes. A
write puts the entry in use with every field carried; taking out of use keeps its other fields; each marks TIMINGS
dirty and is DONE, and INPUTS is marked where a last timing index changes. An entry left as it stood leads to
nothing more. A changed entry out of use makes absent each last timing index that names it. With the selected path
neither LOCKED nor UNSUPPORTED nothing more happens. Otherwise the last stable measurement of a TRAINED selection is
classified against the table as it now stands, and the entry held with it replaced (log entry 36). LOCKED with its
last timing index found again: nothing where that is not the entry changed, and where it is the warp is recomputed
(cause RECLASS) and pends, the lock and MUTE unchanged. LOCKED with another entry found, and UNSUPPORTED with any: a
lock at that entry, the warp pending, a scan and its rescan mark ended (log entry 62), MUTE asserted and
SOURCE_STATE raised. LOCKED with none found and no switch record: UNSUPPORTED, MUTE asserted, the picture-ready mark
cleared, SOURCE_STATE raised and then the WARP_READY of a pending warp taken (log entry 56); the no-signal count
then runs in WARMUP, ON and OFF_PENDING unless a POWER_OFF has been taken. UNSUPPORTED with none found: nothing.
(R56, R57, R58, R59, R60, R64, R68, R73, R81, R99, R101) -/
def Obligations.TimingsWritten : Prop :=
  ∀ (p : PortId) (o : Byte) (a : Origin) (b : Byte) (k : Fin 24) (t : RawTiming) (x : Option RawTiming)
    (e : TimingEntry) (i : Fin 6) (j : Fin 24) (m : Stable) (n s : State),
    (Taken p o a (.timingWrite b t) s → 23 < b.toNat ∨ timingOf t = none →
       Settles (.timingLoadWrite p o b t) s fun u => OnlyReplied p 0x71 .invalid [] s u) ∧
    (Taken p o a (.timingOut b) s → 23 < b.toNat →
       Settles (.timingLoadOutOfUse p o b) s fun u => OnlyReplied p 0x71 .invalid [] s u) ∧
    (Taken p o a (.timingWrite b t) s → b.toNat = k.val → timingOf t ≠ none →
       (Settles (.timingLoadWrite p o b t) s fun u => u.timings =
            s.timings.set k
              ⟨true, t.linesMin.toNat, t.linesMax.toNat, t.periodMin.toNat, t.periodMax.toNat, t.width.toNat,
                 t.height.toNat⟩ ∧ timingOk u.timings[k] = true ∧ Answers p 0x71 .done [] u ∧
          (markDirty .timings u).sto = u.sto ∧ Keeps [.timings, .inputs, .inm, .ssw, .geo, .ses, .ports, .store] s u ∧
          (s.selPath ≠ some .locked → s.selPath ≠ some .unsupported → Marked .timings s u ∧
             Told p 0x71 .done [] [] s u ∧ Keeps [.timings, .ports, .store] s u))) ∧
    (Taken p o a (.timingOut b) s → b.toNat = k.val →
       (Settles (.timingLoadOutOfUse p o b) s fun u => u.timings =
            s.timings.set k { s.timings[k] with inUse := false } ∧ Answers p 0x71 .done [] u ∧
          (markDirty .timings u).sto = u.sto ∧ Keeps [.timings, .inputs, .inm, .ssw, .geo, .ses, .ports, .store] s u ∧
          (s.timings[k].inUse = true → s.selPath ≠ some .locked → s.selPath ≠ some .unsupported →
             u.inputs =
               { s.inputs with
                     entries := s.inputs.entries.map fun e => if e.lastTiming = some k
                         then { e with lastTiming := none } else e } ∧ Keeps [.timings, .inputs, .ports, .store] s u))) ∧
    (Taken p o a (timingAsked b x) s → (∀ y ∈ x, timingOf y ≠ none) → b.toNat = k.val → e = timingLeft s.timings[k] x →
       (Settles (timingRow p o b x) s fun u => u.timings = s.timings.set k e ∧
          (u.inputs ≠ s.inputs → .inputs ∈ u.sto.dirty) ∧
          (s.timings[k] = e → Marked .timings s u ∧ Told p 0x71 .done [] [] s u ∧
             Keeps [.timings, .ports, .store] s u) ∧
          (s.timings[k] ≠ e → ∀ y, s.ssw.selected ≠ some y → u.inputs.entries[y] = (retimed k e s).inputs.entries[y]) ∧
          (s.timings[k] ≠ e → s.selPath ≠ some .locked → s.selPath ≠ some .unsupported →
             u.inputs = (retimed k e s).inputs ∧ Told p 0x71 .done [] [] s u ∧
             Keeps [.timings, .inputs, .ports, .store] s u))) ∧
    (Taken p o a (timingAsked b x) s → (∀ y ∈ x, timingOf y ≠ none) → b.toNat = k.val → e = timingLeft s.timings[k] x →
       s.timings[k] ≠ e → n = retimed k e s → s.onScreen i = true → s.inm.mon.lastStable = some m →
       (Settles (timingRow p o b x) s fun u =>
          (s.inm.path[i] = .locked → classify n.timings m.measure = some j → n.inputs.entries[i].lastTiming = some j →
             u.inputs = n.inputs ∧
             u.inm = { s.inm with mon := { s.inm.mon with lastStable := some ⟨m.measure, some j⟩ } } ∧
             u.geo =
               (if j = k then { s.geo with pendingWarp := some (n.warpAt i s.geo.liveV s.geo.liveH .reclass) }
                else s.geo) ∧
             Told p 0x71 .done [] [] s u ∧ Keeps [.timings, .inputs, .inm, .geo, .ports, .store] s u) ∧
          (s.inm.path[i] = .locked ∧ n.inputs.entries[i].lastTiming ≠ some j ∨ s.inm.path[i] = .unsupported →
             classify n.timings m.measure = some j →
             LocksAt i j m.measure n u ∧
             Told p 0x71 .done [] [sourceTold u i (some .locked) s.ssw.record] s u) ∧
          (s.inm.path[i] = .locked → classify n.timings m.measure = none → s.ssw.record = none →
             u.inputs = n.inputs ∧
             u.inm =
               { s.inm with
                   path := s.inm.path.set i .unsupported,
                   mon := { s.inm.mon with lastStable := some ⟨m.measure, none⟩ } } ∧
             u.ssw = outcomeSsw s.ssw ∧ u.geo = leftGeo s ∧
             u.nosigRunning = (litState s.lsq.state && s.ssw.trained && !s.ssw.powerOffSince) ∧
             Told p 0x71 .done [] (sourceTold u i (some .unsupported) none :: leftNotice s) s u ∧
             Keeps [.timings, .inputs, .inm, .ssw, .geo, .ports, .store] s u) ∧
          (s.inm.path[i] = .unsupported → classify n.timings m.measure = none →
             u.inputs = n.inputs ∧
             u.inm = { s.inm with mon := { s.inm.mon with lastStable := some ⟨m.measure, none⟩ } } ∧
             Told p 0x71 .done [] [] s u ∧ Keeps [.timings, .inputs, .inm, .ports, .store] s u))) ∧
    (timingOf t = none ↔
       ¬(200 ≤ t.linesMin.toNat ∧ t.linesMin.toNat ≤ t.linesMax.toNat ∧ t.linesMax.toNat ≤ 4095 ∧
           8000 ≤ t.periodMin.toNat ∧ t.periodMin.toNat ≤ t.periodMax.toNat ∧ t.periodMax.toNat ≤ 50000 ∧
           320 ≤ t.width.toNat ∧ t.width.toNat ≤ 4096 ∧ 200 ≤ t.height.toNat ∧ t.height.toNat ≤ 2400))

/-- GUARD_SET writes its settings together, or none of them. An allowed GUARD_SET is INVALID, with nothing changed,
for a mark bit that names no setting, an AUTO_DIM or AUTOSCAN other than 00h and 01h, a POWER_ON_INPUT above 5 or a
MANUAL_LEVEL above SECURED. Otherwise every setting carried takes its value, clamped to its range, and the others
stand; the reply is CLAMPED exactly where a value was limited. The settings of SETTINGS, STRIKE_WEAR (in LAMP) and
AUTOSCAN and POWER_ON_INPUT (in INPUTS) each leave their record marked. A new STRIKE_MAX trims the strike log at
once. Where none of MIN_ON, STRIKE_MAX, STRIKE_WINDOW, NOSIG_DIM, NOSIG_OFF and AUTOSCAN is carried, nothing but the
records, the dirty list and the reply changes. At once: a MIN_ON the lit time has reached takes OFF_PENDING to
COOLING (cause REQUEST, log entry 38); a STRIKE_MAX or STRIKE_WINDOW that opens the window releases a power-on held
in OFF into its first attempt, and one that leaves it full leaves the hold. Of a NOSIG_DIM, NOSIG_OFF or AUTOSCAN
carried without the other five: a NOSIG_DIM of 0 ends the dim report and one at or below the running count makes it
active; a NOSIG_OFF lowered to or below the running count, 0 standing above every other value, switches the lamp off
as POWER_OFF would where no session is open, and otherwise nothing follows (log entry 39); AUTOSCAN off ends a scan
with its record standing (log entry 42), and AUTOSCAN on changes nothing more. (R3, R4, R9, R12, R13, R30, R77, R82,
R83, R84, R144, R190) -/
def Obligations.GuardsWritten : Prop :=
  ∀ (p : PortId) (o : Byte) (a : Origin) (g : RawGuard) (s : State),
    Taken p o a (.guardSet g) s →
    Settles (.guardSet p o g) s fun u =>
      (g.spare ≠ 0 ∨ (g.autoDim.any fun x => decide (1 < x.toNat)) = true ∨
         (g.autoscan.any fun x => decide (1 < x.toNat)) = true ∨
         (g.powerOnInput.any fun x => decide (5 < x.toNat)) = true ∨
         (g.manualLevel.any fun x => decide (3 < x.toNat)) = true → OnlyReplied p 0x73 .invalid [] s u) ∧
      (g.spare = 0 → guardValid g = true →
         u.settings =
           { s.settings with
                 minOn := clampedTo ⟨60, 600⟩ g.minOn s.settings.minOn,
                 cool := clampedTo ⟨60, 300⟩ g.cool s.settings.cool,
                 warmupTime := clampedTo ⟨30, 120⟩ g.warmupTime s.settings.warmupTime,
                 igniteTimeout := clampedTo ⟨2, 30⟩ g.igniteTimeout s.settings.igniteTimeout,
                 strikeMax := clampedTo ⟨1, 6⟩ g.strikeMax s.settings.strikeMax,
                 strikeWindow := clampedTo ⟨600, 7200⟩ g.strikeWindow s.settings.strikeWindow,
                 switchTimeout := clampedTo ⟨2, 10⟩ g.switchTimeout s.settings.switchTimeout,
                 nosigDim := clampedTo ⟨0, 600⟩ g.nosigDim s.settings.nosigDim,
                 nosigOff := clampedTo ⟨0, 3600⟩ g.nosigOff s.settings.nosigOff,
                 manualSpan := clampedTo ⟨30, 480⟩ g.manualSpan s.settings.manualSpan,
                 manualExt := clampedTo ⟨0, 4⟩ g.manualExt s.settings.manualExt,
                 manualWarn := clampedTo ⟨0, 15⟩ g.manualWarn s.settings.manualWarn,
                 extMinutes := clampedTo ⟨5, 30⟩ g.extMinutes s.settings.extMinutes,
                 autoDim := (g.autoDim.map (· == 1)).getD s.settings.autoDim,
                 manualLevel := (g.manualLevel.bind levelOf).getD s.settings.manualLevel } ∧
         u.lamp.strikeWear = clampedTo ⟨0, 2400⟩ g.strikeWear s.lamp.strikeWear ∧
         u.inputs =
           { s.inputs with
                 autoscan := (g.autoscan.map (· == 1)).getD s.inputs.autoscan,
                 powerOnInput := (g.powerOnInput.bind (indexOf 6)).getD s.inputs.powerOnInput } ∧
         Answers p 0x73
           (if unclamped ⟨60, 600⟩ g.minOn && unclamped ⟨60, 300⟩ g.cool && unclamped ⟨30, 120⟩ g.warmupTime &&
              unclamped ⟨2, 30⟩ g.igniteTimeout && unclamped ⟨1, 6⟩ g.strikeMax &&
              unclamped ⟨600, 7200⟩ g.strikeWindow && unclamped ⟨0, 2400⟩ g.strikeWear &&
              unclamped ⟨2, 10⟩ g.switchTimeout && unclamped ⟨0, 600⟩ g.nosigDim && unclamped ⟨0, 3600⟩ g.nosigOff &&
              unclamped ⟨30, 480⟩ g.manualSpan && unclamped ⟨0, 4⟩ g.manualExt && unclamped ⟨0, 15⟩ g.manualWarn &&
              unclamped ⟨5, 30⟩ g.extMinutes then .done else .clamped) [] u) ∧
      (g.spare = 0 → guardValid g = true →
         ((guardInSettings g = true → .settings ∈ u.sto.dirty) ∧ (g.strikeWear ≠ none → .lamp ∈ u.sto.dirty) ∧
            (g.autoscan ≠ none ∨ g.powerOnInput ≠ none → .inputs ∈ u.sto.dirty))) ∧
      (g.spare = 0 → guardValid g = true → g.strikeMax ≠ none → u.lsq.strikeLog.length ≤ u.settings.strikeMax) ∧
      (g.spare = 0 → guardValid g = true → g.minOn = none → g.strikeMax = none → g.strikeWindow = none →
         g.nosigDim = none → g.nosigOff = none → g.autoscan = none →
         u.lamp = { s.lamp with strikeWear := u.lamp.strikeWear } ∧
         Keeps [.settings, .lamp, .inputs, .ports, .store] s u) ∧
      (g.spare = 0 → guardValid g = true → g.minOn ≠ none → s.lsq.state = .offPending →
         u.settings.minOn ≤ s.lsq.litTime →
         { u.lsq with strikeLog := s.lsq.strikeLog } = cooled .cooling u.settings.cool s.lsq ∧ u.ssw.mute = true ∧
         LastTold [.lampState .cooling .offPending 0 .request] u) ∧
      (g.spare = 0 → guardValid g = true → g.minOn ≠ none → g.strikeMax = none → g.strikeWindow = none →
         g.nosigDim = none → g.nosigOff = none → g.autoscan = none →
         s.lsq.state ≠ .offPending ∨ s.lsq.litTime < u.settings.minOn →
         Keeps [.settings, .lamp, .inputs, .ports, .store] s u) ∧
      (∀ h, g.spare = 0 → guardValid g = true → g.strikeMax ≠ none ∨ g.strikeWindow ≠ none → s.lsq.state = .off →
         s.lsq.held = some h → condition s.lamp ≠ .expired → s.lines.bfault = false → s.lines.lit = false →
         (rewritten g u.settings s).windowFull = false →
         u.lsq =
           { struck u.settings s.uptime 1 (rewritten g u.settings s).lsq with ignOrigin := h.origin, held := none } ∧
         u.lamp = charged { s.lamp with strikeWear := u.lamp.strikeWear } ∧ u.ses = holdEnded s) ∧
      (g.spare = 0 → guardValid g = true → g.strikeMax ≠ none ∨ g.strikeWindow ≠ none → s.lsq.state = .off →
         (rewritten g u.settings s).windowFull = true → u.lsq = (rewritten g u.settings s).lsq) ∧
      (g.spare = 0 → guardValid g = true → g.minOn = none → g.strikeMax = none → g.strikeWindow = none →
         g.nosigDim ≠ none → g.nosigOff = none → g.autoscan = none →
         u.ssw =
           { s.ssw with
               dimReport :=
                 if u.settings.nosigDim = 0 then false
                 else s.ssw.dimReport || (s.nosigRunning && decide (u.settings.nosigDim ≤ s.ssw.nosigCount)) } ∧
         Keeps [.settings, .lamp, .inputs, .ssw, .ports, .store] s u) ∧
      (g.spare = 0 → guardValid g = true → g.minOn = none → g.strikeMax = none → g.strikeWindow = none →
         g.nosigDim = none → g.nosigOff ≠ none → g.autoscan = none →
         (s.settings.nosigOff ≠ 0 ∧ s.settings.nosigOff ≤ u.settings.nosigOff) ∨ s.nosigRunning = false ∨ u.settings.nosigOff = 0 ∨
           s.ssw.nosigCount < u.settings.nosigOff ∨ s.ses ≠ none →
         Keeps [.settings, .lamp, .inputs, .ports, .store] s u) ∧
      (g.spare = 0 → guardValid g = true → g.minOn = none → g.strikeMax = none → g.strikeWindow = none →
         g.nosigDim = none → g.nosigOff ≠ none → g.autoscan = none →
         s.settings.nosigOff = 0 ∨ u.settings.nosigOff < s.settings.nosigOff → s.nosigRunning = true →
         u.settings.nosigOff ≠ 0 → u.settings.nosigOff ≤ s.ssw.nosigCount → s.ses = none →
         u.lsq = lsqAfterOff { s with settings := u.settings } ∧ u.ssw.powerOffSince = true ∧ u.ssw.nosigCount = 0 ∧ u.ssw.userMute = false ∧
         u.ssw.dimReport = false ∧ Keeps [.settings, .lamp, .inputs, .lsq, .ssw, .lkc, .ports, .store] s u) ∧
      (g.spare = 0 → guardValid g = true → g.minOn = none → g.strikeMax = none → g.strikeWindow = none →
         g.nosigDim = none → g.nosigOff = none → g.autoscan ≠ none →
         u.ssw = (if u.inputs.autoscan = true then s.ssw else scanless s.ssw) ∧
         Keeps [.settings, .lamp, .inputs, .ssw, .ports, .store] s u) ∧
      (guardValid g = true ↔
         ¬((g.autoDim.any fun x => decide (1 < x.toNat)) = true ∨ (g.autoscan.any fun x => decide (1 < x.toNat)) = true ∨
             (g.powerOnInput.any fun x => decide (5 < x.toNat)) = true ∨
             (g.manualLevel.any fun x => decide (3 < x.toNat)) = true))

/-- SUBSCRIBE makes the mask it carries the mask of its port. An allowed SUBSCRIBE with any of the mask bits 16 to
23 set is INVALID with nothing changed. Otherwise the mask becomes the subscription mask of the port it is taken on,
the masks of the other ports stand, SETTINGS is marked dirty, the reply is DONE and nothing else changes. (R172,
R175) -/
def Obligations.MaskSubscribed : Prop :=
  ∀ (p : PortId) (o : Byte) (a : Origin) (m : BitVec 24) (s : State),
    Taken p o a (.subscribe m) s →
    Settles (.subscribe p o m) s fun u =>
      (65536 ≤ m.toNat → OnlyReplied p 0x74 .invalid [] s u) ∧
      (m.toNat < 65536 → (∀ q, u.settings.mask q = if q = p then m else s.settings.mask q) ∧
         { s.settings with maskE := u.settings.maskE, maskL := u.settings.maskL, maskF := u.settings.maskF } =
           u.settings ∧ Marked .settings s u ∧ Told p 0x74 .done [] [] s u ∧ Keeps [.settings, .ports, .store] s u)

/-- LOCKOUT_BASE, PRESENTER_HOLD and SERVICE, and the effective level. Allowed lockout requests: LOCKOUT_BASE of
OPEN to SECURED sets the base level and marks SETTINGS dirty, and of any other value is INVALID; PRESENTER_HOLD SET
sets the hold while a session is open and is refused NO_SESSION otherwise, CLEAR clears it; SERVICE ENTER sets the
service flag with the lamp in OFF or FAULT, is DONE with the flag already set, and is otherwise refused
LAMP_NOT_OFF; SERVICE LEAVE clears the flag. Each that acts is DONE and raises LOCKOUT_CHANGED with its cause
exactly where the effective level changes; nothing else changes. The effective level is SERVICE with the service
flag set; otherwise it is the highest, in the order OPEN, LECTURE, PRESENTER, SECURED, of the base level, the
session level where there is one, and PRESENTER where the presenter hold is set. (R109, R110, R111, R112, R113,
R115, R116) -/
def Obligations.LockoutRequests : Prop :=
  ∀ (p : PortId) (o : Byte) (a : Origin) (b : Byte) (l : Level) (s : State),
    (Taken p o a (.lockoutBase b) s → 3 < b.toNat →
       Settles (.lockoutBase p o b) s fun u => OnlyReplied p 0x80 .invalid [] s u) ∧
    (Taken p o a (.lockoutBase b) s → levelCode l = b → l ≠ .service →
       Settles (.lockoutBase p o b) s fun u => u.settings = { s.settings with baseLevel := l } ∧
       Marked .settings s u ∧
       Told p 0x80 .done []
         (if u.effLevel = s.effLevel then []
            else
              [.lockoutChanged u.effLevel s.effLevel .base u.settings.baseLevel u.lkc.hold u.lkc.sessionLevel
                 u.lkc.service]) s u ∧ Keeps [.settings, .ports, .store] s u) ∧
    (Taken p o a (.presenterHold 1) s → s.ses = none →
       Settles (.presenterHoldSet p o) s fun u => OnlyReplied p 0x81 .refused [0x06] s u) ∧
    (Taken p o a (.presenterHold 1) s → s.ses ≠ none →
       Settles (.presenterHoldSet p o) s fun u => u.lkc = { s.lkc with hold := true } ∧
       Told p 0x81 .done []
         (if u.effLevel = s.effLevel then []
            else
              [.lockoutChanged u.effLevel s.effLevel .hold u.settings.baseLevel u.lkc.hold u.lkc.sessionLevel
                 u.lkc.service]) s u ∧ Keeps [.lkc, .ports] s u) ∧
    (Taken p o a (.presenterHold 0) s →
       Settles (.presenterHoldClear p o) s fun u => u.lkc = { s.lkc with hold := false } ∧
       Told p 0x81 .done []
         (if u.effLevel = s.effLevel then []
            else
              [.lockoutChanged u.effLevel s.effLevel .hold u.settings.baseLevel u.lkc.hold u.lkc.sessionLevel
                 u.lkc.service]) s u ∧ Keeps [.lkc, .ports] s u) ∧
    (Taken p o a (.service 1) s → s.lkc.service = true →
       Settles (.serviceEnter p o) s fun u => OnlyReplied p 0x82 .done [] s u) ∧
    (Taken p o a (.service 1) s → s.lkc.service = false → s.lsq.state ≠ .off → s.lsq.state ≠ .fault →
       Settles (.serviceEnter p o) s fun u => OnlyReplied p 0x82 .refused [0x09] s u) ∧
    (Taken p o a (.service 1) s → s.lkc.service = false → s.lsq.state = .off ∨ s.lsq.state = .fault →
       Settles (.serviceEnter p o) s fun u => u.lkc = { s.lkc with service := true } ∧ u.effLevel = .service ∧
       Told p 0x82 .done []
         (if u.effLevel = s.effLevel then []
            else
              [.lockoutChanged u.effLevel s.effLevel .service u.settings.baseLevel u.lkc.hold u.lkc.sessionLevel
                 u.lkc.service]) s u ∧ Keeps [.lkc, .ports] s u) ∧
    (Taken p o a (.service 0) s → Settles (.serviceLeave p o) s fun u => u.lkc = { s.lkc with service := false } ∧
       Told p 0x82 .done []
         (if u.effLevel = s.effLevel then []
            else
              [.lockoutChanged u.effLevel s.effLevel .service u.settings.baseLevel u.lkc.hold u.lkc.sessionLevel
                 u.lkc.service]) s u ∧ Keeps [.lkc, .ports] s u) ∧
    (s.lkc.service = true → s.effLevel = .service) ∧
    (s.lkc.service = false →
       (levelCode s.settings.baseLevel).toNat ≤ (levelCode s.effLevel).toNat ∧
       (∀ x ∈ s.lkc.sessionLevel, (levelCode x).toNat ≤ (levelCode s.effLevel).toNat) ∧
       (s.lkc.hold = true → 2 ≤ (levelCode s.effLevel).toNat) ∧
       (s.effLevel = s.settings.baseLevel ∨ s.lkc.sessionLevel = some s.effLevel ∨
          (s.lkc.hold = true ∧ s.effLevel = .presenter)))

/-- The permission table, read by origin. For each level and each class other than READ: KEYPAD may use POWER at
OPEN, PICTURE and GEOMETRY at OPEN and LECTURE, and nothing else; REMOTE the same and SESSION at OPEN and LECTURE;
LECTERN may use POWER, PICTURE, GEOMETRY and SESSION up to PRESENTER, SESSION at SECURED, LOCKOUT up to PRESENTER,
and nothing at SERVICE; FACILITIES every class up to SECURED and at SERVICE TIMETABLE, LAMP_SERVICE and LOCKOUT;
ENGINE every class at OPEN, LECTURE and SERVICE, at PRESENTER TIMETABLE, LAMP_SERVICE, CONFIG and LOCKOUT, and at
SECURED CONFIG and LOCKOUT. (R108) -/
def Obligations.PermissionTable : Prop :=
  ∀ (l : Level) (c : ReqClass),
    c ≠ .read →
    permitted l .keypad c =
      decide ((c = .power ∧ l = .openLevel) ∨ ((c = .picture ∨ c = .geometry) ∧ (l = .openLevel ∨ l = .lecture))) ∧
    permitted l .remote c =
      decide
        ((c = .power ∧ l = .openLevel) ∨
           ((c = .picture ∨ c = .geometry ∨ c = .session) ∧ (l = .openLevel ∨ l = .lecture))) ∧
    permitted l .lectern c =
      decide
        ((c = .session ∧ l = .secured) ∨
           ((c = .power ∨ c = .picture ∨ c = .geometry ∨ c = .session ∨ c = .lockout) ∧
              (l = .openLevel ∨ l = .lecture ∨ l = .presenter))) ∧
    permitted l .facilities c = decide (l ≠ .service ∨ c = .timetable ∨ c = .lampService ∨ c = .lockout) ∧
    permitted l .engine c =
      decide
        (l = .openLevel ∨ l = .lecture ∨ l = .service ∨
           (l = .presenter ∧ (c = .timetable ∨ c = .lampService ∨ c = .config ∨ c = .lockout)) ∨
           (l = .secured ∧ (c = .config ∨ c = .lockout)))

/-- A request that fails the check is denied; what a busy and a closed port make of a request. On a port that is
open, holds no reply and has no frame waiting: a request whose class the permission table does not allow its origin
at the effective level, or whose kind the narrowing of R109 bars, is replied DENIED with the effective level; a
request on E whose origin byte names neither ENGINE nor REMOTE is replied INVALID. Neither changes anything but the
reply. On a port that is closed nothing changes at all, which is the reading of log entry 28. On an open port that
holds a reply or has a frame waiting, the request's frame joins the frames waiting where the receive buffer has room
for its length and 3 bytes, and is dropped whole where it has not, and nothing outside the ports changes: the
model's choice of log entry 27. That a request's frame arrives whole, whatever the port's receiver has in assembly
and whatever transaction is under way on E, is the model's choice of log entry 65. (R106, R107, R109, R118, R165,
R166, R167) -/
def Obligations.DeniedChangesNothing : Prop :=
  ∀ (p : PortId) (o : Byte) (a : Origin) (r : Request) (c : Instr) (s : State),
    requestRow p o r = some c →
    (Free p s → originOn p o = some a → checkPasses s.effLevel a r = false →
       Settles c s fun u => OnlyReplied p (kindCode (requestKind r)) .denied [levelCode s.effLevel] s u) ∧
    (Free p s → originOn p o = none → Settles c s fun u => OnlyReplied p (kindCode (requestKind r)) .invalid [] s u) ∧
    (s.portOpen p = false → exec c s = .next s) ∧
    (s.portOpen p = true → (s.port p).reply ≠ none ∨ (s.port p).frames ≠ [] →
       Settles c s fun u => Keeps [.ports] s u ∧
       (u.port p).frames = if (s.port p).used + (encodeBody o r).length + 3 ≤ 256
         then (s.port p).frames ++ [encodeBody o r] else (s.port p).frames)

/-- The reads return what stands at their taking and change nothing. On a port that is free, each request of class
READ other than NOTICES_READ, whatever the effective level, is replied DONE with its record of 11.5 as it stands, or
INVALID for an index outside its table, and nothing but the reply changes. The STATUS_READ record is the 30 bytes of
11.5, field by field. The monitor's fields follow in INPUT_READ for the selected input alone, and the entry in
ENTRY_READ for an occupied slot alone; absent fields are FFh. These last three, and FFh or 00h for what is absent in
STATUS_READ, are readings of the layouts of 11.5, in log entries 30, 31 and 32. (R19, R37, R38, R51, R56, R103,
R107, R128, R134, R136, R143, R171) -/
def Obligations.ReadsChangeNothing : Prop :=
  ∀ (p : PortId) (o : Byte) (a : Origin) (b : Byte) (i : Fin 6) (k : Fin 24) (j : Fin 48) (s : State),
    Free p s → originOn p o = some a →
    (Settles (.statusRead p o) s fun u =>
       OnlyReplied p 0x90 .done
         ([lampCode s.lsq.state, (s.lsq.held.map fun h => heldReasonCode h.reason).getD 0x00,
             (s.lsq.held.map fun h => originCode h.origin).getD 0xFF, modeCode s.settings.mode,
             modeCode s.settings.ceiling, powerCode s.powerLevel] ++
            [flagsByte [s.lines.lit, s.lines.bfault]] ++
            [conditionCode (condition s.lamp)] ++ byte2 s.lamp.cur.hours ++ [flag s.lamp.cur.hot] ++
            [(s.ssw.selected.map finByte).getD 0xFF, (s.selPath.map pathCode).getD 0xFF,
             (s.ssw.record.map fun r => switchCode r.kind).getD 0xFF,
             (s.ssw.record.map fun r => finByte r.target).getD 0xFF,
             (s.ssw.record.map fun r => originCode r.origin).getD 0xFF, phaseCode s.ssw.phase] ++
            [flagsByte [s.ssw.userMute, s.ssw.mute, s.ssw.dimReport, s.ssw.trained,
               (s.ssw.record.map fun r => r.superseded).getD false]] ++
            byte2 s.ssw.nosigCount ++
            [levelCode s.effLevel, levelCode s.settings.baseLevel, (s.lkc.sessionLevel.map levelCode).getD 0xFF] ++
            [flagsByte [s.lkc.hold, s.lkc.service, s.lkc.keylock, s.lkc.confirmOpen]] ++
            ([(s.ses.map fun r => sessionKindCode r.kind).getD 0xFF] ++
               (s.ses.map fun r => byte2 r.plannedEnd).getD [0xFF, 0xFF] ++
               [(s.ses.map fun r => flag r.deferred).getD 0xFF]) ++
            [flagsByte [s.cal.valid, s.sto.inflight.isSome, (s.port p).overflow]] ++
            [byte1 (s.port p).queue.length]) s u) ∧
    (Settles (.lampRead p o) s fun u =>
       OnlyReplied p 0x91 .done
         ([conditionCode (condition s.lamp)] ++ byte2 s.lamp.cur.hours ++ byte2 s.lamp.cur.sub ++
            byte4 s.lamp.cur.litSeconds ++ byte2 s.lamp.cur.strikes ++ byte2 s.lamp.cur.failed ++
            dateBytes s.lamp.cur.installed ++ [flag s.lamp.cur.installedValid, flag s.lamp.cur.hot] ++
            byte2 s.lamp.warnHours ++ byte2 s.lamp.lifeHours ++ byte2 s.lamp.strikeWear) s u) ∧
    (7 < b.toNat → Settles (.historyRead p o b) s fun u => OnlyReplied p 0x92 .invalid [] s u) ∧
    (b.toNat ≤ 7 →
       Settles (.historyRead p o b) s fun u =>
         OnlyReplied p 0x92 .done
           (byte1 s.lamp.history.length :: ((s.lamp.history[b.toNat]?).map closedBytes).getD []) s u) ∧
    (Settles (.faultRead p o) s fun u => OnlyReplied p 0x93 .done (faultBytes s.lamp.fault) s u) ∧
    (5 < b.toNat → Settles (.inputRead p o b) s fun u => OnlyReplied p 0x94 .invalid [] s u) ∧
    (23 < b.toNat → Settles (.timingRead p o b) s fun u => OnlyReplied p 0x95 .invalid [] s u) ∧
    (Settles (.geometryRead p o) s fun u =>
       OnlyReplied p 0x96 .done
         (((s.geo.active.map warpBytes).getD (List.replicate 34 0xFF)) ++ byte2 s.inputs.panelW ++
            byte2 s.inputs.panelH ++ [BitVec.ofInt 8 s.geo.liveV, BitVec.ofInt 8 s.geo.liveH] ++
            [axisCode s.geo.axis, flag s.geo.pendingWarp.isSome]) s u) ∧
    (47 < b.toNat → Settles (.entryRead p o b) s fun u => OnlyReplied p 0x97 .invalid [] s u) ∧
    (Settles (.holidayRead p o) s fun u =>
       OnlyReplied p 0x98 .done (byte1 s.timetable.holidays.length :: s.timetable.holidays.flatMap dateBytes) s u) ∧
    (Settles (.sessionRead p o) s fun u => OnlyReplied p 0x99 .done (sessionBytes s.ses) s u) ∧
    (Settles (.timeRead p o) s fun u =>
       OnlyReplied p 0x9A .done
         (dateBytes s.cal.date ++ [BitVec.ofNat 8 (weekday s.cal.date)] ++ timeBytes s.cal.time ++ [flag s.cal.valid])
         s u) ∧
    (b.toNat = i.val →
       Settles (.inputRead p o b) s fun u =>
         OnlyReplied p 0x94 .done
           ([b, inputKindCode s.inputs.entries[i].kind, flag s.inputs.entries[i].enabled] ++
              labelBytes s.inputs.entries[i].label ++
              [byte1 s.inputs.entries[i].priority, aspectCode s.inputs.entries[i].aspect,
                   BitVec.ofInt 8 s.inputs.entries[i].presetV, BitVec.ofInt 8 s.inputs.entries[i].presetH,
                   optByte finByte s.inputs.entries[i].lastTiming, pathCode s.inm.path[i], flag s.inm.deb[i].presence,
                   flag (s.ssw.selected == some i)] ++
              (if s.ssw.selected = some i then monitorBytes s.inm.mon else [])) s u) ∧
    (b.toNat = k.val →
       Settles (.timingRead p o b) s fun u =>
         OnlyReplied p 0x95 .done ([b, flag s.timings[k].inUse] ++ timingBytes s.timings[k]) s u) ∧
    (b.toNat = j.val →
       Settles (.entryRead p o b) s fun u =>
         OnlyReplied p 0x97 .done
           ([b, flag s.timetable.slots[j].isSome, byte1 (s.timetable.slots.toList.countP Option.isSome)] ++
              (s.timetable.slots[j].map entryBytes).getD []) s u) ∧
    (statusLamp s ++ statusPicture s ++ statusRoom s).length = 28

/-- NOTICES_READ takes the oldest notices, up to four. On a port that is free, NOTICES_READ is replied DONE with the
number taken, the number still queued and the notices taken, oldest first, each with its kind, time and payload. The
notices taken, the oldest up to four, leave the queue; where at least one left with the overflow mark set, one
OVERFLOW with the present time joins the queue and the mark is cleared. The queue stays within 16 notices. Nothing
else changes, at the ports (the assembly, the frames, the bytes of SDO, the transmitters and the other ports among
them) or anywhere else. (R173, R174, R191) -/
def Obligations.NoticesReadTakesFour : Prop :=
  ∀ (p : PortId) (o : Byte) (a : Origin) (s : State),
    Free p s → originOn p o = some a →
    Settles (.noticesRead p o) s fun u =>
      (u.port p).queue =
        (s.port p).queue.drop 4 ++
          (if (s.port p).overflow = true ∧ (s.port p).queue ≠ [] then [⟨.overflow, s.cal.time⟩] else []) ∧
      (u.port p).overflow = ((s.port p).overflow && (s.port p).queue.isEmpty) ∧
      Answers p 0x9B .done
        (byte1 (min 4 (s.port p).queue.length) :: byte1 (u.port p).queue.length ::
           ((s.port p).queue.take 4).flatMap noticeEntry) u ∧
      Keeps [.ports] s u ∧
      u.ptc =
        (s.ptc.mod p fun q =>
           { q with
               queue := (u.port p).queue,
               overflow := (u.port p).overflow,
               reply := some ⟨0x9B, .done,
                 byte1 (min 4 q.queue.length) :: byte1 (u.port p).queue.length ::
                   (q.queue.take 4).flatMap noticeEntry⟩ }) ∧
      ((s.port p).queue.length ≤ 16 → (u.port p).queue.length ≤ 16) ∧
      (∀ q, q ≠ p → u.port q = s.port q) ∧
      u.ptc.lTx = s.ptc.lTx ∧ u.ptc.fTx = s.ptc.fTx ∧ u.ptc.txn = s.ptc.txn

/-- Complete frames that name no request. On a port that is free: a complete frame whose code the request table does
not know, whose length does not match its layout, or which names no origin on E, is replied INVALID with the code
echoed; a complete frame whose type is not REQUEST is discarded without a reply. Neither changes any other state.
That the frame arrives whole, whatever the port's receiver has in assembly and whatever transaction is under way on
E, is the model's choice of log entry 65. (R106, R164, R166) -/
def Obligations.BadFramesAnswered : Prop :=
  ∀ (p : PortId) (body : List Byte) (s : State),
    Free p s → wfBody body = true →
    (invalidBody p body = true →
       Settles (.unknownRequestCode p body) s fun u => OnlyReplied p (body.getD 1 0) .invalid [] s u) ∧
    (body.head? ≠ some 0x01 → Settles (.nonRequestFrame p body) s fun u => u = s)

/-- Transactions on the engine port. In the running part, with no transaction under way: a write of a request's
whole frame, on a port that is free and HUNTING, ends as the request's own command, with SDO sending zeros; a write
that ends inside the frame leaves nothing of it, and one that goes on keeps its bytes in assembly, so that the rest
of the frame then ends as the command; bytes after the check byte in the same transaction change nothing. A
transaction whose first byte is neither A5h nor 5Ah is ignored to its end. A read while a reply is held sends the
reply's frame from the byte after the read byte and zeros after it, a read with no reply held sends A5h, 00h, 00h;
its further bytes go on with the same frame, whatever is sent on SDI. The negation of SSEL completes in every state
of the port: it ends the transaction and abandons a frame in assembly; a reply whose check byte a read has sent is
released, and a request's frame that waits is then taken as the request's own command, while a reply read in part,
and one that became held during a read that began with none, is kept. While ENG_RST is asserted a transaction is
ignored and SDO sends zeros. The release at the negation of SSEL is the reading of log entry 23; the record of what
SDO has sent, beginning after the read byte, is the model's choice of log entries 18 and 25. (R164, R166, R167,
R168, R169, R177) -/
def Obligations.EngineTransactions : Prop :=
  ∀ (o : Byte) (r : Request) (c : Instr) (y : Reply) (n : Nat) (v : Bool) (bs f : List Byte) (s : State),
    s.operating = true →
    (s.ptc.txn = .idle → wfRequest r = true → requestRow .e o r = some c → Free .e s → s.ptc.e.asm = [] →
       Settles (.eWriteTransaction (frameBytes (encodeBody o r)) true) s fun u => exec c s =
         .next (settle { u with ptc := { u.ptc with sdo := s.ptc.sdo } }) ∧ u.ptc.txn = .idle ∧
       u.ptc.sdo = List.replicate ((encodeBody o r).length + 3) 0) ∧
    (s.ptc.txn = .idle → wfRequest r = true → s.lines.engRst = false → s.ptc.e.asm = [] → s.ptc.e.frames = [] →
       0 < n → n < (frameBytes (encodeBody o r)).length →
       Settles (.eWriteTransaction ((frameBytes (encodeBody o r)).take n) v) s fun u => Keeps [.ports] s u ∧
       u.ptc =
         { s.ptc with
             txn := if v = true then .idle else .write false,
             sdo := List.replicate n 0,
             e := { s.ptc.e with asm := if v = true then [] else (frameBytes (encodeBody o r)).take n } }) ∧
    (s.ptc.txn = .write false → wfRequest r = true → requestRow .e o r = some c → Free .e s →
       s.ptc.e.asm = (frameBytes (encodeBody o r)).take n → 0 < n → n < (frameBytes (encodeBody o r)).length →
       Settles (.eWriteTransaction ((frameBytes (encodeBody o r)).drop n) true) s fun u =>
       exec c { s with ptc := { s.ptc with txn := .idle, e := { s.ptc.e with asm := [] } } } =
         .next (settle { u with ptc := { u.ptc with sdo := s.ptc.sdo } }) ∧ u.ptc.txn = .idle ∧
       u.ptc.sdo = s.ptc.sdo ++ List.replicate ((frameBytes (encodeBody o r)).length - n) 0) ∧
    (s.ptc.txn = .write true → s.ptc.e.asm = [] → s.ptc.e.reply ≠ none ∨ s.ptc.e.frames = [] →
       Settles (.eWriteTransaction bs v) s fun u => Keeps [.ports] s u ∧
       u.ptc =
         { s.ptc with
             txn := if v = true then .idle else .write true,
             sdo := s.ptc.sdo ++ List.replicate bs.length 0 }) ∧
    (s.ptc.txn = .idle → bs ≠ [] → bs.head? ≠ some 0xA5 → bs.head? ≠ some 0x5A →
       Settles (.eWriteTransaction bs v) s fun u => Keeps [.ports] s u ∧
       u.ptc =
         { s.ptc with
             txn := if v = true then .idle else .ignored,
             sdo := List.replicate bs.length 0,
             e := { s.ptc.e with asm := if v = true then [] else s.ptc.e.asm } }) ∧
    (s.ptc.txn = .ignored →
       Settles (.eWriteTransaction bs false) s fun u => Keeps [.ports] s u ∧
       u.ptc = { s.ptc with sdo := s.ptc.sdo ++ List.replicate bs.length 0 }) ∧
    (s.ptc.txn = .idle → s.lines.engRst = false → s.ptc.e.reply = some y → s.ptc.e.frames = [] →
       (frameBytes (replyBody y)).length ≤ n →
       Settles (.eReadTransaction n true) s fun u => Keeps [.ports] s u ∧
       u.ptc =
         { s.ptc with
             e := { s.ptc.e with reply := none, asm := [] },
             sdo := frameBytes (replyBody y) ++ List.replicate (n - (frameBytes (replyBody y)).length) 0 }) ∧
    (s.ptc.txn = .idle → s.lines.engRst = false → s.ptc.e.reply = some y → n < (frameBytes (replyBody y)).length →
       Settles (.eReadTransaction n true) s fun u => Keeps [.ports] s u ∧
       u.ptc = { s.ptc with e := { s.ptc.e with asm := [] }, sdo := (frameBytes (replyBody y)).take n }) ∧
    (s.ptc.txn = .idle → s.lines.engRst = false → s.ptc.e.reply = none →
       Settles (.eReadTransaction n true) s fun u => Keeps [.ports] s u ∧
       u.ptc = { s.ptc with e := { s.ptc.e with asm := [] }, sdo := ([0xA5, 0, 0] ++ List.replicate n 0).take n }) ∧
    (s.ptc.txn = .idle → s.lines.engRst = false → s.ptc.e.reply = some y →
       Settles (.eReadTransaction n false) s fun u => Keeps [.ports] s u ∧
       u.ptc.txn = .read (frameBytes (replyBody y)) true n ∧ u.ptc.e = s.ptc.e) ∧
    (s.ptc.txn = .idle → s.lines.engRst = false → s.ptc.e.reply = none →
       Settles (.eReadTransaction n false) s fun u => Keeps [.ports] s u ∧
       u.ptc.txn = .read [0xA5, 0, 0] false n ∧ u.ptc.e = s.ptc.e) ∧
    (s.ptc.txn = .read f v n → bs ≠ [] →
       Settles (.eWriteTransaction bs false) s fun u => Keeps [.ports] s u ∧
       u.ptc =
         { s.ptc with
             txn := .read f v (n + bs.length),
             sdo := (f ++ List.replicate (n + bs.length) 0).take (n + bs.length) }) ∧
    ((∀ g m, s.ptc.txn = .read g true m → m < g.length) → Settles .sselNegated s fun u => Keeps [.ports] s u ∧
       u.ptc = { s.ptc with txn := .idle, e := { s.ptc.e with asm := [] } }) ∧
    (s.ptc.txn = .read f true n → f.length ≤ n → s.ptc.e.frames = [] →
       Settles .sselNegated s fun u => Keeps [.ports] s u ∧
       u.ptc = { s.ptc with txn := .idle, e := { s.ptc.e with reply := none, asm := [] } }) ∧
    (s.ptc.txn = .read f true n → f.length ≤ n → s.lines.engRst = false → wfRequest r = true →
       requestRow .e o r = some c → s.ptc.e.frames = [encodeBody o r] →
       exec .sselNegated s =
         exec c
           { s with ptc := { s.ptc with txn := .idle, e := { s.ptc.e with reply := none, asm := [], frames := [] } } }) ∧
    (s.ptc.txn = .idle → s.lines.engRst = true → bs ≠ [] →
       Settles (.eWriteTransaction bs true) s fun u => Keeps [.ports] s u ∧
       u.ptc = { s.ptc with e := { s.ptc.e with asm := [] }, sdo := List.replicate bs.length 0 })

/-- Bytes, gaps and ends of transmission on the UART ports. In the running part: a byte with a framing error changes
nothing; in HUNTING, with room in the buffer and no frame waiting to be taken, a byte other than A5h leaves the port
as it was and A5h starts an assembly; a byte that finds the buffer holding 256 bytes is dropped; the expiry of the
gap timer abandons the frame in assembly. The end of the transmission of a reply releases it and of a notice leaves
the port as it was, and the transmitter is idle. Where a frame waits when a reply has been sent, the port takes it,
and a REQUEST frame leaves a new reply held; where a notice is queued too, the environment's choice decides (an
operand, log entry 61): taken first, the transmitter is idle for the reply to go first; the notice chosen first, its
frame is in transmission and the reply waits. (R163, R164, R165, R167) -/
def Obligations.UartEvents : Prop :=
  ∀ (x : UartId) (b : Byte) (v : Bool) (p : PortId) (bs bd : List Byte) (rest : List (List Byte)) (n : Notice)
    (s : State),
    s.operating = true →
    exec (.uartByteReceived x b true) s = .next s ∧
    ((s.port x.port).asm = [] → (s.port x.port).frames = [] →
       Settles (.uartByteReceived x b false) s fun u => Keeps [.ports] s u ∧
       u.ptc = s.ptc.mod x.port fun q => { q with asm := if b = 0xA5 then [0xA5] else [] }) ∧
    (256 ≤ (s.port x.port).used → (s.port x.port).reply ≠ none →
       Settles (.uartByteReceived x b false) s fun u => u = s) ∧
    (Settles (.gapTimerExpiry p) s fun u => Keeps [.ports] s u ∧ u.ptc = s.ptc.mod p fun q => { q with asm := [] }) ∧
    (s.ptc.tx x = .reply bs → (s.port x.port).frames = [] →
       Settles (.transmissionEnd x v) s fun u => Keeps [.ports] s u ∧
       u.ptc = (s.ptc.mod x.port fun q => { q with reply := none }).setTx x .idle) ∧
    (s.ptc.tx x = .notice bs →
       Settles (.transmissionEnd x v) s fun u => Keeps [.ports] s u ∧ u.ptc = s.ptc.setTx x .idle) ∧
    (s.ptc.tx x = .reply bs → (s.port x.port).frames = bd :: rest → bd.head? = some 0x01 → wfBody bd = true →
       v = false ∨ (s.port x.port).queue = [] →
       Settles (.transmissionEnd x v) s fun u =>
         (u.port x.port).reply ≠ none ∧ (u.port x.port).frames = rest ∧ u.ptc.tx x = .idle) ∧
    (s.ptc.tx x = .reply bs → (s.port x.port).frames = bd :: rest → bd.head? = some 0x01 → wfBody bd = true →
       v = true → (s.port x.port).queue.head? = some n →
       Settles (.transmissionEnd x v) s fun u =>
         (u.port x.port).reply ≠ none ∧ (u.port x.port).frames = rest ∧
         u.ptc.tx x = .notice (frameBytes (noticeBody n)))

/-- The rises and falls of LIT and BFAULT. Before start-up is complete, as in every part that is not running, a rise
or fall of LIT or BFAULT moves the line alone (log entry 51). In the running part: a rise of LIT starts the lit
time, and in STRIKING takes the lamp to WARMUP; a fall of LIT sets the lit time to 0, and in WARMUP, ON and
OFF_PENDING records a LIT_LOST fault and takes the lamp to FAULT_COOLING with a full COOL; a rise of BFAULT records
or counts a BALLAST fault and takes a struck or lit lamp to FAULT_COOLING with a full COOL, a cooling one to
FAULT_COOLING with its timer running on, and one in OFF to FAULT, dropping a power-on held in OFF or COOLING; a fall
of BFAULT changes no state. A LIT_LOST fault that makes a record raises LAMP_FAULT and then LAMP_STATE (log entry
35). MUTE is asserted wherever the lamp leaves the lit states. Every other block keeps its state. (R2, R5, R14, R17,
R18, R19, R31, R80, R120) -/
def Obligations.BallastLines : Prop :=
  ∀ (s : State),
    (Settles .litRise s fun u => u.lines = { s.lines with lit := true } ∧
       (s.operating = false → u.lsq = s.lsq ∧ Keeps [.lines] s u) ∧
       (s.operating = true → s.lsq.state ≠ .striking → u.lsq = { s.lsq with litTime := 0, litCounting := true } ∧
            Keeps [.lines, .lsq] s u) ∧
       (s.operating = true → s.lsq.state = .striking →
          u.lsq = { warmed s.settings.warmupTime s.lsq with litTime := 0, litCounting := true } ∧
          u.ssw = { s.ssw with powerOffSince := false, mute := true } ∧
          Raised [.lampState .warmup .striking 0 .line] s u ∧ Keeps [.lines, .lsq, .ssw, .ports] s u)) ∧
    (Settles .litFall s fun u => u.lines = { s.lines with lit := false } ∧
       (s.operating = false → Keeps [.lines] s u) ∧
       (s.operating = true → ¬(s.lsq.state = .warmup ∨ s.lsq.state = .on ∨ s.lsq.state = .offPending) →
            u.lsq = { s.lsq with litTime := 0 } ∧ Keeps [.lines, .lsq] s u) ∧
       (s.operating = true → (s.lsq.state = .warmup ∨ s.lsq.state = .on ∨ s.lsq.state = .offPending) →
          u.lsq = { cooled .faultCooling s.settings.cool s.lsq with litTime := 0 } ∧ u.lamp = faulted .litLost s ∧
          (s.lamp.fault = none → Marked .lamp s u ∧
               Raised [.lampFault .litLost s.lsq.state 0, .lampState .faultCooling s.lsq.state 0 .fault] s u) ∧
          u.ssw = darkened s.ssw ∧ u.lkc = windowClosed s.lkc ∧
          Keeps [.lines, .lamp, .lsq, .ssw, .lkc, .ports, .store] s u)) ∧
    (Settles .bfaultRise s fun u => u.lines = { s.lines with bfault := true } ∧
       (s.operating = false → Keeps [.lines] s u) ∧
       (s.operating = true → u.lamp = (if s.lsq.state = .off then cold (faulted .ballast s) else faulted .ballast s) ∧
            Keeps [.lines, .lamp, .lsq, .ssw, .lkc, .ses, .ports, .store] s u ∧
            (s.lamp.fault = none → Marked .lamp s u)) ∧
       (s.operating = true →
            (s.lsq.state = .striking ∨ (s.lsq.state = .warmup ∨ s.lsq.state = .on ∨ s.lsq.state = .offPending)) →
            u.lsq = cooled .faultCooling s.settings.cool s.lsq ∧ u.ssw = darkened s.ssw ∧ u.lkc = windowClosed s.lkc ∧
            u.ses = s.ses) ∧
       (s.operating = true → s.lsq.state = .cooling → u.lsq = { s.lsq with state := .faultCooling, held := none } ∧
            u.ssw = darkened s.ssw ∧ u.lkc = windowClosed s.lkc ∧ u.ses = holdEnded s) ∧
       (s.operating = true → s.lsq.state = .off → u.lsq = { s.lsq with state := .fault, held := none } ∧
            u.ssw = darkened s.ssw ∧ u.lkc = windowClosed s.lkc ∧ u.ses = holdEnded s) ∧
       (s.operating = true → (s.lsq.state = .faultCooling ∨ s.lsq.state = .fault) → u.lsq = s.lsq ∧
          Keeps [.lines, .lamp, .ports, .store] s u)) ∧
    exec .bfaultFall s = .next { s with lines := { s.lines with bfault := false } }

/-- The second event counts timers, the lit time, wear and the no-signal count. At a second event in the running
part the uptime and every running guard timer and the switch timer advance by one second, and the lit time with LIT
asserted (once LIT has risen since reset). With LIT asserted LLC counts a lit second: 8, 5 or 4 units by the
effective power level through the cascade of R28, the lit seconds, the lit seconds since commit, and the lamp-hot
flag, which marks LAMP dirty only where it was clear; a changed condition raises its notice. With LIT negated none
of these counts. An end of a timer or a test due at that second event may be taken before LLC counts, as the operand
says (log entry 64): then the second is weighed at the level it leaves, DIM once the dim report is active and the
level of ON once the warm-up has ended, and at a lit lamp the lamp-hot flag that the end of a cool clears is set
again; the lit seconds count alike in either order. The no-signal count advances exactly while it runs, up to 3,600.
Before start-up is complete only the uptime counts; without power nothing does, which is the model's choice of log
entry 50. That the lit time counts only once LIT has risen since reset is the reading of log entry 14, and that the
second event only counts, the expiries and tests being commands of their own, is the model's choice of log entries 6
and 7. (R2, R25, R28, R29, R31, R34, R42, R63, R81, R16, R21, R82) -/
def Obligations.SecondEventCounts : Prop :=
  ∀ (d : List DueTest) (s : State),
    (s.powered = false → exec (.secondEvent d) s = .next s) ∧
    (s.powered = true → s.operating = false → exec (.secondEvent d) s = .next { s with uptime := s.uptime + 1 }) ∧
    (s.operating = true →
       (Settles .secondEvent s fun u => u.uptime = s.uptime + 1 ∧
          u.lsq =
            { s.lsq with
                  attemptTimer := s.lsq.attemptTimer.map (· - 1),
                  gapTimer := s.lsq.gapTimer.map (· - 1),
                  warmupTimer := s.lsq.warmupTimer.map (· - 1),
                  coolTimer := s.lsq.coolTimer.map (· - 1),
                  litTime := if s.lines.lit = true ∧
                      s.lsq.litCounting = true then s.lsq.litTime + 1 else s.lsq.litTime } ∧
          u.ssw.timer = s.ssw.timer.map (· - 1) ∧
          u.ssw.nosigCount = (if s.nosigRunning then countUp 3600 s.ssw.nosigCount else s.ssw.nosigCount) ∧
          { s.ssw with timer := u.ssw.timer, nosigCount := u.ssw.nosigCount, autoOffTest := u.ssw.autoOffTest } =
            u.ssw ∧ (s.lines.lit = false → Keeps [.uptime, .lsq, .ssw] s u) ∧
          (s.lines.lit = true →
             u.lamp =
               { s.lamp with
                     cur := addUnits (if s.powerLevel = .full then 8 else if s.powerLevel = .eco then 5 else 4)
                         { s.lamp.cur with litSeconds := countUp 4294967295 s.lamp.cur.litSeconds, hot := true } } ∧
             u.sinceCommit = countUp 360 s.sinceCommit ∧ u.sto = (markIf (!s.lamp.cur.hot) .lamp s).sto ∧
             Raised (conditionNotices s u.lamp) s u ∧
             Keeps [.uptime, .lamp, .lsq, .sinceCommit, .ssw, .ports, .store] s u))) ∧
    (s.operating = true →
       Settles (.secondEvent d) s fun u => u.uptime = s.uptime + 1 ∧
         u.lamp.cur.litSeconds =
           (if s.lines.lit = true then countUp 4294967295 s.lamp.cur.litSeconds else s.lamp.cur.litSeconds) ∧
         u.sinceCommit = (if s.lines.lit = true then countUp 360 s.sinceCommit else s.sinceCommit)) ∧
    (s.operating = true → s.lines.lit = true → s.lsq.state = .on ∨ s.lsq.state = .offPending → s.settings.autoDim = true →
       s.nosigRunning = true → s.settings.nosigDim ≠ 0 → s.settings.nosigDim ≤ countUp 3600 s.ssw.nosigCount →
       Settles (.secondEvent [.nosigDim]) s fun u => u.ssw.dimReport = true ∧
         u.lamp =
           { s.lamp with
               cur := addUnits 4
                   { s.lamp.cur with litSeconds := countUp 4294967295 s.lamp.cur.litSeconds, hot := true } }) ∧
    (s.operating = true → s.lines.lit = true → s.lsq.state = .warmup → s.lsq.warmupTimer = some 1 →
       Settles (.secondEvent [.warmup]) s fun u => u.lsq.state = .on ∧ u.lsq.warmupTimer = none ∧
         u.lamp =
           { s.lamp with
               cur := addUnits
                   (if s.ssw.dimReport = true ∧ s.settings.autoDim = true then 4
                    else if s.settings.mode = .full ∧ s.settings.ceiling = .full then 8 else 5)
                   { s.lamp.cur with litSeconds := countUp 4294967295 s.lamp.cur.litSeconds, hot := true } }) ∧
    (s.operating = true → s.lines.lit = true → s.lsq.coolTimer = some 1 →
       s.lsq.state = .cooling ∧ s.lsq.held = none ∨ s.lsq.state = .faultCooling →
       Settles (.secondEvent [.cool]) s fun u =>
         u.lsq.state = (if s.lsq.state = .cooling then .off else .fault) ∧ u.lsq.coolTimer = none ∧
         u.lamp.cur.hot = true ∧ .lamp ∈ u.sto.dirty)

/-- The ends of the attempt timer and of the retry gap. In the running part, where the attempt timer stands at 0 the
attempt has failed and is counted: after a first or second attempt the 5 s gap starts; after the third an IGNITION
fault is recorded and the lamp goes to FAULT_COOLING with a full COOL. Where the gap stands at 0: with the window
full the ignition ends in COOLING with its power-on held, COOLING+WINDOW, which sets the power-deferred mark of a
scheduled session that is open where the ignition was of origin TIMETABLE, that of a manual one staying clear (log
entry 59); with the window open and LIT asserted the lamp goes to WARMUP; otherwise the next attempt begins, its
strike stamped, counted and charged and LAMP marked dirty, any condition notice raised before LAMP_STATE (log entry
35). An expiry sent where its timer does not stand at 0 changes nothing, which is the model's choice of log entry 6.
(R5, R13, R15, R19, R23, R26, R27, R28, R34, R120, R148, R150) -/
def Obligations.IgnitionTimersEnd : Prop :=
  ∀ (s : State),
    s.operating = true →
    (Settles .attemptTimerExpiry s fun u => (s.lsq.attemptTimer ≠ some 0 → u = s) ∧
       (s.lsq.attemptTimer = some 0 → s.lsq.attempt < 3 →
            u.lsq = { s.lsq with attemptTimer := none, gapTimer := some 5 } ∧
            u.lamp = { s.lamp with cur := { s.lamp.cur with failed := countUp 65535 s.lamp.cur.failed } } ∧
            Keeps [.lamp, .lsq] s u) ∧
       (s.lsq.attemptTimer = some 0 → 3 ≤ s.lsq.attempt → u.lsq = cooled .faultCooling s.settings.cool s.lsq ∧
          u.lamp = { faulted .ignition s with cur := { s.lamp.cur with failed := countUp 65535 s.lamp.cur.failed } } ∧
          (s.lamp.fault = none → Marked .lamp s u) ∧ u.ssw = darkened s.ssw ∧ u.lkc = windowClosed s.lkc ∧
          Keeps [.lamp, .lsq, .ssw, .lkc, .ports, .store] s u)) ∧
    (Settles .retryGapExpiry s fun u => (s.lsq.gapTimer ≠ some 0 → u = s) ∧
       (s.lsq.gapTimer = some 0 → s.windowFull = true →
            u.lsq = { cooled .cooling s.settings.cool s.lsq with held := some ⟨s.lsq.ignOrigin, .coolingWindow⟩ } ∧
            u.ssw = darkened s.ssw ∧ u.lkc = windowClosed s.lkc ∧
            u.ses =
              (if s.lsq.ignOrigin = .timetable then holdMade s else holdEnded s) ∧
            Keeps [.lsq, .ssw, .lkc, .ses, .ports] s u) ∧
       (s.lsq.gapTimer = some 0 → s.windowFull = false → s.lines.lit = true →
            u.lsq = warmed s.settings.warmupTime s.lsq ∧ u.ssw = { s.ssw with powerOffSince := false, mute := true } ∧
            Keeps [.lsq, .ssw, .ports] s u) ∧
       (s.lsq.gapTimer = some 0 → s.windowFull = false → s.lines.lit = false →
          { u.lsq with state := .striking } = struck s.settings s.uptime (s.lsq.attempt + 1) s.lsq ∧
          u.lsq.state = s.lsq.state ∧ u.lamp = charged s.lamp ∧ Marked .lamp s u ∧
          Raised (conditionNotices s (charged s.lamp) ++ [.lampState .striking .striking (s.lsq.attempt + 1) .timer])
            s u ∧ Keeps [.lamp, .lsq, .ports, .store] s u))

/-- The ends of the warm-up, of MIN_ON and of the cool, and the release of a held power-on. In the running part: at
the end of the warm-up timer the lamp goes to ON; in OFF_PENDING with the lit time at MIN_ON it goes to COOLING with
a full COOL; at the end of the cool timer it goes from COOLING to OFF and from FAULT_COOLING to FAULT, with the
lamp-hot flag cleared and LAMP marked dirty. A power-on held then, or found in OFF with the window open, is treated
by the checks of R6: dropped for an EXPIRED lamp; dropped with a BALLAST fault and the lamp in FAULT for BFAULT;
released into WARMUP for LIT; left held, reason WINDOW, with the window full; and otherwise released into the first
attempt of an ignition of its own origin. An expiry sent where its timer does not stand at 0, and a test sent where
it does not hold, change nothing: the model's choice of log entries 6 and 7. (R5, R6, R9, R12, R13, R16, R19, R23,
R26, R31, R35, R148) -/
def Obligations.LampTimersEnd : Prop :=
  ∀ (h : Held) (s : State),
    s.operating = true →
    (Settles .warmupTimerExpiry s fun u => (s.lsq.warmupTimer ≠ some 0 → u = s) ∧
       (s.lsq.warmupTimer = some 0 → u.lsq = { s.lsq with state := .on, warmupTimer := none } ∧
          u.ses = s.ses.map (fun r => { r with deferred := false }) ∧ u.ssw.powerOffSince = false ∧
          Keeps [.lsq, .ssw, .ses, .ports] s u)) ∧
    (Settles .minOnReached s fun u => (¬(s.lsq.state = .offPending ∧ s.settings.minOn ≤ s.lsq.litTime) → u = s) ∧
       (s.lsq.state = .offPending → s.settings.minOn ≤ s.lsq.litTime → u.lsq = cooled .cooling s.settings.cool s.lsq ∧
          u.ssw = darkened s.ssw ∧ u.lkc = windowClosed s.lkc ∧
          Raised [.lampState .cooling .offPending 0 .timer] s u ∧ Keeps [.lsq, .ssw, .lkc, .ports] s u)) ∧
    (Settles .coolTimerExpiry s fun u => (s.lsq.coolTimer ≠ some 0 → u = s) ∧
       (s.lsq.coolTimer = some 0 → s.lsq.state = .cooling → s.lsq.held = none →
            u.lsq = { s.lsq with state := .off, coolTimer := none } ∧ u.lamp = cold s.lamp ∧ Marked .lamp s u ∧
            Raised [.lampState .off .cooling 0 .timer] s u ∧ Keeps [.lamp, .lsq, .ssw, .lkc, .ports, .store] s u) ∧
       (s.lsq.coolTimer = some 0 → s.lsq.state = .faultCooling →
          u.lsq = { s.lsq with state := .fault, coolTimer := none } ∧ u.lamp = cold s.lamp ∧ Marked .lamp s u ∧
          Raised [.lampState .fault .faultCooling 0 .timer] s u ∧ Keeps [.lamp, .lsq, .ssw, .lkc, .ports, .store] s u)) ∧
    (s.lsq.held = some h → s.lsq.coolTimer = some 0 → s.lsq.state = .cooling →
       (Settles .coolTimerExpiry s fun u => Keeps [.lamp, .lsq, .ssw, .lkc, .ses, .ports, .store] s u ∧
          (condition s.lamp = .expired → u.lsq = { s.lsq with state := .off, coolTimer := none, held := none } ∧
               u.lamp = cold s.lamp ∧ u.ses = holdEnded s) ∧
          (condition s.lamp ≠ .expired → s.lines.bfault = true →
               u.lsq = { s.lsq with state := .fault, coolTimer := none, held := none } ∧ u.lamp.fault ≠ none ∧
               u.ses = holdEnded s) ∧
          (condition s.lamp ≠ .expired → s.lines.bfault = false → s.lines.lit = true →
               u.lsq = { warmed s.settings.warmupTime s.lsq with coolTimer := none, held := none } ∧
               u.lamp = cold s.lamp ∧ u.ses = holdEnded s) ∧
          (condition s.lamp ≠ .expired → s.lines.bfault = false → s.lines.lit = false → s.windowFull = true →
               u.lsq = { s.lsq with state := .off, coolTimer := none, held := some ⟨h.origin, .window⟩ } ∧
               u.lamp = cold s.lamp ∧ u.ses = s.ses) ∧
          (condition s.lamp ≠ .expired → s.lines.bfault = false → s.lines.lit = false → s.windowFull = false →
             u.lsq =
               { struck s.settings s.uptime 1 s.lsq with coolTimer := none, held := none, ignOrigin := h.origin } ∧
             u.lamp = charged s.lamp ∧ Marked .lamp s u ∧ u.ses = holdEnded s))) ∧
    (Settles .holdReleaseWindow s fun u => (¬(s.lsq.state = .off ∧ s.lsq.held ≠ none ∧ s.windowFull = false) → u = s)) ∧
    (s.lsq.held = some h → s.lsq.state = .off → s.windowFull = false →
       (Settles .holdReleaseWindow s fun u => u.ses = holdEnded s ∧
          (condition s.lamp = .expired → u.lsq = { s.lsq with held := none } ∧
               Raised [.strikeDropped h.origin .expired] s u ∧ Keeps [.lsq, .ses, .ports] s u) ∧
          (condition s.lamp ≠ .expired → s.lines.bfault = true →
               u.lsq = { s.lsq with state := .fault, held := none } ∧ u.lamp = cold (faulted .ballast s) ∧
               Marked .lamp s u) ∧
          (condition s.lamp ≠ .expired → s.lines.bfault = false → s.lines.lit = true →
               u.lsq = { warmed s.settings.warmupTime s.lsq with held := none } ∧ Keeps [.lsq, .ssw, .ses, .ports] s u)
            ∧
          (condition s.lamp ≠ .expired → s.lines.bfault = false → s.lines.lit = false →
             u.lsq = { struck s.settings s.uptime 1 s.lsq with held := none, ignOrigin := h.origin } ∧
             u.lamp = charged s.lamp ∧ Marked .lamp s u ∧ Keeps [.lamp, .lsq, .ssw, .ses, .ports, .store] s u)))

/-- What the lit seconds since commit and the no-signal count bring about. In the running part: lit seconds since
commit at 360 mark LAMP dirty. A running no-signal count at or above a non-zero NOSIG_DIM makes the dim report
active. A running count at or above a non-zero NOSIG_OFF, with a test due from a second event, switches the lamp off
where no session is open, as a POWER_OFF would: to COOLING with the lit time at MIN_ON, to OFF_PENDING before it;
with a session open only the test is spent. Otherwise nothing happens. That these tests are commands, that a second
event leaves the mark of a test due, and that the test spends it, is the model's choice of log entry 7. (R10, R12,
R42, R81, R82, R83) -/
def Obligations.CountsReached : Prop :=
  ∀ (s : State),
    s.operating = true →
    (Settles .litCommitCountReached s fun u => u.sto = (markIf (s.sinceCommit == 360) .lamp s).sto ∧
       Keeps [.store] s u) ∧
    (Settles .nosigDimReached s fun u => u.ssw.dimReport =
         (s.ssw.dimReport ||
              (s.nosigRunning && s.settings.nosigDim != 0 && decide (s.settings.nosigDim ≤ s.ssw.nosigCount))) ∧
       { s.ssw with dimReport := u.ssw.dimReport } = u.ssw ∧ Keeps [.ssw] s u) ∧
    (¬(s.nosigRunning = true ∧ s.settings.nosigOff ≠ 0 ∧ s.settings.nosigOff ≤ s.ssw.nosigCount) ∨
       s.ssw.autoOffTest = false → Settles .nosigOffReached s fun u => u = s) ∧
    (s.nosigRunning = true → s.settings.nosigOff ≠ 0 → s.settings.nosigOff ≤ s.ssw.nosigCount →
       s.ssw.autoOffTest = true → s.ses ≠ none →
       Settles .nosigOffReached s fun u => u = { s with ssw := { s.ssw with autoOffTest := false } }) ∧
    (s.nosigRunning = true → s.settings.nosigOff ≠ 0 → s.settings.nosigOff ≤ s.ssw.nosigCount →
       s.ssw.autoOffTest = true → s.ses = none →
       (Settles .nosigOffReached s fun u => u.ssw.powerOffSince = true ∧ u.ssw.nosigCount = 0 ∧
          u.ssw.userMute = false ∧ u.ssw.dimReport = false ∧
          (s.lsq.state = .warmup ∨ s.lsq.state = .on →
               u.lsq =
                 (if s.settings.minOn ≤ s.lsq.litTime then cooled .cooling s.settings.cool s.lsq
                    else { s.lsq with state := .offPending, warmupTimer := none })) ∧
          Keeps [.lsq, .ssw, .lkc, .ports] s u))

/-- The presence lines, their debouncers and the path states. A change of a PRES line with main supply present
starts its debounce timer with the new level as candidate, or discards the timer where the line is back at the
debounced presence. At the timer's end the debounced presence takes the candidate; an expiry sent with no timer
running changes nothing (log entry 10). In the running part a fall of an unselected input makes it ABSENT, or
DISABLED if it is disabled, with nothing else changed; a rise of a disabled one leaves it DISABLED whatever the
scan, and a rise of an enabled one makes it PRESENT and changes nothing else while no scan is in progress and
AUTOSCAN is off or the selection is UNTRAINED or in another state than NO_SIGNAL and ABSENT. A rise of an enabled
unselected input starts a scan where AUTOSCAN is on and the selection, TRAINED, is in NO_SIGNAL or ABSENT; joins the
list of a scan that is trying, unless it is the home input or listed; and sets the rescan mark of one that is
returning. The selected input of an UNTRAINED selection takes its path state by its presence, with SOURCE_STATE
where it changes (log entry 33). A fall of the selected input of a TRAINED selection makes its path ABSENT and ends
its record with MUTE asserted. A scan then starts where AUTOSCAN is on, the record (none, a RECOVERY or a RETRAIN of
origin PART) does not bar it and another input is enabled and present; a SCAN record's trial moves on to the next
entry or back to the home input; one whose scan has been ended by AUTOSCAN starts nothing; and otherwise the
selection stays. SES is handed ABSENT for a record of origin TIMETABLE. Its rise while ABSENT trains it by a RETRAIN
of origin PART, and while the path is any other state changes only the presence. (R49, R50, R62, R63, R64, R70, R74,
R75, R76, R77, R101, R149) -/
def Obligations.PresenceDebounced : Prop :=
  ∀ (i h : Fin 6) (v : Bool) (s : State),
    (s.lines.supply = true →
       exec (.presLineChange i v) s =
         .next
           { s with
               lines := { s.lines with pres := s.lines.pres.set i v },
               inm :=
                   { s.inm with
                       deb := s.inm.deb.set i
                           { s.inm.deb[i] with timer := if v = s.inm.deb[i].presence then none else some v } } }) ∧
    (s.lines.supply = true → s.inm.deb[i].timer = none → Settles (.presenceDebounceExpiry i) s fun u => u = s) ∧
    (s.lines.supply = true → s.inm.deb[i].timer = some v →
       Settles (.presenceDebounceExpiry i) s fun u => u.inm.deb = s.inm.deb.set i ⟨v, none⟩ ∧
       Keeps [.inm, .ssw, .geo, .ses, .ports] s u) ∧
    (s.operating = true → s.inm.deb[i].timer = some v → s.ssw.selected ≠ some i → v = false ∨
       s.inputs.entries[i].enabled = false ∨
       s.ssw.phase = .none ∧ (s.inputs.autoscan = false ∨ s.ssw.trained = false ∨
         (s.selPath ≠ some .noSignal ∧ s.selPath ≠ some .absent)) →
       Settles (.presenceDebounceExpiry i) s fun u => u.inm =
         { s.inm with
               deb := s.inm.deb.set i ⟨v, none⟩,
               path := s.inm.path.set i
                   (if s.inputs.entries[i].enabled = true then (if v = true then .present else .absent) else .disabled) }
           ∧ Keeps [.inm] s u) ∧
    (s.operating = true → s.inm.deb[i].timer = some false → s.onScreen i = true → s.inm.path[i] ≠ .absent →
       s.inputs.autoscan = false → (∀ r ∈ s.ssw.record, r.kind ≠ .scan) →
       Settles (.presenceDebounceExpiry i) s fun u => u.inm =
         { s.inm with deb := s.inm.deb.set i ⟨false, none⟩, path := s.inm.path.set i .absent } ∧
       u.ssw = { s.ssw with mute := true, ready := false, record := none, timer := none } ∧ u.geo = leftGeo s ∧
       u.ses = handedSes .absent s) ∧
    (s.operating = true → s.inm.deb[i].timer = some true → s.onScreen i = true → s.inm.path[i] = .absent →
       Settles (.presenceDebounceExpiry i) s fun u => u.inm =
         { trainingInm i s.inm with deb := s.inm.deb.set i ⟨true, none⟩ } ∧
       u.ssw = trainingSsw i .part .retrain s.settings.switchTimeout s.ssw ∧ u.geo = s.geo) ∧
    (s.operating = true → s.inm.deb[i].timer = some true → s.onScreen i = true → s.inm.path[i] ≠ .absent →
       Settles (.presenceDebounceExpiry i) s fun u => u.inm = { s.inm with deb := s.inm.deb.set i ⟨true, none⟩ } ∧
       Keeps [.inm] s u) ∧
    (s.operating = true → s.inm.deb[i].timer = some true → s.inputs.entries[i].enabled = true → h ≠ i →
       s.ssw.selected = some h → s.ssw.trained = true → s.inm.path[h] = .noSignal ∨ s.inm.path[h] = .absent →
       s.inputs.autoscan = true → s.ssw.phase = .none → s.ssw.record = none →
       Settles (.presenceDebounceExpiry i) s fun u => ScanStarts h s u ∧ Keeps [.inm, .ssw, .geo, .ports] s u) ∧
    (s.operating = true → s.inm.deb[i].timer = some true → s.inputs.entries[i].enabled = true →
       s.ssw.selected ≠ some i → s.ssw.phase = .trying →
       Settles (.presenceDebounceExpiry i) s fun u =>
         u.ssw =
           { s.ssw with
               scanList :=
                 if s.ssw.home = some i ∨ i ∈ s.ssw.scanList then s.ssw.scanList else s.ssw.scanList ++ [i] } ∧
         u.inm.path = s.inm.path.set i .present ∧ Keeps [.inm, .ssw] s u) ∧
    (s.operating = true → s.inm.deb[i].timer = some true → s.inputs.entries[i].enabled = true →
       s.ssw.selected ≠ some i → s.ssw.phase = .returning →
       Settles (.presenceDebounceExpiry i) s fun u =>
         u.ssw = { s.ssw with rescan := if s.ssw.home = some i then s.ssw.rescan else true } ∧
         u.inm.path = s.inm.path.set i .present ∧ Keeps [.inm, .ssw] s u) ∧
    (s.operating = true → s.inm.deb[i].timer = some v → s.ssw.selected = some i → s.ssw.trained = false →
       Settles (.presenceDebounceExpiry i) s fun u =>
         u.inm = { s.inm with deb := s.inm.deb.set i ⟨v, none⟩, path := s.inm.path.set i (u.restPath i) } ∧
         Raised
           (if u.restPath i = s.inm.path[i] then [] else [sourceTold s i (some (u.restPath i)) s.ssw.record]) s u ∧
         Keeps [.inm, .ports] s u) ∧
    (s.operating = true → s.inm.deb[i].timer = some false → s.onScreen i = true → s.inm.path[i] ≠ .absent →
       s.inputs.autoscan = true → s.ssw.phase = .none →
       (∀ r ∈ s.ssw.record, r.kind = .recovery ∨ (r.kind = .retrain ∧ r.origin = .part)) →
       (Settles (.presenceDebounceExpiry i) s fun u =>
          ((∃ x, x ≠ i ∧ s.attached x = true) → ScanStarts i { s with geo := leftGeo s } u) ∧
          ((∀ x, x ≠ i → s.attached x = false) → u.ssw = outcomeSsw s.ssw ∧ u.geo = leftGeo s ∧
             u.inm.path = s.inm.path.set i .absent) ∧ Keeps [.inm, .ssw, .geo, .ses, .ports] s u)) ∧
    (s.operating = true → s.inm.deb[i].timer = some false → s.onScreen i = true → s.inm.path[i] ≠ .absent →
       (∃ r ∈ s.ssw.record, r.kind = .select ∨ (r.kind = .retrain ∧ r.origin ≠ .part)) →
       Settles (.presenceDebounceExpiry i) s fun u => u.ssw = outcomeSsw s.ssw ∧ u.geo = leftGeo s ∧
         u.inm.path = s.inm.path.set i .absent ∧ u.ses = handedSes .absent s) ∧
    (s.operating = true → s.inm.deb[i].timer = some false → s.onScreen i = true → s.inm.path[i] ≠ .absent →
       (∃ r ∈ s.ssw.record, r.kind = .scan) → s.ssw.phase = .none →
       Settles (.presenceDebounceExpiry i) s fun u => u.ssw = outcomeSsw s.ssw ∧ u.geo = leftGeo s ∧
         u.inm.path = s.inm.path.set i .absent ∧ Keeps [.inm, .ssw, .geo, .ses, .ports] s u) ∧
    (s.operating = true → s.inm.deb[i].timer = some false → s.onScreen i = true → s.inm.path[i] ≠ .absent →
       (∃ r ∈ s.ssw.record, r.kind = .scan) → s.ssw.phase = .trying → s.ssw.home = some h →
       Settles (.presenceDebounceExpiry i) s fun u => ScanMovesOn h { s with geo := leftGeo s } u) ∧
    (s.operating = true → s.inm.deb[i].timer = some false → s.onScreen i = true → s.inm.path[i] ≠ .absent →
       (∃ r ∈ s.ssw.record, r.kind = .scan) → s.ssw.phase = .returning →
       (Settles (.presenceDebounceExpiry i) s fun u =>
          (s.ssw.rescan = true → (∃ x, x ≠ i ∧ s.attached x = true) →
             ScanStarts i { s with geo := leftGeo s } u) ∧
          (s.ssw.rescan = false ∨ (∀ x, x ≠ i → s.attached x = false) →
             u.ssw = scanless (outcomeSsw s.ssw) ∧ u.geo = leftGeo s)))

/-- FRAME and LINE pulses: measuring, locking, losing, and the take of a pending warp. In the running part a FRAME
pulse with the monitor not IDLE and no frame open opens one, and a LINE pulse counts in the open frame. A completed
frame in SEEKING that does not agree within 1 line and 40 µs with the first candidate becomes the only candidate,
and one that agrees as the second joins it. The third that agrees is stable: with the path of a TRAINED selection in
TRAINING, RECOVERY or NO_SIGNAL, its presence high and a timing entry in use containing the first candidate, the
path is LOCKED, the lowest such entry is recorded, the record and a scan end, SES is handed LOCKED for a record of
origin TIMETABLE, the no-signal count returns to 0 and the monitor tracks the first candidate. With no such entry
the path is UNSUPPORTED, the monitor tracks, MUTE is asserted and the record ends by that outcome, SOURCE_STATE
raised; a SCAN record's trial then moves on to the next entry or back to the home input, a return ends the scan and
its rescan mark (log entry 62), and one whose scan AUTOSCAN has ended starts nothing. With the presence low or the
path ABSENT the stable result changes the monitor alone, which stays in SEEKING. In TRACKING a frame off by more
than 2 lines or 200 µs from the locked value takes a LOCKED or UNSUPPORTED path to RECOVERY with MUTE asserted and a
RECOVERY record of origin PART, and is discarded on an ABSENT one; one within leaves a LOCKED path LOCKED. A pulse
on a path that stays LOCKED takes a pending warp. (R53, R54, R55, R57, R60, R68, R69, R71, R76, R80, R101, R149) -/
def Obligations.FramesMeasured : Prop :=
  ∀ (z : Nat) (b : Bool) (i : Fin 6) (k : Fin 24) (m : Measure) (q : OpenFrame) (l : Measure) (w : Warp)
    (c d : Measure) (s : State),
    s.operating = true →
    (s.inm.mon.mode ≠ .idle → s.inm.mon.openFrame = none →
       Settles (.framePulse z b) s fun u => u.inm =
         { s.inm with mon := { s.inm.mon with openFrame := some ⟨z, 0⟩, watchdog := true } }) ∧
    (s.inm.mon.mode ≠ .idle → s.inm.mon.openFrame = some q → Settles .linePulse s fun u => Keeps [.inm] s u ∧
       u.inm = { s.inm with mon := { s.inm.mon with openFrame := some { q with lines := countUp 65535 q.lines } } }) ∧
    (s.inm.mon.mode = .idle ∨ s.inm.mon.openFrame = none → Settles .linePulse s fun u => u = s) ∧
    (s.inm.mon.mode = .seeking → s.inm.mon.openFrame = some q → m = ⟨q.lines, z - q.time⟩ →
       s.inm.mon.candidates = [] ∨ (∃ c ∈ s.inm.mon.candidates.head?, agrees c m = false) →
       Settles (.framePulse z b) s fun u => u.inm.mon.candidates = [m] ∧ u.inm.mon.lastFrame = some m ∧
       u.inm.mon.openFrame = some ⟨z, 0⟩ ∧ u.inm.mon.mode = .seeking ∧ u.inm.path = s.inm.path) ∧
    (s.inm.mon.mode = .seeking → s.inm.mon.openFrame = some q → m = ⟨q.lines, z - q.time⟩ →
       s.inm.mon.candidates = [c] → agrees c m = true →
       Settles (.framePulse z b) s fun u => u.inm.mon.candidates = [c, m] ∧ u.inm.mon.mode = .seeking ∧
       u.inm.path = s.inm.path) ∧
    (s.inm.mon.mode = .seeking → s.inm.mon.openFrame = some q → s.inm.mon.candidates = [c, d] →
       agrees c ⟨q.lines, z - q.time⟩ = true → s.onScreen i = true → s.inm.deb[i].presence = true →
       (s.inm.path[i] = .training ∨ s.inm.path[i] = .recovery ∨ s.inm.path[i] = .noSignal) →
       classify s.timings c = some k →
       (Settles (.framePulse z b) s fun u => u.inm.path = s.inm.path.set i .locked ∧ u.inm.mon.mode = .tracking ∧
          u.inm.mon.locked = some c ∧ u.inm.mon.lastStable = some ⟨c, some k⟩ ∧
          u.inputs.entries[i].lastTiming = some k ∧ u.ssw.record = none ∧ u.ssw.timer = none ∧ u.ssw.phase = .none ∧
          u.ssw.nosigCount = 0 ∧ u.ssw.dimReport = false ∧ u.ses = handedSes .locked s ∧
          (b = true → u.ssw.mute = true ∧ u.geo.pendingWarp = some (u.warpAt i u.geo.liveV u.geo.liveH .lock)) ∧
          (b = false → u.geo.pendingWarp = none ∧
             u.geo.active = some ⟨u.warpAt i s.geo.liveV s.geo.liveH .lock, nextGeneration s.geo.active⟩))) ∧
    (s.inm.mon.mode = .tracking → s.inm.mon.openFrame = some q → s.inm.mon.locked = some l → s.ssw.selected = some i →
       s.locked = true → 2 < apart l.lines q.lines ∨ 200 < apart l.period (z - q.time) →
       Settles (.framePulse z b) s fun u => u.inm.path = s.inm.path.set i .recovery ∧ u.inm.mon.mode = .seeking ∧
       u.inm.mon.candidates = [⟨q.lines, z - q.time⟩] ∧ u.ssw.mute = true ∧ u.ssw.ready = false ∧
       u.ssw.record.map (fun r => (r.target, r.origin, r.kind)) = some (i, .part, .recovery) ∧
       u.ssw.timer = some s.settings.switchTimeout ∧ u.geo.pendingWarp = none) ∧
    (s.inm.mon.mode = .tracking → s.inm.mon.openFrame = some q → s.inm.mon.locked = some l → s.locked = true →
       apart l.lines q.lines ≤ 2 → apart l.period (z - q.time) ≤ 200 →
       (Settles (.framePulse z b) s fun u => u.inm.path = s.inm.path ∧ u.inm.mon.mode = .tracking ∧
          u.inm.mon.locked = some l ∧ u.geo = leftGeo s ∧ (∀ w ∈ s.geo.pendingWarp, u.ssw.ready = true) ∧
          (s.geo.pendingWarp = none → s.showable = true → u.ssw = { s.ssw with mute := false }))) ∧
    (s.inm.mon.mode = .seeking → s.inm.mon.openFrame = some q → s.inm.mon.candidates = [c, d] →
       agrees c ⟨q.lines, z - q.time⟩ = true → s.onScreen i = true → s.inm.deb[i].presence = true →
       (s.inm.path[i] = .training ∨ s.inm.path[i] = .recovery ∨ s.inm.path[i] = .noSignal) →
       classify s.timings c = none →
       (Settles (.framePulse z b) s fun u =>
          ((∀ r ∈ s.ssw.record, r.kind = .scan → s.ssw.phase = .none) →
             u.inm.path = s.inm.path.set i .unsupported ∧ u.inm.deb = s.inm.deb ∧ u.inm.mon.mode = .tracking ∧
             u.inm.mon.locked = some c ∧ u.inm.mon.lastStable = some ⟨c, none⟩ ∧ u.ssw = outcomeSsw s.ssw ∧
             u.ses = handedSes .unsupported s ∧ Raised [sourceTold s i (some .unsupported) s.ssw.record] s u ∧
             Keeps [.inm, .ssw, .ses, .ports] s u) ∧
          (∀ h, (∃ r ∈ s.ssw.record, r.kind = .scan) → s.ssw.phase = .trying → s.ssw.home = some h →
             ScanMovesOn h
               { s with inm := { s.inm with mon := { s.inm.mon with lastStable := some ⟨c, none⟩ } } } u) ∧
          ((∃ r ∈ s.ssw.record, r.kind = .scan) → s.ssw.phase = .returning →
             u.inm.path = s.inm.path.set i .unsupported ∧ u.ssw = scanless (outcomeSsw s.ssw) ∧
             Keeps [.inm, .ssw, .ses, .ports] s u))) ∧
    (s.inm.mon.mode = .seeking → s.inm.mon.openFrame = some q → s.inm.mon.candidates = [c, d] →
       agrees c ⟨q.lines, z - q.time⟩ = true → s.onScreen i = true →
       (s.inm.deb[i].presence = false ∧ s.inm.path[i] ≠ .locked) ∨ s.inm.path[i] = .absent →
       Settles (.framePulse z b) s fun u => u.inm.path = s.inm.path ∧ u.inm.mon.mode = .seeking ∧
       u.inm.mon.candidates = [] ∧ u.inm.mon.lastStable = some ⟨c, classify s.timings c⟩ ∧ Keeps [.inm] s u) ∧
    (s.inm.mon.mode = .tracking → s.inm.mon.openFrame = some q → s.inm.mon.locked = some l → s.onScreen i = true →
       2 < apart l.lines q.lines ∨ 200 < apart l.period (z - q.time) →
       (Settles (.framePulse z b) s fun u =>
          (s.inm.path[i] = .unsupported → u.inm.path = s.inm.path.set i .recovery ∧ u.inm.mon.mode = .seeking ∧
             u.inm.mon.candidates = [⟨q.lines, z - q.time⟩] ∧
             u.ssw =
               { s.ssw with
                   mute := true,
                   ready := false,
                   timer := some s.settings.switchTimeout,
                   record := some ⟨i, .part, .recovery, s.ssw.record.isSome⟩ } ∧
             Raised [sourceTold s i (some .recovery) u.ssw.record] s u ∧ Keeps [.inm, .ssw, .ports] s u) ∧
          (s.inm.path[i] = .absent → u.inm.path = s.inm.path ∧ u.inm.mon.mode = .seeking ∧
             u.inm.mon.candidates = [⟨q.lines, z - q.time⟩] ∧ Keeps [.inm] s u))) ∧
    (classify s.timings m = some k →
       ((s.timings[k].contains m = true) ∧ ∀ x : Fin 24, x < k → s.timings[x].contains m = false))

/-- The expiries of the frame watchdog and of the switch timer. In the running part: the watchdog's expiry in
SEEKING discards the open frame and the candidates and changes nothing else; in TRACKING on a LOCKED or UNSUPPORTED
path it is a loss, and the path goes to RECOVERY with MUTE asserted, a RECOVERY record of origin PART and the switch
timer started, and on an ABSENT path the loss is discarded; with the monitor IDLE or the watchdog not running (log
entry 10) nothing happens. The switch timer's expiry, where it stands at 0 with a record present, puts the path of
the selected input in NO_SIGNAL or ABSENT by its debounced presence; the record ends, its outcome handed to SES
where its origin is TIMETABLE, and MUTE is asserted. The selection stays where the record is a SELECT or a RETRAIN
of another origin than PART, or AUTOSCAN is off and it is no SCAN. With AUTOSCAN on, a RECOVERY or a RETRAIN of
origin PART leads to a scan where another input is enabled and present, and otherwise leaves the selection. The
outcome of a SCAN record whose scan AUTOSCAN has ended starts nothing. A SCAN record's trial moves on: the next
entry still enabled and present is tried, or else the home input is selected again with the scan returning. A return
that finds no signal ends the scan, or with the rescan mark set starts another where another input is enabled and
present. An expiry sent where the timer does not stand at 0 changes nothing, which is the model's choice of log
entry 6. (R53, R55, R63, R69, R71, R74, R75, R76, R77, R101, R149) -/
def Obligations.PathLostOrTimedOut : Prop :=
  ∀ (i h : Fin 6) (r : SwitchRecord) (s : State),
    s.operating = true →
    (s.inm.mon.watchdog = false ∨ s.inm.mon.mode = .idle → Settles .frameWatchdogExpiry s fun u => u = s) ∧
    (s.inm.mon.watchdog = true → s.inm.mon.mode = .seeking →
       Settles .frameWatchdogExpiry s fun u => u =
         { s with inm := { s.inm with mon := { s.inm.mon with openFrame := none, candidates := [] } } }) ∧
    (s.inm.mon.watchdog = true → s.inm.mon.mode = .tracking → s.locked = true → s.ssw.selected = some i →
       Settles .frameWatchdogExpiry s fun u => u.inm.path = s.inm.path.set i .recovery ∧ u.inm.mon.mode = .seeking ∧
       u.inm.mon.candidates = [] ∧
       u.ssw =
         { s.ssw with
               mute := true,
               ready := false,
               timer := some s.settings.switchTimeout,
               record := some ⟨i, .part, .recovery, s.ssw.record.isSome⟩ } ∧ u.geo = leftGeo s ∧
       Keeps [.inm, .ssw, .geo, .ports] s u) ∧
    (s.inm.mon.watchdog = true → s.inm.mon.mode = .tracking → s.onScreen i = true → s.inm.path[i] = .unsupported →
       Settles .frameWatchdogExpiry s fun u => u.inm.path = s.inm.path.set i .recovery ∧ u.inm.mon.mode = .seeking ∧
       u.inm.mon.candidates = [] ∧
       u.ssw =
         { s.ssw with
               mute := true,
               ready := false,
               timer := some s.settings.switchTimeout,
               record := some ⟨i, .part, .recovery, s.ssw.record.isSome⟩ } ∧
       Raised [sourceTold s i (some .recovery) u.ssw.record] s u ∧ Keeps [.inm, .ssw, .ports] s u) ∧
    (s.inm.mon.watchdog = true → s.inm.mon.mode = .tracking → s.onScreen i = true → s.inm.path[i] = .absent →
       Settles .frameWatchdogExpiry s fun u => u.inm.path = s.inm.path ∧ u.inm.mon.mode = .seeking ∧
       u.inm.mon.candidates = [] ∧ Keeps [.inm] s u) ∧
    (s.ssw.timer ≠ some 0 ∨ s.ssw.record = none → Settles .switchTimerExpiry s fun u => u = s) ∧
    (s.ssw.timer = some 0 → s.ssw.selected = some i → s.ssw.record = some r → r.kind = .select ∨
       (r.kind = .retrain ∧ r.origin ≠ .part) ∨ (r.kind ≠ .scan ∧ s.inputs.autoscan = false) →
       (Settles .switchTimerExpiry s fun u => u.inm =
            { s.inm with path := s.inm.path.set i (if s.inm.deb[i].presence = true then .noSignal else .absent) } ∧
          u.ssw = { s.ssw with mute := true, ready := false, record := none, timer := none } ∧ u.geo = leftGeo s ∧
          Keeps [.inm, .ssw, .geo, .ses, .ports] s u ∧ (r.origin ≠ .timetable → u.ses = s.ses) ∧
          u.ses = handedSes (if s.inm.deb[i].presence = true then .noSignal else .absent) s)) ∧
    (s.ssw.timer = some 0 → s.ssw.selected = some i → s.ssw.record = some r → r.kind = .scan → s.ssw.phase = .none →
       (Settles .switchTimerExpiry s fun u => u.inm =
            { s.inm with path := s.inm.path.set i (if s.inm.deb[i].presence = true then .noSignal else .absent) } ∧
          u.ssw = outcomeSsw s.ssw ∧ u.geo = leftGeo s ∧ Keeps [.inm, .ssw, .geo, .ses, .ports] s u)) ∧
    (s.ssw.timer = some 0 → s.ssw.selected = some i → s.ssw.record = some r →
       r.kind = .recovery ∨ (r.kind = .retrain ∧ r.origin = .part) → s.inputs.autoscan = true → s.ssw.phase = .none →
       s.ssw.trained = true →
       (Settles .switchTimerExpiry s fun u =>
          ((∃ x, x ≠ i ∧ s.attached x = true) → ScanStarts i { s with geo := leftGeo s } u) ∧
          ((∀ x, x ≠ i → s.attached x = false) → u.ssw = outcomeSsw s.ssw ∧ u.geo = leftGeo s ∧
             u.inm.path[i] = if s.inm.deb[i].presence = true then .noSignal else .absent) ∧
          Keeps [.inm, .ssw, .geo, .ses, .ports] s u)) ∧
    (s.ssw.timer = some 0 → s.ssw.selected = some i → s.ssw.trained = true → s.ssw.record = some r → r.kind = .scan →
       s.ssw.phase = .trying → s.ssw.home = some h →
       Settles .switchTimerExpiry s fun u => ScanMovesOn h { s with geo := leftGeo s } u ∧
         Keeps [.inm, .ssw, .geo, .ses, .ports] s u) ∧
    (s.ssw.timer = some 0 → s.ssw.selected = some i → s.ssw.trained = true → s.ssw.record = some r → r.kind = .scan →
       s.ssw.phase = .returning →
       (Settles .switchTimerExpiry s fun u =>
          (s.ssw.rescan = true → (∃ x, x ≠ i ∧ s.attached x = true) →
             ScanStarts i { s with geo := leftGeo s } u) ∧
          (s.ssw.rescan = false ∨ (∀ x, x ≠ i → s.attached x = false) →
             u.ssw = scanless (outcomeSsw s.ssw) ∧ u.geo = leftGeo s) ∧
          Keeps [.inm, .ssw, .geo, .ses, .ports] s u))

/-- The keypad buttons, the key switch and the confirm window. In the running part: a denied press raises
KEYPAD_DENIED with its event, its cause and the effective level, and changes nothing but, for KP_POWER, the confirm
window, which closes. An allowed press of KP_POWER at a struck or lit lamp opens the confirm window and raises
KEYPAD_CONFIRM, or, with the window open, closes it and issues a POWER_OFF, at which an open session closes and
whatever session is open afterwards is a late start of another entry with its actions suppressed. At any other lamp
it is a POWER_ON of origin KEYPAD: in OFF the lamp strikes, warms, is held or is refused as R6 says, in COOLING the
power-on is held, in the fault states it is refused; one not refused opens a manual session where none is open. An
allowed press of KP_AXIS toggles the axis, zeroes the accumulator and clears the denial mark; an allowed press of
KP_SOURCE selects the input it names, as a SELECT of origin KEYPAD does: the first after the selected one in index
order, wrapping from 5 to 0, that is enabled and has its presence high, and the selected one itself where no other
is. A debounced change of KEYLOCK is held by LKC and changes nothing else. The expiry of the confirm window closes
it. After a press the button pressed, and any that was down, is held as down where the press's operand says that it
still is: the model's choice of log entry 45. (R6, R8, R12, R78, R94, R97, R117, R118, R119, R120, R150, R156) -/
def Obligations.KeypadPresses : Prop :=
  ∀ (v : Bool) (d : Buttons) (i : Fin 6) (s : State),
    s.operating = true →
    (s.keypadPasses .power = false → Settles (.kpPowerPress d) s fun u => u.lkc = windowClosed s.lkc ∧
       Raised [.keypadDenied .power (if s.lkc.keylock then .keylock else .level) s.effLevel] s u ∧
       Keeps [.lkc, .kpi, .ports] s u) ∧
    (s.keypadPasses .power = true → drivenState s.lsq.state = true → s.lkc.confirmOpen = false →
       Settles (.kpPowerPress d) s fun u => u.lkc = { s.lkc with confirmOpen := true } ∧
       Raised [.keypadConfirm s.lsq.state 5] s u ∧
       Keeps [.lkc, .kpi, .ports] s u) ∧
    (s.keypadPasses .power = true → drivenState s.lsq.state = true → s.lkc.confirmOpen = true → s.ses = none →
       Settles (.kpPowerPress d) s fun u => u.lkc = windowClosed s.lkc ∧ u.ssw.powerOffSince = true ∧
       u.ssw.userMute = false ∧
       u.lsq =
         (if s.lsq.state = .offPending then s.lsq else if s.lsq.state = .striking ∨
              s.settings.minOn ≤ s.lsq.litTime then cooled .cooling s.settings.cool s.lsq
                else { s.lsq with state := .offPending, warmupTimer := none }) ∧
       Keeps [.lsq, .ssw, .lkc, .kpi, .ports] s u) ∧
    (s.keypadPasses .power = true → s.lsq.state = .cooling →
       Settles (.kpPowerPress d) s fun u => u.lsq =
         { s.lsq with held := some ⟨.keypad, if s.windowFull then .coolingWindow else .cooling⟩ }) ∧
    (s.keypadPasses .geometry = false → Settles (.kpAxisPress d) s fun u =>
       Raised [.keypadDenied .axis (if s.lkc.keylock then .keylock else .level) s.effLevel] s u ∧
       Keeps [.kpi, .ports] s u) ∧
    (s.keypadPasses .geometry = true → Settles (.kpAxisPress d) s fun u =>
       u.geo = { s.geo with axis := if s.geo.axis = .v then .h else .v, dialAcc := 0, denial := false } ∧
       Keeps [.geo, .kpi] s u) ∧
    (s.keypadPasses .picture = false → Settles (.kpSourcePress d) s fun u =>
       Raised [.keypadDenied .source (if s.lkc.keylock then .keylock else .level) s.effLevel] s u ∧
       Keeps [.kpi, .ports] s u) ∧
    (s.keypadPasses .picture = true → s.ssw.selected = some i → s.inputs.entries[s.pressNames i].enabled = true →
       ¬(s.pressNames i = i ∧ s.locked = true) →
       Settles (.kpSourcePress d) s fun u =>
       u.ssw = trainingSsw (s.pressNames i) .keypad .select s.settings.switchTimeout (scanless s.ssw) ∧
       u.inm.path[s.pressNames i] = .training ∧ Keeps [.inm, .ssw, .geo, .ses, .kpi, .ports] s u) ∧
    (s.keypadPasses .picture = true → s.ssw.selected = some i → s.inputs.entries[s.pressNames i].enabled = false ∨
       (s.pressNames i = i ∧ s.locked = true) →
       Settles (.kpSourcePress d) s fun u => Keeps [.kpi] s u) ∧
    (Settles (.kpPowerPress d) s fun u =>
       u.kpi = { s.kpi with power := d.power, source := s.kpi.source && d.source, axis := s.kpi.axis && d.axis }) ∧
    (Settles (.kpSourcePress d) s fun u =>
       u.kpi = { s.kpi with power := s.kpi.power && d.power, source := d.source, axis := s.kpi.axis && d.axis }) ∧
    (Settles (.kpAxisPress d) s fun u =>
       u.kpi = { s.kpi with power := s.kpi.power && d.power, source := s.kpi.source && d.source, axis := d.axis }) ∧
    (∀ r, s.keypadPasses .power = true → drivenState s.lsq.state = true → s.lkc.confirmOpen = true → s.ses = some r →
       Settles (.kpPowerPress d) s fun u => u.lkc.confirmOpen = false ∧ u.lkc.hold = false ∧
       u.ssw.powerOffSince = true ∧ u.ssw.userMute = false ∧ (r.deferred = false → u.lsq = lsqAfterOff s) ∧
       (∀ q ∈ u.ses, q.kind = .scheduled ∧ q.suppressed = true ∧ (q.slot = none ∨ q.slot ≠ r.slot)) ∧
       (s.lateAnswer r.slot s.cal.date (minuteOf s.cal.time) = none → u.ses = none ∧ u.lkc.sessionLevel = none ∧
          LastTold [.sessionClosed r.kind r.slot .powerOff r.used .notApplicable] u) ∧
       Keeps [.lsq, .ssw, .geo, .lkc, .ses, .kpi, .ports] s u) ∧
    (s.keypadPasses .power = true → drivenState s.lsq.state = false → s.lsq.state ≠ .cooling → pictureFits s = true →
       Settles (.kpPowerPress d) s fun u => u.lsq = lsqAfterOn .keypad s ∧
       ((powerReport s).1 = .lampRefused → u.ssw = (if u.lsq = s.lsq then s.ssw else darkened s.ssw) ∧
          u.inm = s.inm) ∧
       ((powerReport s).1 ≠ .lampRefused → u.inm = firstInm s ∧ u.ses = sesAfterOn s (holdEnded s) ∧
          u.lkc.sessionLevel = (lkcAfterOn s).sessionLevel) ∧
       ((powerReport s).1 = .started → s.lines.lit = false → u.lamp = charged s.lamp ∧ Marked .lamp s u)) ∧
    exec (.keylockChange v) s =
      .next { s with lines := { s.lines with keylock := v }, lkc := { s.lkc with keylock := v } } ∧
    (Settles .confirmWindowExpiry s fun u => u = { s with lkc := windowClosed s.lkc }) ∧
    (∀ n : Nat, 0 < n → n < 6 → s.attached (Fin.ofNat 6 (i.val + n)) = true →
       (∀ m : Nat, 0 < m → m < n → s.attached (Fin.ofNat 6 (i.val + m)) = false) →
       s.pressNames i = Fin.ofNat 6 (i.val + n)) ∧
    ((∀ n : Nat, 0 < n → n < 6 → s.attached (Fin.ofNat 6 (i.val + n)) = false) → s.pressNames i = i) ∧
    (s.attached i = true ↔ s.inputs.entries[i].enabled = true ∧ s.inm.deb[i].presence = true)

/-- The dial: counts, steps and denials. In the running part a change of one dial line is a count of +1 along the
cycle 00, 10, 11, 01 and of -1 against it, a change of both none; the new pair is the accepted pair in every case.
An allowed count joins the accumulator and clears the denial mark; at +4 or -4 the accumulator returns to 0 and the
live value on the axis in force moves by one, clamped, and the warp is recomputed with the cause DIAL. A denied
count zeroes the accumulator and raises KEYPAD_DENIED only where the denial mark was clear, which it sets. (R90,
R94, R95, R96, R99, R101, R118) -/
def Obligations.DialTurns : Prop :=
  ∀ (v x : Bool) (n : Int) (i : Fin 6) (s : State),
    s.operating = true →
    (v ≠ s.kpi.pairA → x ≠ s.kpi.pairB → Settles (.dialEdge v x) s fun u => Keeps [.lines, .kpi] s u) ∧
    (Settles (.dialEdge v x) s fun u => u.kpi = { s.kpi with pairA := v, pairB := x } ∧
       u.lines = { s.lines with dialA := v, dialB := x }) ∧
    (n = (if v ≠ s.kpi.pairA then (if v = !x then 1 else -1) else (if x = v then 1 else -1)) →
       (v ≠ s.kpi.pairA) ≠ (x ≠ s.kpi.pairB) → s.keypadPasses .geometry = true → s.geo.dialAcc + n ≠ 4 →
       s.geo.dialAcc + n ≠ -4 →
       Settles (.dialEdge v x) s fun u => u.geo = { s.geo with dialAcc := s.geo.dialAcc + n, denial := false } ∧
       Keeps [.lines, .geo, .kpi] s u) ∧
    (n = (if v ≠ s.kpi.pairA then (if v = !x then 1 else -1) else (if x = v then 1 else -1)) →
       (v ≠ s.kpi.pairA) ≠ (x ≠ s.kpi.pairB) → s.keypadPasses .geometry = true → s.geo.dialAcc + n = 4 ∨
       s.geo.dialAcc + n = -4 → s.ssw.selected = some i →
       Settles (.dialEdge v x) s fun u => u.geo.liveV =
         (if s.geo.axis = .v then clampSym 40 (s.geo.liveV + n) else s.geo.liveV) ∧
       u.geo.liveH = (if s.geo.axis = .h then clampSym 30 (s.geo.liveH + n) else s.geo.liveH) ∧
       u.geo =
         placedGeo s (s.warpAt i u.geo.liveV u.geo.liveH .dial)
           { s.geo with dialAcc := 0, denial := false, liveV := u.geo.liveV, liveH := u.geo.liveH } ∧
       Raised (placedNotice s (s.warpAt i u.geo.liveV u.geo.liveH .dial)) s u ∧ Keeps [.lines, .geo, .kpi, .ports] s u) ∧
    ((v ≠ s.kpi.pairA) ≠ (x ≠ s.kpi.pairB) → s.keypadPasses .geometry = false →
       Settles (.dialEdge v x) s fun u => u.geo = { s.geo with dialAcc := 0, denial := true } ∧
       Keeps [.lines, .geo, .kpi, .ports] s u ∧
       Raised
         (if s.geo.denial = true then []
            else [.keypadDenied .dial (if s.lkc.keylock then .keylock else .level) s.effLevel]) s u)

/-- The calendar second and the sessions of a minute event, at midnight too. A calendar second takes CAL one second
on, with the date after 23:59:59 (2099-12-31 is followed by 2000-01-01 with the clock-valid flag clear and
TIME_INVALID raised). Without power CAL counts and hands nothing; where its backup domain has lost its state it
stands, the model's choice of log entry 17. Short of second 0 nothing else changes. At second 0 of another minute
than midnight: an entry found opens its session with the way MINUTE, on that date, as the successor at a HANDOVER
where one is open. Its start actions are carried out, or suppressed with the service flag set: the SELECT leaves the
source state REFUSED, LOCKED or PENDING; the POWER_ON acts by the lamp state; SESSION_OPEN reports SUPPRESSED,
NO_ACTION, STARTED, ALREADY_LIT, DEFERRED or LAMP_REFUSED. A power-on that is held sets the deferred mark. With none
found, a session of that date at its planned end is handed over to another entry under way (the way LATE), or closes
with the reason ENDED, its end action issued, none or SUPPRESSED and a power-on deferred for it ended. One that
stays, of that date, unwarned and within its warn lead, is warned; nothing else changes then, nor where no session
is open. At midnight minute 1,440 of the ending date comes first, at which a session planned to it closes; then the
dated entries before the new date are deleted; then an entry that starts at minute 0 of the new date opens.
SUPPRESSED where the action is NONE is the reading of log entry 41, and TIME_INVALID before the events that of log
entry 35. (R114, R124, R126, R137, R139, R145, R147, R149, R152, R154, R157, R158) -/
def Obligations.CalendarSecondCounts : Prop :=
  ∀ (f g : Found) (r : Session) (m : Nat) (c n : State) (s : State),
    c = { s with cal := s.cal.next } → n = purge s.cal.next.date c →
    (s.cal.lost = true → exec .calendarSecond s = .next s) ∧
    (s.cal.lost = false → s.operating = false → exec .calendarSecond s = .next c) ∧
    (s.cal.lost = false → s.operating = true → Settles .calendarSecond s fun u => u.cal = s.cal.next) ∧
    (s.cal.lost = false → s.operating = true → s.cal.next.time.second ≠ 0 →
       Settles .calendarSecond s fun u => Keeps [.cal] s u) ∧
    (s.cal.next.time ≠ midnight →
       (s.cal.next.date = s.cal.date ∧ s.cal.next.valid = s.cal.valid ∧
          (validTime s.cal.time = true → secondOf s.cal.next.time = secondOf s.cal.time + 1))) ∧
    (s.cal.next.time = midnight → validDate s.cal.date = true → s.cal.date ≠ ⟨2099, 12, 31⟩ →
       s.cal.next.valid = s.cal.valid ∧ daysSince2000 s.cal.next.date = daysSince2000 s.cal.date + 1 ∧
       validDate s.cal.next.date = true) ∧
    (s.cal.next.time = midnight → s.cal.date = ⟨2099, 12, 31⟩ →
       s.cal.next = { s.cal with date := ⟨2000, 1, 1⟩, time := ⟨0, 0, 0⟩, valid := false }) ∧
    (s.cal.lost = false → s.operating = true → s.cal.next.time.second = 0 → m = minuteOf s.cal.next.time → m ≠ 0 →
       c.finding s.cal.date m = some f →
       (Settles .calendarSecond s fun u =>
          u.ses.map (fun q => (q.kind, q.slot, q.openedTime, q.date, q.plannedEnd, q.level, q.used, q.suppressed)) =
            some (.scheduled, some f.slot, s.cal.next.time, s.cal.date, f.entry.stop, f.entry.level, 0,
              s.lkc.service) ∧
          u.lkc.sessionLevel = some f.entry.level ∧
          (s.ses = none → Opened .minute f s.cal.date s.lkc.service (some m) c u ∧ u.lkc.hold = s.lkc.hold) ∧
          (s.ses = some r → HandedOver .minute r f s.cal.date m c u))) ∧
    (s.cal.lost = false → s.operating = true → s.cal.next.time.second = 0 → m = minuteOf s.cal.next.time → m ≠ 0 →
       c.finding s.cal.date m = none → s.ses = some r → r.date = s.cal.date → r.plannedEnd = m →
       (Settles .calendarSecond s fun u =>
          (c.lateAnswer r.slot s.cal.date m = none → Ended r c u) ∧
          (c.lateAnswer r.slot s.cal.date m = some g →
             HandedOver .late r g s.cal.date m c u ∧ u.ses.map (fun q => q.slot) = some (some g.slot)))) ∧
    (s.cal.lost = false → s.operating = true → s.cal.next.time.second = 0 → m = minuteOf s.cal.next.time → m ≠ 0 →
       c.finding s.cal.date m = none → s.ses = some r → r.date = s.cal.date → m < r.plannedEnd →
       Settles .calendarSecond s fun u =>
         u.ses = some { r with warned := r.warned || !(warnNotices r m).isEmpty } ∧
         Raised (warnNotices r m) c u ∧ Keeps [.cal, .ses, .ports] s u) ∧
    (s.cal.lost = false → s.operating = true → s.cal.next.time.second = 0 → m = minuteOf s.cal.next.time → m ≠ 0 →
       c.finding s.cal.date m = none →
       s.ses = none ∨ (s.ses = some r ∧ (r.date ≠ s.cal.date ∨ r.plannedEnd < m)) →
       Settles .calendarSecond s fun u => Keeps [.cal] s u) ∧
    (s.cal.lost = false → s.operating = true → s.cal.next.time = midnight →
       Settles .calendarSecond s fun u => u.timetable = purgedBefore s.cal.next.date s.timetable) ∧
    (s.cal.lost = false → s.operating = true → s.cal.next.time = midnight → s.cal.valid = true →
       s.cal.date = ⟨2099, 12, 31⟩ → s.ses = none →
       Settles .calendarSecond s fun u => u.ses = none ∧ Raised [.timeInvalid ⟨2000, 1, 1⟩] c u ∧
         Keeps [.cal, .timetable, .ports, .store] s u) ∧
    (s.cal.lost = false → s.operating = true → s.cal.next.time = midnight → s.cal.next.valid = s.cal.valid →
       c.finding s.cal.date 1440 = none → s.ses = none →
       (Settles .calendarSecond s fun u =>
          (n.finding s.cal.next.date 0 = none → u.ses = none ∧ u.sto = n.sto ∧
             Keeps [.cal, .timetable, .store] s u) ∧
          (n.finding s.cal.next.date 0 = some f →
             Opened .minute f s.cal.next.date s.lkc.service (some 0) n u))) ∧
    (s.cal.lost = false → s.operating = true → s.cal.next.time = midnight → s.cal.next.valid = s.cal.valid →
       c.finding s.cal.date 1440 = none → s.ses = some r → r.date = s.cal.date → r.plannedEnd = 1440 →
       c.lateAnswer r.slot s.cal.date 1440 = none →
       (Settles .calendarSecond s fun u =>
          (n.finding s.cal.next.date 0 = none → Ended r c u) ∧
          (n.finding s.cal.next.date 0 = some f →
             u.ses.map (fun q => (q.kind, q.slot, q.openedDate, q.date, q.plannedEnd, q.level, q.suppressed)) =
               some (.scheduled, some f.slot, s.cal.next.date, s.cal.next.date, f.entry.stop, f.entry.level,
                 s.lkc.service)))) ∧
    (timetableOk s.timetable = true → c.finding s.cal.date 1440 = none ∧ c.lateStart s.cal.date 1440 = none)

/-- Commits, power fail, loss of supply, power-on reset and the engine restart. A commit in flight that completes
replaces its image, its CRC the free value of the copy and matching (log entry 19), with the copy; the fall of main
supply leaves that image bad and loses the dirty list, the other fields standing (log entry 44). PFAIL asserted with
supply present turns power-fail mode on, with a final LAMP commit owed and LAMP marked; negated, it ends the mode.
RESET asserted with supply present first completes a commit in flight; then every block is as in State.reset (whose
values ResetValues gives, and which holds the model's choices of log entries 12, the records at their defaults until
loaded, 13, the ignition origin PART, 57, the live keystone (0, 0), and 60, a transaction on E forgotten) but for:
the lines, CAL, the images and the waiting commands, which stand; the debouncers, whose timers run for the lines
that are high; KEYLOCK and the accepted dial pair, which are as the lines; and power-fail mode, which is on with a
LAMP commit owed where PFAIL is asserted (log entry 43). A rise of supply does the same with the images as they
stand, CAL starting afresh where its backup domain was lost. The release of RESET changes only the line. The loss of
the backup domain without supply loses CAL's state (log entry 17), and with supply does not happen. ENG_RST asserted
empties the E port and has the rest of a transaction ignored; released, it raises WARP_READY for the active warp.
Without supply, RESET, PFAIL and ENG_RST move their lines alone, and without power no commit completes. (R85, R104,
R105, R123, R125, R176, R177, R178, R181, R182, R183, R185) -/
def Obligations.StoreAndResetEvents : Prop :=
  ∀ (c : Commit) (w : ActiveWarp) (m : Images) (v : Bool) (s : State),
    (s.powered = true → s.sto.inflight = some c → Settles .commitComplete s fun u => Keeps [.store] s u ∧
       u.sto =
         { s.sto with
             images := setImage s.sto.images c true,
             inflight := none,
             pf := if s.sto.pf = .begun then .done else s.sto.pf }) ∧
    (s.sto.inflight = none → Settles .commitComplete s fun u => u = s) ∧
    (s.sto.inflight = some c →
       exec .supplyFall s =
         .next
           { s with
               lines := { s.lines with supply := false },
               sto := { s.sto with images := setImage s.sto.images c false, inflight := none, dirty := [] } }) ∧
    (s.sto.inflight = none →
       exec .supplyFall s =
         .next { s with lines := { s.lines with supply := false }, sto := { s.sto with dirty := [] } }) ∧
    (s.lines.supply = true → Settles .pfailAsserted s fun u => u.lines = { s.lines with pfail := true } ∧
       Keeps [.lines, .store] s u ∧ { u.sto with dirty := s.sto.dirty } = { s.sto with pf := .owed } ∧
       u.sto.dirty = if .lamp ∈ s.sto.dirty then s.sto.dirty else s.sto.dirty ++ [.lamp]) ∧
    (s.lines.supply = true →
       Settles .pfailNegated s fun u => u =
         { s with lines := { s.lines with pfail := false }, sto := { s.sto with pf := .off } }) ∧
    (s.powered = false → exec .commitComplete s = .next s) ∧
    (s.lines.supply = false → exec .pfailAsserted s = .next { s with lines := { s.lines with pfail := true } } ∧
       exec .pfailNegated s = .next { s with lines := { s.lines with pfail := false } } ∧
       exec (.powerOnReset .resetLine) s = .next { s with lines := { s.lines with reset := true } } ∧
       exec .engRstAsserted s = .next { s with lines := { s.lines with engRst := true } } ∧
       exec .engRstReleased s = .next { s with lines := { s.lines with engRst := false } }) ∧
    (∀ x, setImage m (.settings x) v =
       { m with settings := ⟨x, if v then Config.crc16 x else m.settings.crc, v⟩ }) ∧
    (∀ x, setImage m (.lamp x) v = { m with lamp := ⟨x, if v then Config.crc16 x else m.lamp.crc, v⟩ }) ∧
    (∀ x, setImage m (.inputs x) v = { m with inputs := ⟨x, if v then Config.crc16 x else m.inputs.crc, v⟩ }) ∧
    (∀ x, setImage m (.timings x) v = { m with timings := ⟨x, if v then Config.crc16 x else m.timings.crc, v⟩ }) ∧
    (∀ x, setImage m (.timetable x) v =
       { m with timetable := ⟨x, if v then Config.crc16 x else m.timetable.crc, v⟩ }) ∧
    (s.lines.supply = true → s.sto.inflight = some c →
       exec (.powerOnReset .resetLine) s =
         .next (afterReset { s.lines with reset := true } s.cal (setImage s.sto.images c true) s.pending)) ∧
    (s.lines.supply = true → s.sto.inflight = none →
       exec (.powerOnReset .resetLine) s =
         .next (afterReset { s.lines with reset := true } s.cal s.sto.images s.pending)) ∧
    exec (.powerOnReset .supplyRise) s =
      .next
        (afterReset { s.lines with supply := true } (if s.cal.lost = true then State.reset.cal else s.cal) s.sto.images
           s.pending) ∧
    exec .resetRelease s = .next { s with lines := { s.lines with reset := false } } ∧
    (s.lines.supply = false → exec .backupDomainLoss s = .next { s with cal := { State.reset.cal with lost := true } }) ∧
    (s.lines.supply = true → exec .backupDomainLoss s = .next s) ∧
    (s.lines.supply = true →
       (Settles .engRstAsserted s fun u => u.lines = { s.lines with engRst := true } ∧
          u.ptc =
            { s.ptc with e := State.reset.ptc.e, txn := if s.ptc.txn = .idle then .idle else .ignored } ∧
          u.attn = false ∧
          Keeps [.lines, .ports] s u)) ∧
    (s.lines.supply = true → s.geo.active = some w →
       Settles .engRstReleased s fun u => u.lines = { s.lines with engRst := false } ∧
       u.ptc =
         (raise (.warpReady w.generation w.warp.input w.warp.cause)
              { s with lines := { s.lines with engRst := false } }).ptc ∧ Keeps [.lines, .ports] s u) ∧
    (s.lines.supply = true → s.geo.active = none →
       Settles .engRstReleased s fun u => u = { s with lines := { s.lines with engRst := false } })

/-- Start-up loads the records, settles the blocks and completes. In a part that meets the picture's laws, with
power and the start-up phase LOADING, the completion of the load hands on every record: its image where its CRC
matches and its content keeps its ranges and rules, and otherwise its defaults, marking it dirty. Of INPUTS the last
timing indexes that name an entry not in use are forgotten, and of TIMETABLE the dated entries before CAL's date are
deleted (seen here with no calendar second after that step). Second events and calendar seconds that fall between
the six steps (the command's operand, log entry 20) count in the uptime, the cool timer and CAL. Start-up is then
COMPLETE. Where TTE answers no late start, none while the clock is not valid: LAMP is as loaded; the lamp is in
FAULT_COOLING, COOLING, FAULT or OFF by its lamp-hot flag and fault record, with COOL less the seconds fallen where
the flag is set, and every other field of LSQ as after reset (the ignition origin PART, log entry 13; a START into
FAULT untold to LLC, log entry 52); POWER_ON_INPUT is selected, UNTRAINED, with MUTE asserted; the first warp has
generation 0, the cause START and the live keystone of that input's preset; no session opens and LKC stands. With
nothing falling between the steps the dirty list and the notices are exactly: each bad record with its cause,
LAMP_STATE, SOURCE_STATE (log entry 33), WARP_READY, and TIME_INVALID with the flag clear. Where TTE answers a late
start its session opens, its actions suppressed with the service flag set. Until its loading a record stands at its
default (log entry 12). In any other state the command changes nothing. (R24, R31, R61, R85, R104, R125, R139, R162,
R179, R185, R186, R187) -/
def Obligations.StartUpSettles : Prop :=
  ∀ (falls : Vector (List SettlingEvent) 5) (f : Found) (i : Fin 6) (s : State),
    (s.powered = false ∨ s.sto.phase ≠ .loading → exec (.startupLoadComplete falls) s = .next s) ∧
    (s.powered = true → s.sto.phase = .loading → pictureFits s = true →
       i = (loadedFrom s.sto.images.inputs inputsOk State.reset.inputs).powerOnInput →
       (Settles (.startupLoadComplete falls) s fun u =>
          u.sto.phase = .complete ∧ u.sto.images = s.sto.images ∧ u.sto.pf = s.sto.pf ∧
          u.sto.inflight = s.sto.inflight ∧ (∀ z ∈ badRecords s.sto.images, z.1 ∈ u.sto.dirty) ∧
          u.settings = loadedFrom s.sto.images.settings settingsOk State.reset.settings ∧
          u.timings = loadedFrom s.sto.images.timings timingsOk State.reset.timings ∧
          u.inputs =
            timingsForgotten u.timings (loadedFrom s.sto.images.inputs inputsOk State.reset.inputs) ∧
          (.calendar ∉ falls[4] →
             u.timetable =
               purgedBefore u.cal.date (loadedFrom s.sto.images.timetable timetableOk State.reset.timetable)) ∧
          u.uptime = s.uptime + (falls.toList.flatten.count .second) ∧
          u.cal = Nat.repeat Cal.next (falls.toList.flatten.count .calendar) s.cal ∧
          u.geo.active ≠ none ∧ u.ssw.selected ≠ none ∧
          Keeps [.uptime, .lamp, .inputs, .timings, .timetable, .settings, .lsq, .inm, .ssw, .geo, .lkc, .cal, .ses,
            .ports, .store] s u ∧
          (u.cal.valid = false → u.lateStart u.cal.date (minuteOf u.cal.time) = none) ∧
          (u.lateStart u.cal.date (minuteOf u.cal.time) = none →
             u.lamp = loadedFrom s.sto.images.lamp lampOk State.reset.lamp ∧
             u.lsq =
               { State.reset.lsq with
                   state :=
                     if u.lamp.cur.hot then (if u.lamp.fault.isSome then .faultCooling else .cooling)
                     else (if u.lamp.fault.isSome then .fault else .off),
                   coolTimer :=
                     if u.lamp.cur.hot then some (u.settings.cool - falls.toList.flatten.count .second) else none } ∧
             u.ssw = { s.ssw with selected := some i, autoOffTest := u.ssw.autoOffTest } ∧ u.ssw.trained = false ∧
             u.ssw.mute = true ∧ u.ses = s.ses ∧ u.lkc = s.lkc ∧ (∀ x, u.inm.path[x] = u.restPath x) ∧
             u.inm.deb = s.inm.deb ∧ u.inm.mon = s.inm.mon ∧
             u.geo =
               { State.reset.geo with
                   liveV := u.inputs.entries[i].presetV,
                   liveH := u.inputs.entries[i].presetH,
                   active := some ⟨presetWarp u i .start, 0⟩ }) ∧
          (u.lateStart u.cal.date (minuteOf u.cal.time) = some f →
             u.ses.map
                 (fun q => (q.kind, q.slot, q.openedDate, q.openedTime, q.date, q.plannedEnd, q.level, q.suppressed)) =
               some (.scheduled, some f.slot, u.cal.date, u.cal.time, u.cal.date, f.entry.stop, f.entry.level,
                 s.lkc.service) ∧ u.lkc.sessionLevel = some f.entry.level) ∧
          (falls = Vector.replicate 5 [] → u.lateStart u.cal.date (minuteOf u.cal.time) = none →
             u.sto.dirty =
               markedInTurn
                 ((badRecords s.sto.images).map (fun z => z.1) ++
                   (if u.inputs = loadedFrom s.sto.images.inputs inputsOk State.reset.inputs then [] else [.inputs]) ++
                   (if u.timetable = loadedFrom s.sto.images.timetable timetableOk State.reset.timetable then []
                      else [.timetable])) s.sto.dirty ∧
             Raised
               ((badRecords s.sto.images).map (fun z => .storeLost z.1 z.2) ++
                 [.lampState u.lsq.state .off 0 .start, sourceTold u i (some (u.restPath i)) none,
                   .warpReady 0 i .start] ++
                 (if s.cal.valid = true then [] else [.timeInvalid s.cal.date]))
               { s with settings := u.settings } u)))
end

