-- ==== Sys2Proof/Laws/State.lean ====
section
/-! SUPPORT. One lemma per field per update of the state, each true by unfolding, so that no proof unfolds an update; and the
same for the update of one port. -/

namespace Sys2Proof.Machine

section

variable (s : State) (f : Lines → Lines)

@[simp] theorem State.modLines_lines : (s.modLines f).lines = f s.lines := rfl
@[simp] theorem State.modLines_uptime : (s.modLines f).uptime = s.uptime := rfl
@[simp] theorem State.modLines_lamp : (s.modLines f).lamp = s.lamp := rfl
@[simp] theorem State.modLines_inputs : (s.modLines f).inputs = s.inputs := rfl
@[simp] theorem State.modLines_timings : (s.modLines f).timings = s.timings := rfl
@[simp] theorem State.modLines_timetable : (s.modLines f).timetable = s.timetable := rfl
@[simp] theorem State.modLines_settings : (s.modLines f).settings = s.settings := rfl
@[simp] theorem State.modLines_lsq : (s.modLines f).lsq = s.lsq := rfl
@[simp] theorem State.modLines_sinceCommit : (s.modLines f).sinceCommit = s.sinceCommit := rfl
@[simp] theorem State.modLines_inm : (s.modLines f).inm = s.inm := rfl
@[simp] theorem State.modLines_ssw : (s.modLines f).ssw = s.ssw := rfl
@[simp] theorem State.modLines_geo : (s.modLines f).geo = s.geo := rfl
@[simp] theorem State.modLines_lkc : (s.modLines f).lkc = s.lkc := rfl
@[simp] theorem State.modLines_cal : (s.modLines f).cal = s.cal := rfl
@[simp] theorem State.modLines_ses : (s.modLines f).ses = s.ses := rfl
@[simp] theorem State.modLines_kpi : (s.modLines f).kpi = s.kpi := rfl
@[simp] theorem State.modLines_ptc : (s.modLines f).ptc = s.ptc := rfl
@[simp] theorem State.modLines_sto : (s.modLines f).sto = s.sto := rfl
@[simp] theorem State.modLines_pending : (s.modLines f).pending = s.pending := rfl

end

section

variable (s : State) (f : Nat → Nat)

@[simp] theorem State.modUptime_lines : (s.modUptime f).lines = s.lines := rfl
@[simp] theorem State.modUptime_uptime : (s.modUptime f).uptime = f s.uptime := rfl
@[simp] theorem State.modUptime_lamp : (s.modUptime f).lamp = s.lamp := rfl
@[simp] theorem State.modUptime_inputs : (s.modUptime f).inputs = s.inputs := rfl
@[simp] theorem State.modUptime_timings : (s.modUptime f).timings = s.timings := rfl
@[simp] theorem State.modUptime_timetable : (s.modUptime f).timetable = s.timetable := rfl
@[simp] theorem State.modUptime_settings : (s.modUptime f).settings = s.settings := rfl
@[simp] theorem State.modUptime_lsq : (s.modUptime f).lsq = s.lsq := rfl
@[simp] theorem State.modUptime_sinceCommit : (s.modUptime f).sinceCommit = s.sinceCommit := rfl
@[simp] theorem State.modUptime_inm : (s.modUptime f).inm = s.inm := rfl
@[simp] theorem State.modUptime_ssw : (s.modUptime f).ssw = s.ssw := rfl
@[simp] theorem State.modUptime_geo : (s.modUptime f).geo = s.geo := rfl
@[simp] theorem State.modUptime_lkc : (s.modUptime f).lkc = s.lkc := rfl
@[simp] theorem State.modUptime_cal : (s.modUptime f).cal = s.cal := rfl
@[simp] theorem State.modUptime_ses : (s.modUptime f).ses = s.ses := rfl
@[simp] theorem State.modUptime_kpi : (s.modUptime f).kpi = s.kpi := rfl
@[simp] theorem State.modUptime_ptc : (s.modUptime f).ptc = s.ptc := rfl
@[simp] theorem State.modUptime_sto : (s.modUptime f).sto = s.sto := rfl
@[simp] theorem State.modUptime_pending : (s.modUptime f).pending = s.pending := rfl

end

section

variable (s : State) (f : LampRecord → LampRecord)

@[simp] theorem State.modLamp_lines : (s.modLamp f).lines = s.lines := rfl
@[simp] theorem State.modLamp_uptime : (s.modLamp f).uptime = s.uptime := rfl
@[simp] theorem State.modLamp_lamp : (s.modLamp f).lamp = f s.lamp := rfl
@[simp] theorem State.modLamp_inputs : (s.modLamp f).inputs = s.inputs := rfl
@[simp] theorem State.modLamp_timings : (s.modLamp f).timings = s.timings := rfl
@[simp] theorem State.modLamp_timetable : (s.modLamp f).timetable = s.timetable := rfl
@[simp] theorem State.modLamp_settings : (s.modLamp f).settings = s.settings := rfl
@[simp] theorem State.modLamp_lsq : (s.modLamp f).lsq = s.lsq := rfl
@[simp] theorem State.modLamp_sinceCommit : (s.modLamp f).sinceCommit = s.sinceCommit := rfl
@[simp] theorem State.modLamp_inm : (s.modLamp f).inm = s.inm := rfl
@[simp] theorem State.modLamp_ssw : (s.modLamp f).ssw = s.ssw := rfl
@[simp] theorem State.modLamp_geo : (s.modLamp f).geo = s.geo := rfl
@[simp] theorem State.modLamp_lkc : (s.modLamp f).lkc = s.lkc := rfl
@[simp] theorem State.modLamp_cal : (s.modLamp f).cal = s.cal := rfl
@[simp] theorem State.modLamp_ses : (s.modLamp f).ses = s.ses := rfl
@[simp] theorem State.modLamp_kpi : (s.modLamp f).kpi = s.kpi := rfl
@[simp] theorem State.modLamp_ptc : (s.modLamp f).ptc = s.ptc := rfl
@[simp] theorem State.modLamp_sto : (s.modLamp f).sto = s.sto := rfl
@[simp] theorem State.modLamp_pending : (s.modLamp f).pending = s.pending := rfl

end

section

variable (s : State) (f : InputsRecord → InputsRecord)

@[simp] theorem State.modInputs_lines : (s.modInputs f).lines = s.lines := rfl
@[simp] theorem State.modInputs_uptime : (s.modInputs f).uptime = s.uptime := rfl
@[simp] theorem State.modInputs_lamp : (s.modInputs f).lamp = s.lamp := rfl
@[simp] theorem State.modInputs_inputs : (s.modInputs f).inputs = f s.inputs := rfl
@[simp] theorem State.modInputs_timings : (s.modInputs f).timings = s.timings := rfl
@[simp] theorem State.modInputs_timetable : (s.modInputs f).timetable = s.timetable := rfl
@[simp] theorem State.modInputs_settings : (s.modInputs f).settings = s.settings := rfl
@[simp] theorem State.modInputs_lsq : (s.modInputs f).lsq = s.lsq := rfl
@[simp] theorem State.modInputs_sinceCommit : (s.modInputs f).sinceCommit = s.sinceCommit := rfl
@[simp] theorem State.modInputs_inm : (s.modInputs f).inm = s.inm := rfl
@[simp] theorem State.modInputs_ssw : (s.modInputs f).ssw = s.ssw := rfl
@[simp] theorem State.modInputs_geo : (s.modInputs f).geo = s.geo := rfl
@[simp] theorem State.modInputs_lkc : (s.modInputs f).lkc = s.lkc := rfl
@[simp] theorem State.modInputs_cal : (s.modInputs f).cal = s.cal := rfl
@[simp] theorem State.modInputs_ses : (s.modInputs f).ses = s.ses := rfl
@[simp] theorem State.modInputs_kpi : (s.modInputs f).kpi = s.kpi := rfl
@[simp] theorem State.modInputs_ptc : (s.modInputs f).ptc = s.ptc := rfl
@[simp] theorem State.modInputs_sto : (s.modInputs f).sto = s.sto := rfl
@[simp] theorem State.modInputs_pending : (s.modInputs f).pending = s.pending := rfl

end

section

variable (s : State) (f : TimingsRecord → TimingsRecord)

@[simp] theorem State.modTimings_lines : (s.modTimings f).lines = s.lines := rfl
@[simp] theorem State.modTimings_uptime : (s.modTimings f).uptime = s.uptime := rfl
@[simp] theorem State.modTimings_lamp : (s.modTimings f).lamp = s.lamp := rfl
@[simp] theorem State.modTimings_inputs : (s.modTimings f).inputs = s.inputs := rfl
@[simp] theorem State.modTimings_timings : (s.modTimings f).timings = f s.timings := rfl
@[simp] theorem State.modTimings_timetable : (s.modTimings f).timetable = s.timetable := rfl
@[simp] theorem State.modTimings_settings : (s.modTimings f).settings = s.settings := rfl
@[simp] theorem State.modTimings_lsq : (s.modTimings f).lsq = s.lsq := rfl
@[simp] theorem State.modTimings_sinceCommit : (s.modTimings f).sinceCommit = s.sinceCommit := rfl
@[simp] theorem State.modTimings_inm : (s.modTimings f).inm = s.inm := rfl
@[simp] theorem State.modTimings_ssw : (s.modTimings f).ssw = s.ssw := rfl
@[simp] theorem State.modTimings_geo : (s.modTimings f).geo = s.geo := rfl
@[simp] theorem State.modTimings_lkc : (s.modTimings f).lkc = s.lkc := rfl
@[simp] theorem State.modTimings_cal : (s.modTimings f).cal = s.cal := rfl
@[simp] theorem State.modTimings_ses : (s.modTimings f).ses = s.ses := rfl
@[simp] theorem State.modTimings_kpi : (s.modTimings f).kpi = s.kpi := rfl
@[simp] theorem State.modTimings_ptc : (s.modTimings f).ptc = s.ptc := rfl
@[simp] theorem State.modTimings_sto : (s.modTimings f).sto = s.sto := rfl
@[simp] theorem State.modTimings_pending : (s.modTimings f).pending = s.pending := rfl

end

section

variable (s : State) (f : TimetableRecord → TimetableRecord)

@[simp] theorem State.modTimetable_lines : (s.modTimetable f).lines = s.lines := rfl
@[simp] theorem State.modTimetable_uptime : (s.modTimetable f).uptime = s.uptime := rfl
@[simp] theorem State.modTimetable_lamp : (s.modTimetable f).lamp = s.lamp := rfl
@[simp] theorem State.modTimetable_inputs : (s.modTimetable f).inputs = s.inputs := rfl
@[simp] theorem State.modTimetable_timings : (s.modTimetable f).timings = s.timings := rfl
@[simp] theorem State.modTimetable_timetable : (s.modTimetable f).timetable = f s.timetable := rfl
@[simp] theorem State.modTimetable_settings : (s.modTimetable f).settings = s.settings := rfl
@[simp] theorem State.modTimetable_lsq : (s.modTimetable f).lsq = s.lsq := rfl
@[simp] theorem State.modTimetable_sinceCommit : (s.modTimetable f).sinceCommit = s.sinceCommit := rfl
@[simp] theorem State.modTimetable_inm : (s.modTimetable f).inm = s.inm := rfl
@[simp] theorem State.modTimetable_ssw : (s.modTimetable f).ssw = s.ssw := rfl
@[simp] theorem State.modTimetable_geo : (s.modTimetable f).geo = s.geo := rfl
@[simp] theorem State.modTimetable_lkc : (s.modTimetable f).lkc = s.lkc := rfl
@[simp] theorem State.modTimetable_cal : (s.modTimetable f).cal = s.cal := rfl
@[simp] theorem State.modTimetable_ses : (s.modTimetable f).ses = s.ses := rfl
@[simp] theorem State.modTimetable_kpi : (s.modTimetable f).kpi = s.kpi := rfl
@[simp] theorem State.modTimetable_ptc : (s.modTimetable f).ptc = s.ptc := rfl
@[simp] theorem State.modTimetable_sto : (s.modTimetable f).sto = s.sto := rfl
@[simp] theorem State.modTimetable_pending : (s.modTimetable f).pending = s.pending := rfl

end

section

variable (s : State) (f : Settings → Settings)

@[simp] theorem State.modSettings_lines : (s.modSettings f).lines = s.lines := rfl
@[simp] theorem State.modSettings_uptime : (s.modSettings f).uptime = s.uptime := rfl
@[simp] theorem State.modSettings_lamp : (s.modSettings f).lamp = s.lamp := rfl
@[simp] theorem State.modSettings_inputs : (s.modSettings f).inputs = s.inputs := rfl
@[simp] theorem State.modSettings_timings : (s.modSettings f).timings = s.timings := rfl
@[simp] theorem State.modSettings_timetable : (s.modSettings f).timetable = s.timetable := rfl
@[simp] theorem State.modSettings_settings : (s.modSettings f).settings = f s.settings := rfl
@[simp] theorem State.modSettings_lsq : (s.modSettings f).lsq = s.lsq := rfl
@[simp] theorem State.modSettings_sinceCommit : (s.modSettings f).sinceCommit = s.sinceCommit := rfl
@[simp] theorem State.modSettings_inm : (s.modSettings f).inm = s.inm := rfl
@[simp] theorem State.modSettings_ssw : (s.modSettings f).ssw = s.ssw := rfl
@[simp] theorem State.modSettings_geo : (s.modSettings f).geo = s.geo := rfl
@[simp] theorem State.modSettings_lkc : (s.modSettings f).lkc = s.lkc := rfl
@[simp] theorem State.modSettings_cal : (s.modSettings f).cal = s.cal := rfl
@[simp] theorem State.modSettings_ses : (s.modSettings f).ses = s.ses := rfl
@[simp] theorem State.modSettings_kpi : (s.modSettings f).kpi = s.kpi := rfl
@[simp] theorem State.modSettings_ptc : (s.modSettings f).ptc = s.ptc := rfl
@[simp] theorem State.modSettings_sto : (s.modSettings f).sto = s.sto := rfl
@[simp] theorem State.modSettings_pending : (s.modSettings f).pending = s.pending := rfl

end

section

variable (s : State) (f : Lsq → Lsq)

@[simp] theorem State.modLsq_lines : (s.modLsq f).lines = s.lines := rfl
@[simp] theorem State.modLsq_uptime : (s.modLsq f).uptime = s.uptime := rfl
@[simp] theorem State.modLsq_lamp : (s.modLsq f).lamp = s.lamp := rfl
@[simp] theorem State.modLsq_inputs : (s.modLsq f).inputs = s.inputs := rfl
@[simp] theorem State.modLsq_timings : (s.modLsq f).timings = s.timings := rfl
@[simp] theorem State.modLsq_timetable : (s.modLsq f).timetable = s.timetable := rfl
@[simp] theorem State.modLsq_settings : (s.modLsq f).settings = s.settings := rfl
@[simp] theorem State.modLsq_lsq : (s.modLsq f).lsq = f s.lsq := rfl
@[simp] theorem State.modLsq_sinceCommit : (s.modLsq f).sinceCommit = s.sinceCommit := rfl
@[simp] theorem State.modLsq_inm : (s.modLsq f).inm = s.inm := rfl
@[simp] theorem State.modLsq_ssw : (s.modLsq f).ssw = s.ssw := rfl
@[simp] theorem State.modLsq_geo : (s.modLsq f).geo = s.geo := rfl
@[simp] theorem State.modLsq_lkc : (s.modLsq f).lkc = s.lkc := rfl
@[simp] theorem State.modLsq_cal : (s.modLsq f).cal = s.cal := rfl
@[simp] theorem State.modLsq_ses : (s.modLsq f).ses = s.ses := rfl
@[simp] theorem State.modLsq_kpi : (s.modLsq f).kpi = s.kpi := rfl
@[simp] theorem State.modLsq_ptc : (s.modLsq f).ptc = s.ptc := rfl
@[simp] theorem State.modLsq_sto : (s.modLsq f).sto = s.sto := rfl
@[simp] theorem State.modLsq_pending : (s.modLsq f).pending = s.pending := rfl

end

section

variable (s : State) (f : Nat → Nat)

@[simp] theorem State.modSinceCommit_lines : (s.modSinceCommit f).lines = s.lines := rfl
@[simp] theorem State.modSinceCommit_uptime : (s.modSinceCommit f).uptime = s.uptime := rfl
@[simp] theorem State.modSinceCommit_lamp : (s.modSinceCommit f).lamp = s.lamp := rfl
@[simp] theorem State.modSinceCommit_inputs : (s.modSinceCommit f).inputs = s.inputs := rfl
@[simp] theorem State.modSinceCommit_timings : (s.modSinceCommit f).timings = s.timings := rfl
@[simp] theorem State.modSinceCommit_timetable : (s.modSinceCommit f).timetable = s.timetable := rfl
@[simp] theorem State.modSinceCommit_settings : (s.modSinceCommit f).settings = s.settings := rfl
@[simp] theorem State.modSinceCommit_lsq : (s.modSinceCommit f).lsq = s.lsq := rfl
@[simp] theorem State.modSinceCommit_sinceCommit : (s.modSinceCommit f).sinceCommit = f s.sinceCommit := rfl
@[simp] theorem State.modSinceCommit_inm : (s.modSinceCommit f).inm = s.inm := rfl
@[simp] theorem State.modSinceCommit_ssw : (s.modSinceCommit f).ssw = s.ssw := rfl
@[simp] theorem State.modSinceCommit_geo : (s.modSinceCommit f).geo = s.geo := rfl
@[simp] theorem State.modSinceCommit_lkc : (s.modSinceCommit f).lkc = s.lkc := rfl
@[simp] theorem State.modSinceCommit_cal : (s.modSinceCommit f).cal = s.cal := rfl
@[simp] theorem State.modSinceCommit_ses : (s.modSinceCommit f).ses = s.ses := rfl
@[simp] theorem State.modSinceCommit_kpi : (s.modSinceCommit f).kpi = s.kpi := rfl
@[simp] theorem State.modSinceCommit_ptc : (s.modSinceCommit f).ptc = s.ptc := rfl
@[simp] theorem State.modSinceCommit_sto : (s.modSinceCommit f).sto = s.sto := rfl
@[simp] theorem State.modSinceCommit_pending : (s.modSinceCommit f).pending = s.pending := rfl

end

section

variable (s : State) (f : Inm → Inm)

@[simp] theorem State.modInm_lines : (s.modInm f).lines = s.lines := rfl
@[simp] theorem State.modInm_uptime : (s.modInm f).uptime = s.uptime := rfl
@[simp] theorem State.modInm_lamp : (s.modInm f).lamp = s.lamp := rfl
@[simp] theorem State.modInm_inputs : (s.modInm f).inputs = s.inputs := rfl
@[simp] theorem State.modInm_timings : (s.modInm f).timings = s.timings := rfl
@[simp] theorem State.modInm_timetable : (s.modInm f).timetable = s.timetable := rfl
@[simp] theorem State.modInm_settings : (s.modInm f).settings = s.settings := rfl
@[simp] theorem State.modInm_lsq : (s.modInm f).lsq = s.lsq := rfl
@[simp] theorem State.modInm_sinceCommit : (s.modInm f).sinceCommit = s.sinceCommit := rfl
@[simp] theorem State.modInm_inm : (s.modInm f).inm = f s.inm := rfl
@[simp] theorem State.modInm_ssw : (s.modInm f).ssw = s.ssw := rfl
@[simp] theorem State.modInm_geo : (s.modInm f).geo = s.geo := rfl
@[simp] theorem State.modInm_lkc : (s.modInm f).lkc = s.lkc := rfl
@[simp] theorem State.modInm_cal : (s.modInm f).cal = s.cal := rfl
@[simp] theorem State.modInm_ses : (s.modInm f).ses = s.ses := rfl
@[simp] theorem State.modInm_kpi : (s.modInm f).kpi = s.kpi := rfl
@[simp] theorem State.modInm_ptc : (s.modInm f).ptc = s.ptc := rfl
@[simp] theorem State.modInm_sto : (s.modInm f).sto = s.sto := rfl
@[simp] theorem State.modInm_pending : (s.modInm f).pending = s.pending := rfl

end

section

variable (s : State) (f : Ssw → Ssw)

@[simp] theorem State.modSsw_lines : (s.modSsw f).lines = s.lines := rfl
@[simp] theorem State.modSsw_uptime : (s.modSsw f).uptime = s.uptime := rfl
@[simp] theorem State.modSsw_lamp : (s.modSsw f).lamp = s.lamp := rfl
@[simp] theorem State.modSsw_inputs : (s.modSsw f).inputs = s.inputs := rfl
@[simp] theorem State.modSsw_timings : (s.modSsw f).timings = s.timings := rfl
@[simp] theorem State.modSsw_timetable : (s.modSsw f).timetable = s.timetable := rfl
@[simp] theorem State.modSsw_settings : (s.modSsw f).settings = s.settings := rfl
@[simp] theorem State.modSsw_lsq : (s.modSsw f).lsq = s.lsq := rfl
@[simp] theorem State.modSsw_sinceCommit : (s.modSsw f).sinceCommit = s.sinceCommit := rfl
@[simp] theorem State.modSsw_inm : (s.modSsw f).inm = s.inm := rfl
@[simp] theorem State.modSsw_ssw : (s.modSsw f).ssw = f s.ssw := rfl
@[simp] theorem State.modSsw_geo : (s.modSsw f).geo = s.geo := rfl
@[simp] theorem State.modSsw_lkc : (s.modSsw f).lkc = s.lkc := rfl
@[simp] theorem State.modSsw_cal : (s.modSsw f).cal = s.cal := rfl
@[simp] theorem State.modSsw_ses : (s.modSsw f).ses = s.ses := rfl
@[simp] theorem State.modSsw_kpi : (s.modSsw f).kpi = s.kpi := rfl
@[simp] theorem State.modSsw_ptc : (s.modSsw f).ptc = s.ptc := rfl
@[simp] theorem State.modSsw_sto : (s.modSsw f).sto = s.sto := rfl
@[simp] theorem State.modSsw_pending : (s.modSsw f).pending = s.pending := rfl

end

section

variable (s : State) (f : Geo → Geo)

@[simp] theorem State.modGeo_lines : (s.modGeo f).lines = s.lines := rfl
@[simp] theorem State.modGeo_uptime : (s.modGeo f).uptime = s.uptime := rfl
@[simp] theorem State.modGeo_lamp : (s.modGeo f).lamp = s.lamp := rfl
@[simp] theorem State.modGeo_inputs : (s.modGeo f).inputs = s.inputs := rfl
@[simp] theorem State.modGeo_timings : (s.modGeo f).timings = s.timings := rfl
@[simp] theorem State.modGeo_timetable : (s.modGeo f).timetable = s.timetable := rfl
@[simp] theorem State.modGeo_settings : (s.modGeo f).settings = s.settings := rfl
@[simp] theorem State.modGeo_lsq : (s.modGeo f).lsq = s.lsq := rfl
@[simp] theorem State.modGeo_sinceCommit : (s.modGeo f).sinceCommit = s.sinceCommit := rfl
@[simp] theorem State.modGeo_inm : (s.modGeo f).inm = s.inm := rfl
@[simp] theorem State.modGeo_ssw : (s.modGeo f).ssw = s.ssw := rfl
@[simp] theorem State.modGeo_geo : (s.modGeo f).geo = f s.geo := rfl
@[simp] theorem State.modGeo_lkc : (s.modGeo f).lkc = s.lkc := rfl
@[simp] theorem State.modGeo_cal : (s.modGeo f).cal = s.cal := rfl
@[simp] theorem State.modGeo_ses : (s.modGeo f).ses = s.ses := rfl
@[simp] theorem State.modGeo_kpi : (s.modGeo f).kpi = s.kpi := rfl
@[simp] theorem State.modGeo_ptc : (s.modGeo f).ptc = s.ptc := rfl
@[simp] theorem State.modGeo_sto : (s.modGeo f).sto = s.sto := rfl
@[simp] theorem State.modGeo_pending : (s.modGeo f).pending = s.pending := rfl

end

section

variable (s : State) (f : Lkc → Lkc)

@[simp] theorem State.modLkc_lines : (s.modLkc f).lines = s.lines := rfl
@[simp] theorem State.modLkc_uptime : (s.modLkc f).uptime = s.uptime := rfl
@[simp] theorem State.modLkc_lamp : (s.modLkc f).lamp = s.lamp := rfl
@[simp] theorem State.modLkc_inputs : (s.modLkc f).inputs = s.inputs := rfl
@[simp] theorem State.modLkc_timings : (s.modLkc f).timings = s.timings := rfl
@[simp] theorem State.modLkc_timetable : (s.modLkc f).timetable = s.timetable := rfl
@[simp] theorem State.modLkc_settings : (s.modLkc f).settings = s.settings := rfl
@[simp] theorem State.modLkc_lsq : (s.modLkc f).lsq = s.lsq := rfl
@[simp] theorem State.modLkc_sinceCommit : (s.modLkc f).sinceCommit = s.sinceCommit := rfl
@[simp] theorem State.modLkc_inm : (s.modLkc f).inm = s.inm := rfl
@[simp] theorem State.modLkc_ssw : (s.modLkc f).ssw = s.ssw := rfl
@[simp] theorem State.modLkc_geo : (s.modLkc f).geo = s.geo := rfl
@[simp] theorem State.modLkc_lkc : (s.modLkc f).lkc = f s.lkc := rfl
@[simp] theorem State.modLkc_cal : (s.modLkc f).cal = s.cal := rfl
@[simp] theorem State.modLkc_ses : (s.modLkc f).ses = s.ses := rfl
@[simp] theorem State.modLkc_kpi : (s.modLkc f).kpi = s.kpi := rfl
@[simp] theorem State.modLkc_ptc : (s.modLkc f).ptc = s.ptc := rfl
@[simp] theorem State.modLkc_sto : (s.modLkc f).sto = s.sto := rfl
@[simp] theorem State.modLkc_pending : (s.modLkc f).pending = s.pending := rfl

end

section

variable (s : State) (f : Cal → Cal)

@[simp] theorem State.modCal_lines : (s.modCal f).lines = s.lines := rfl
@[simp] theorem State.modCal_uptime : (s.modCal f).uptime = s.uptime := rfl
@[simp] theorem State.modCal_lamp : (s.modCal f).lamp = s.lamp := rfl
@[simp] theorem State.modCal_inputs : (s.modCal f).inputs = s.inputs := rfl
@[simp] theorem State.modCal_timings : (s.modCal f).timings = s.timings := rfl
@[simp] theorem State.modCal_timetable : (s.modCal f).timetable = s.timetable := rfl
@[simp] theorem State.modCal_settings : (s.modCal f).settings = s.settings := rfl
@[simp] theorem State.modCal_lsq : (s.modCal f).lsq = s.lsq := rfl
@[simp] theorem State.modCal_sinceCommit : (s.modCal f).sinceCommit = s.sinceCommit := rfl
@[simp] theorem State.modCal_inm : (s.modCal f).inm = s.inm := rfl
@[simp] theorem State.modCal_ssw : (s.modCal f).ssw = s.ssw := rfl
@[simp] theorem State.modCal_geo : (s.modCal f).geo = s.geo := rfl
@[simp] theorem State.modCal_lkc : (s.modCal f).lkc = s.lkc := rfl
@[simp] theorem State.modCal_cal : (s.modCal f).cal = f s.cal := rfl
@[simp] theorem State.modCal_ses : (s.modCal f).ses = s.ses := rfl
@[simp] theorem State.modCal_kpi : (s.modCal f).kpi = s.kpi := rfl
@[simp] theorem State.modCal_ptc : (s.modCal f).ptc = s.ptc := rfl
@[simp] theorem State.modCal_sto : (s.modCal f).sto = s.sto := rfl
@[simp] theorem State.modCal_pending : (s.modCal f).pending = s.pending := rfl

end

section

variable (s : State) (f : Option Session → Option Session)

@[simp] theorem State.modSes_lines : (s.modSes f).lines = s.lines := rfl
@[simp] theorem State.modSes_uptime : (s.modSes f).uptime = s.uptime := rfl
@[simp] theorem State.modSes_lamp : (s.modSes f).lamp = s.lamp := rfl
@[simp] theorem State.modSes_inputs : (s.modSes f).inputs = s.inputs := rfl
@[simp] theorem State.modSes_timings : (s.modSes f).timings = s.timings := rfl
@[simp] theorem State.modSes_timetable : (s.modSes f).timetable = s.timetable := rfl
@[simp] theorem State.modSes_settings : (s.modSes f).settings = s.settings := rfl
@[simp] theorem State.modSes_lsq : (s.modSes f).lsq = s.lsq := rfl
@[simp] theorem State.modSes_sinceCommit : (s.modSes f).sinceCommit = s.sinceCommit := rfl
@[simp] theorem State.modSes_inm : (s.modSes f).inm = s.inm := rfl
@[simp] theorem State.modSes_ssw : (s.modSes f).ssw = s.ssw := rfl
@[simp] theorem State.modSes_geo : (s.modSes f).geo = s.geo := rfl
@[simp] theorem State.modSes_lkc : (s.modSes f).lkc = s.lkc := rfl
@[simp] theorem State.modSes_cal : (s.modSes f).cal = s.cal := rfl
@[simp] theorem State.modSes_ses : (s.modSes f).ses = f s.ses := rfl
@[simp] theorem State.modSes_kpi : (s.modSes f).kpi = s.kpi := rfl
@[simp] theorem State.modSes_ptc : (s.modSes f).ptc = s.ptc := rfl
@[simp] theorem State.modSes_sto : (s.modSes f).sto = s.sto := rfl
@[simp] theorem State.modSes_pending : (s.modSes f).pending = s.pending := rfl

end

section

variable (s : State) (f : Kpi → Kpi)

@[simp] theorem State.modKpi_lines : (s.modKpi f).lines = s.lines := rfl
@[simp] theorem State.modKpi_uptime : (s.modKpi f).uptime = s.uptime := rfl
@[simp] theorem State.modKpi_lamp : (s.modKpi f).lamp = s.lamp := rfl
@[simp] theorem State.modKpi_inputs : (s.modKpi f).inputs = s.inputs := rfl
@[simp] theorem State.modKpi_timings : (s.modKpi f).timings = s.timings := rfl
@[simp] theorem State.modKpi_timetable : (s.modKpi f).timetable = s.timetable := rfl
@[simp] theorem State.modKpi_settings : (s.modKpi f).settings = s.settings := rfl
@[simp] theorem State.modKpi_lsq : (s.modKpi f).lsq = s.lsq := rfl
@[simp] theorem State.modKpi_sinceCommit : (s.modKpi f).sinceCommit = s.sinceCommit := rfl
@[simp] theorem State.modKpi_inm : (s.modKpi f).inm = s.inm := rfl
@[simp] theorem State.modKpi_ssw : (s.modKpi f).ssw = s.ssw := rfl
@[simp] theorem State.modKpi_geo : (s.modKpi f).geo = s.geo := rfl
@[simp] theorem State.modKpi_lkc : (s.modKpi f).lkc = s.lkc := rfl
@[simp] theorem State.modKpi_cal : (s.modKpi f).cal = s.cal := rfl
@[simp] theorem State.modKpi_ses : (s.modKpi f).ses = s.ses := rfl
@[simp] theorem State.modKpi_kpi : (s.modKpi f).kpi = f s.kpi := rfl
@[simp] theorem State.modKpi_ptc : (s.modKpi f).ptc = s.ptc := rfl
@[simp] theorem State.modKpi_sto : (s.modKpi f).sto = s.sto := rfl
@[simp] theorem State.modKpi_pending : (s.modKpi f).pending = s.pending := rfl

end

section

variable (s : State) (f : Ptc → Ptc)

@[simp] theorem State.modPtc_lines : (s.modPtc f).lines = s.lines := rfl
@[simp] theorem State.modPtc_uptime : (s.modPtc f).uptime = s.uptime := rfl
@[simp] theorem State.modPtc_lamp : (s.modPtc f).lamp = s.lamp := rfl
@[simp] theorem State.modPtc_inputs : (s.modPtc f).inputs = s.inputs := rfl
@[simp] theorem State.modPtc_timings : (s.modPtc f).timings = s.timings := rfl
@[simp] theorem State.modPtc_timetable : (s.modPtc f).timetable = s.timetable := rfl
@[simp] theorem State.modPtc_settings : (s.modPtc f).settings = s.settings := rfl
@[simp] theorem State.modPtc_lsq : (s.modPtc f).lsq = s.lsq := rfl
@[simp] theorem State.modPtc_sinceCommit : (s.modPtc f).sinceCommit = s.sinceCommit := rfl
@[simp] theorem State.modPtc_inm : (s.modPtc f).inm = s.inm := rfl
@[simp] theorem State.modPtc_ssw : (s.modPtc f).ssw = s.ssw := rfl
@[simp] theorem State.modPtc_geo : (s.modPtc f).geo = s.geo := rfl
@[simp] theorem State.modPtc_lkc : (s.modPtc f).lkc = s.lkc := rfl
@[simp] theorem State.modPtc_cal : (s.modPtc f).cal = s.cal := rfl
@[simp] theorem State.modPtc_ses : (s.modPtc f).ses = s.ses := rfl
@[simp] theorem State.modPtc_kpi : (s.modPtc f).kpi = s.kpi := rfl
@[simp] theorem State.modPtc_ptc : (s.modPtc f).ptc = f s.ptc := rfl
@[simp] theorem State.modPtc_sto : (s.modPtc f).sto = s.sto := rfl
@[simp] theorem State.modPtc_pending : (s.modPtc f).pending = s.pending := rfl

end

section

variable (s : State) (f : Sto → Sto)

@[simp] theorem State.modSto_lines : (s.modSto f).lines = s.lines := rfl
@[simp] theorem State.modSto_uptime : (s.modSto f).uptime = s.uptime := rfl
@[simp] theorem State.modSto_lamp : (s.modSto f).lamp = s.lamp := rfl
@[simp] theorem State.modSto_inputs : (s.modSto f).inputs = s.inputs := rfl
@[simp] theorem State.modSto_timings : (s.modSto f).timings = s.timings := rfl
@[simp] theorem State.modSto_timetable : (s.modSto f).timetable = s.timetable := rfl
@[simp] theorem State.modSto_settings : (s.modSto f).settings = s.settings := rfl
@[simp] theorem State.modSto_lsq : (s.modSto f).lsq = s.lsq := rfl
@[simp] theorem State.modSto_sinceCommit : (s.modSto f).sinceCommit = s.sinceCommit := rfl
@[simp] theorem State.modSto_inm : (s.modSto f).inm = s.inm := rfl
@[simp] theorem State.modSto_ssw : (s.modSto f).ssw = s.ssw := rfl
@[simp] theorem State.modSto_geo : (s.modSto f).geo = s.geo := rfl
@[simp] theorem State.modSto_lkc : (s.modSto f).lkc = s.lkc := rfl
@[simp] theorem State.modSto_cal : (s.modSto f).cal = s.cal := rfl
@[simp] theorem State.modSto_ses : (s.modSto f).ses = s.ses := rfl
@[simp] theorem State.modSto_kpi : (s.modSto f).kpi = s.kpi := rfl
@[simp] theorem State.modSto_ptc : (s.modSto f).ptc = s.ptc := rfl
@[simp] theorem State.modSto_sto : (s.modSto f).sto = f s.sto := rfl
@[simp] theorem State.modSto_pending : (s.modSto f).pending = s.pending := rfl

end

section

variable (s : State) (f : List Instr → List Instr)

@[simp] theorem State.modPending_lines : (s.modPending f).lines = s.lines := rfl
@[simp] theorem State.modPending_uptime : (s.modPending f).uptime = s.uptime := rfl
@[simp] theorem State.modPending_lamp : (s.modPending f).lamp = s.lamp := rfl
@[simp] theorem State.modPending_inputs : (s.modPending f).inputs = s.inputs := rfl
@[simp] theorem State.modPending_timings : (s.modPending f).timings = s.timings := rfl
@[simp] theorem State.modPending_timetable : (s.modPending f).timetable = s.timetable := rfl
@[simp] theorem State.modPending_settings : (s.modPending f).settings = s.settings := rfl
@[simp] theorem State.modPending_lsq : (s.modPending f).lsq = s.lsq := rfl
@[simp] theorem State.modPending_sinceCommit : (s.modPending f).sinceCommit = s.sinceCommit := rfl
@[simp] theorem State.modPending_inm : (s.modPending f).inm = s.inm := rfl
@[simp] theorem State.modPending_ssw : (s.modPending f).ssw = s.ssw := rfl
@[simp] theorem State.modPending_geo : (s.modPending f).geo = s.geo := rfl
@[simp] theorem State.modPending_lkc : (s.modPending f).lkc = s.lkc := rfl
@[simp] theorem State.modPending_cal : (s.modPending f).cal = s.cal := rfl
@[simp] theorem State.modPending_ses : (s.modPending f).ses = s.ses := rfl
@[simp] theorem State.modPending_kpi : (s.modPending f).kpi = s.kpi := rfl
@[simp] theorem State.modPending_ptc : (s.modPending f).ptc = s.ptc := rfl
@[simp] theorem State.modPending_sto : (s.modPending f).sto = s.sto := rfl
@[simp] theorem State.modPending_pending : (s.modPending f).pending = f s.pending := rfl

end

section

variable (s : State) (p : PortId) (g : Port → Port)

@[simp] theorem State.modPort_lines : (s.modPort p g).lines = s.lines := rfl
@[simp] theorem State.modPort_uptime : (s.modPort p g).uptime = s.uptime := rfl
@[simp] theorem State.modPort_lamp : (s.modPort p g).lamp = s.lamp := rfl
@[simp] theorem State.modPort_inputs : (s.modPort p g).inputs = s.inputs := rfl
@[simp] theorem State.modPort_timings : (s.modPort p g).timings = s.timings := rfl
@[simp] theorem State.modPort_timetable : (s.modPort p g).timetable = s.timetable := rfl
@[simp] theorem State.modPort_settings : (s.modPort p g).settings = s.settings := rfl
@[simp] theorem State.modPort_lsq : (s.modPort p g).lsq = s.lsq := rfl
@[simp] theorem State.modPort_sinceCommit : (s.modPort p g).sinceCommit = s.sinceCommit := rfl
@[simp] theorem State.modPort_inm : (s.modPort p g).inm = s.inm := rfl
@[simp] theorem State.modPort_ssw : (s.modPort p g).ssw = s.ssw := rfl
@[simp] theorem State.modPort_geo : (s.modPort p g).geo = s.geo := rfl
@[simp] theorem State.modPort_lkc : (s.modPort p g).lkc = s.lkc := rfl
@[simp] theorem State.modPort_cal : (s.modPort p g).cal = s.cal := rfl
@[simp] theorem State.modPort_ses : (s.modPort p g).ses = s.ses := rfl
@[simp] theorem State.modPort_kpi : (s.modPort p g).kpi = s.kpi := rfl
@[simp] theorem State.modPort_ptc : (s.modPort p g).ptc = s.ptc.mod p g := rfl
@[simp] theorem State.modPort_sto : (s.modPort p g).sto = s.sto := rfl
@[simp] theorem State.modPort_pending : (s.modPort p g).pending = s.pending := rfl

end

/-- A changed port reads as changed, and every other port as it did. -/
@[simp] theorem Ptc.port_mod (t : Ptc) (p q : PortId) (g : Port → Port) :
    (t.mod p g).port q = if q = p then g (t.port q) else t.port q := by
  cases p <;> cases q <;> rfl

@[simp] theorem State.port_modPort (s : State) (p q : PortId) (g : Port → Port) :
    (s.modPort p g).port q = if q = p then g (s.port q) else s.port q := Ptc.port_mod s.ptc p q g

@[simp] theorem Ptc.mod_txn (t : Ptc) (p : PortId) (g : Port → Port) : (t.mod p g).txn = t.txn := by cases p <;> rfl
@[simp] theorem Ptc.mod_sdo (t : Ptc) (p : PortId) (g : Port → Port) : (t.mod p g).sdo = t.sdo := by cases p <;> rfl
@[simp] theorem Ptc.tx_mod (t : Ptc) (p : PortId) (u : UartId) (g : Port → Port) : (t.mod p g).tx u = t.tx u := by
  cases p <;> cases u <;> rfl
@[simp] theorem Ptc.port_setTx (t : Ptc) (p : PortId) (u : UartId) (x : Transmitter) : (t.setTx u x).port p = t.port p := by
  cases p <;> cases u <;> rfl
@[simp] theorem Ptc.tx_setTx (t : Ptc) (u v : UartId) (x : Transmitter) :
    (t.setTx u x).tx v = if v = u then x else t.tx v := by
  cases u <;> cases v <;> rfl

end Sys2Proof.Machine
end

