-- ==== Sys2Proof/Laws/Keeps.lean ====
section
/-! SUPPORT. What each shared operation can change: one lemma per operation, each saying that every other part stands as it
did. -/

namespace Sys2Proof.Machine

set_option Elab.async false

/-! ### Using and joining frames -/

theorem Keeps.refl (l : List Part) (s : State) : Keeps l s s := fun x _ => by cases x <;> rfl

theorem not_within {a c : List Part} (h : a.all (fun x => c.contains x) = true) {x : Part} (hx : x ∉ c) : x ∉ a := by
  intro hm
  have := List.all_eq_true.mp h x hm
  simp at this
  exact hx this

theorem Keeps.seq {a b c : List Part} {s t u : State} (h₁ : Keeps a s t) (h₂ : Keeps b t u)
    (h : (a ++ b).all (fun x => c.contains x) = true := by decide) : Keeps c s u := by
  intro x hx
  have hn := not_within h hx
  simp only [List.mem_append, not_or] at hn
  have e₁ := h₁ x hn.1
  have e₂ := h₂ x hn.2
  cases x <;> exact e₂.trans e₁

theorem Keeps.weaken {a c : List Part} {s t : State} (h₁ : Keeps a s t)
    (h : a.all (fun x => c.contains x) = true := by decide) : Keeps c s t :=
  fun x hx => h₁ x (not_within h hx)

theorem Keeps.ite {l : List Part} {s t u : State} {p : Prop} [Decidable p] (h₁ : Keeps l s t) (h₂ : Keeps l s u) :
    Keeps l s (if p then t else u) := by
  split
  · exact h₁
  · exact h₂

/-! ### The updates -/

theorem modLamp_keeps (f) (s : State) : Keeps [.lamp] s (s.modLamp f) := by intro x; cases x <;> simp [Part.same]
theorem modInputs_keeps (f) (s : State) : Keeps [.inputs] s (s.modInputs f) := by intro x; cases x <;> simp [Part.same]
theorem modTimings_keeps (f) (s : State) : Keeps [.timings] s (s.modTimings f) := by intro x; cases x <;> simp [Part.same]
theorem modTimetable_keeps (f) (s : State) : Keeps [.timetable] s (s.modTimetable f) := by
  intro x; cases x <;> simp [Part.same]
theorem modSettings_keeps (f) (s : State) : Keeps [.settings] s (s.modSettings f) := by
  intro x; cases x <;> simp [Part.same]
theorem modLsq_keeps (f) (s : State) : Keeps [.lsq] s (s.modLsq f) := by intro x; cases x <;> simp [Part.same]
theorem modInm_keeps (f) (s : State) : Keeps [.inm] s (s.modInm f) := by intro x; cases x <;> simp [Part.same]
theorem modSsw_keeps (f) (s : State) : Keeps [.ssw] s (s.modSsw f) := by intro x; cases x <;> simp [Part.same]
theorem modGeo_keeps (f) (s : State) : Keeps [.geo] s (s.modGeo f) := by intro x; cases x <;> simp [Part.same]
theorem modLkc_keeps (f) (s : State) : Keeps [.lkc] s (s.modLkc f) := by intro x; cases x <;> simp [Part.same]
theorem modCal_keeps (f) (s : State) : Keeps [.cal] s (s.modCal f) := by intro x; cases x <;> simp [Part.same]
theorem modSes_keeps (f) (s : State) : Keeps [.ses] s (s.modSes f) := by intro x; cases x <;> simp [Part.same]
theorem modPtc_keeps (f) (s : State) : Keeps [.ports] s (s.modPtc f) := by intro x; cases x <;> simp [Part.same]
theorem modSto_keeps (f) (s : State) : Keeps [.store] s (s.modSto f) := by intro x; cases x <;> simp [Part.same]
theorem modPort_keeps (p : PortId) (g) (s : State) : Keeps [.ports] s (s.modPort p g) := modPtc_keeps _ s

/-! ### Notices, the store, and what stands at the end of a command -/

theorem raiseFor_keeps (d) (n : Payload) (s : State) : Keeps [.ports] s (raiseFor d n s) := modPtc_keeps _ s
theorem raise_keeps (n : Payload) (s : State) : Keeps [.ports] s (raise n s) := modPtc_keeps _ s
theorem hasReply_keeps (p : PortId) (c : Byte) (a : Answer) (s : State) : Keeps [.ports] s (hasReply p c a s) :=
  modPtc_keeps _ s
theorem markDirty_keeps (r : RecordName) (s : State) : Keeps [.store] s (markDirty r s) := modSto_keeps _ s
theorem markIf_keeps (b : Bool) (r : RecordName) (s : State) : Keeps [.store] s (markIf b r s) :=
  (markDirty_keeps r s).ite (Keeps.refl _ s)

theorem startTx_keeps (u : UartId) (s : State) : Keeps [.ports] s (startTx u s) := by
  unfold startTx
  split
  · split
    · exact modPtc_keeps _ s
    · split
      · exact Keeps.refl _ s
      · exact modPtc_keeps _ s
  · exact Keeps.refl _ s

theorem beginCommit_keeps (s : State) : Keeps [.store, .sinceCommit] s (beginCommit s) := by
  unfold beginCommit
  split
  · split
    · exact Keeps.refl _ s
    · intro x hx
      cases x <;> first | rfl | simp at hx
  · exact Keeps.refl _ s

/-! ### The mute, the warp and the monitor -/

theorem assertMute_keeps (s : State) : Keeps [.ssw] s (assertMute s) := modSsw_keeps _ s
theorem unready_keeps (s : State) : Keeps [.ssw] s (unready s) := modSsw_keeps _ s
theorem muteCheck_keeps (s : State) : Keeps [.ssw] s (muteCheck s) := (Keeps.refl _ s).ite (assertMute_keeps s)
theorem releasePoint_keeps (s : State) : Keeps [.ssw] s (releasePoint s) := (modSsw_keeps _ s).ite (Keeps.refl _ s)

theorem takeReported_keeps (s : State) : Keeps [.ssw] s (takeReported s) :=
  ((modSsw_keeps _ s).seq (releasePoint_keeps _)).ite (Keeps.refl _ s)

theorem takeWarp_keeps (w : Warp) (s : State) : Keeps [.geo, .ssw, .ports] s (takeWarp w s) :=
  ((modGeo_keeps _ s).seq (c := [.geo, .ports]) (raise_keeps _ _)).seq (takeReported_keeps _)

theorem recompute_keeps (c : WarpCause) (s : State) : Keeps [.geo, .ssw, .ports] s (recompute c s) := by
  unfold recompute
  split
  · exact Keeps.refl _ s
  · exact (modGeo_keeps _ s).weaken.ite (takeWarp_keeps _ s)

theorem takePending_keeps (s : State) : Keeps [.geo, .ssw, .ports] s (takePending s) := by
  unfold takePending
  split
  · exact Keeps.refl _ s
  · exact takeWarp_keeps _ s

theorem geoFrame_keeps (s : State) : Keeps [.geo, .ssw, .ports] s (geoFrame s) :=
  (takePending_keeps s).ite (Keeps.refl _ s)

theorem applyPreset_keeps (c : WarpCause) (s : State) : Keeps [.geo, .ssw, .ports] s (applyPreset c s) := by
  unfold applyPreset
  split
  · exact Keeps.refl _ s
  · exact (modGeo_keeps _ s).seq (recompute_keeps _ _)

theorem setPath_keeps (i : Fin 6) (p : PathState) (s : State) : Keeps [.inm] s (setPath i p s) := modInm_keeps _ s
theorem restInput_keeps (i : Fin 6) (s : State) : Keeps [.inm] s (restInput i s) := setPath_keeps _ _ s
theorem setPresence_keeps (i : Fin 6) (b : Bool) (s : State) : Keeps [.inm] s (setPresence i b s) := modInm_keeps _ s
theorem modMon_keeps (f) (s : State) : Keeps [.inm] s (modMon f s) := modInm_keeps _ s
theorem seek_keeps (s : State) : Keeps [.inm] s (seek s) := modMon_keeps _ s
theorem track_keeps (s : State) : Keeps [.inm] s (track s) := modMon_keeps _ s

theorem recordTiming_keeps (i : Fin 6) (k : Fin 24) (s : State) : Keeps [.inputs, .store] s (recordTiming i k s) :=
  (Keeps.refl _ s).ite ((modInputs_keeps _ s).seq (markDirty_keeps _ _))

theorem forgetTimings_keeps (g) (s : State) : Keeps [.inputs, .store] s (forgetTimings g s) :=
  ((modInputs_keeps _ s).seq (markDirty_keeps _ _)).ite (Keeps.refl _ s)

theorem seekFrame_keeps (f : Measure) (s : State) : Keeps [.inm] s (seekFrame f s).1 := by
  unfold seekFrame
  split <;> exact modMon_keeps _ s

theorem trackFrame_keeps (f : Measure) (s : State) : Keeps [.inm] s (trackFrame f s).1 := by
  unfold trackFrame
  split <;> exact modMon_keeps _ s

theorem monitorFrame_keeps (n : Nat) (s : State) : Keeps [.inm] s (monitorFrame n s).1 := by
  unfold monitorFrame
  split
  · exact Keeps.refl _ s
  · exact modMon_keeps _ s
  · exact (modMon_keeps _ s).seq (seekFrame_keeps _ _)
  · exact (modMon_keeps _ s).seq (trackFrame_keeps _ _)

theorem monitorLine_keeps (s : State) : Keeps [.inm] s (monitorLine s) := by
  unfold monitorLine
  split
  · exact Keeps.refl _ s
  · exact Keeps.refl _ s
  · exact modMon_keeps _ s

theorem monitorWatchdog_keeps (s : State) : Keeps [.inm] s (monitorWatchdog s).1 := by
  unfold monitorWatchdog
  split
  · split
    · exact Keeps.refl _ s
    · exact modMon_keeps _ s
    · exact modMon_keeps _ s
  · exact Keeps.refl _ s

/-! ### The lamp's life -/

theorem evaluated_keeps (f) (s : State) : Keeps [.lamp, .ports] s (evaluated f s) := by
  unfold evaluated
  dsimp only
  split
  · exact (modLamp_keeps _ s).weaken
  · exact (modLamp_keeps _ s).seq (raise_keeps _ _)

theorem chargeStrike_keeps (s : State) : Keeps [.lamp, .ports, .store] s (chargeStrike s) :=
  (evaluated_keeps _ s).seq (markDirty_keeps _ _)
theorem countFailed_keeps (s : State) : Keeps [.lamp] s (countFailed s) := modLamp_keeps _ s
theorem clearHot_keeps (s : State) : Keeps [.lamp, .store] s (clearHot s) :=
  (modLamp_keeps _ s).seq (markDirty_keeps _ _)

/-! ### Source selection -/

theorem sesSource_keeps (x : SourceState) (s : State) : Keeps [.ses] s (sesSource x s) := modSes_keeps _ s
theorem handSource_keeps (r : SwitchRecord) (x : SourceState) (s : State) : Keeps [.ses] s (handSource r x s) :=
  (sesSource_keeps _ s).ite (Keeps.refl _ s)

theorem raiseSource_keeps (r) (s : State) : Keeps [.ports] s (raiseSource r s) := by
  unfold raiseSource
  split
  · exact Keeps.refl _ s
  · exact raise_keeps _ s

theorem supersede_keeps (s : State) : Keeps [.ses, .ports] s (supersede s) := by
  unfold supersede
  dsimp only
  split
  · exact Keeps.refl _ s
  · split
    · exact (handSource_keeps _ _ s).weaken
    · exact (handSource_keeps _ _ s).seq (raiseFor_keeps _ _ _)

theorem openRecord_keeps (k o i) (s : State) : Keeps [.ssw] s (openRecord k o i s) := modSsw_keeps _ s
theorem endScan_keeps (s : State) : Keeps [.ssw] s (endScan s) := modSsw_keeps _ s
theorem stopNosig_keeps (s : State) : Keeps [.ssw] s (stopNosig s) := modSsw_keeps _ s

theorem moveSelection_keeps (i : Fin 6) (s : State) : Keeps [.ssw, .inm] s (moveSelection i s) := by
  unfold moveSelection
  dsimp only
  split
  · exact (modSsw_keeps _ s).weaken
  · exact (modSsw_keeps _ s).weaken.ite ((modSsw_keeps _ s).seq (restInput_keeps _ _))

theorem leftLocked_keeps (b : Bool) (s : State) : Keeps [.geo, .ssw, .ports] s (leftLocked b s) :=
  (takePending_keeps s).ite (Keeps.refl _ s)

theorem setSelPath_keeps (p : PathState) (s : State) : Keeps [.inm] s (setSelPath p s) := by
  unfold setSelPath
  split
  · exact Keeps.refl _ s
  · exact setPath_keeps _ _ s

theorem beginTraining_keeps (k o i) (s : State) : Keeps [.inm, .ssw, .ses, .ports] s (beginTraining k o i s) := by
  have h₁ : Keeps [.inm, .ssw, .ses, .ports] s (moveSelection i (supersede s)) :=
    (supersede_keeps s).seq (moveSelection_keeps _ _)
  have h₂ : Keeps [.inm, .ssw, .ses, .ports] s (openRecord k o i (unready (moveSelection i (supersede s)))) :=
    h₁.seq (b := [.ssw]) ((unready_keeps _).seq (openRecord_keeps _ _ _ _))
  exact h₂.seq (b := [.inm, .ports])
    (Keeps.seq (a := [.inm]) ((setPath_keeps _ _ _).seq (seek_keeps _)) (raiseSource_keeps _ _))

/-- What a training with a change of the live keystone changes. -/
abbrev pictureParts : List Part := [.inm, .ssw, .geo, .ses, .ports]

theorem sswSelect_keeps (o i) (s : State) : Keeps pictureParts s (sswSelect o i s).1 := by
  unfold sswSelect
  split
  · exact Keeps.refl _ s
  · split
    · exact Keeps.refl _ s
    · exact Keeps.seq (a := [.inm, .ssw, .ses, .ports])
        ((endScan_keeps s).seq (beginTraining_keeps _ _ _ _)) (applyPreset_keeps _ _)

theorem retrainSelected_keeps (o i) (s : State) : Keeps pictureParts s (retrainSelected o i s) :=
  (beginTraining_keeps _ _ _ s).seq (leftLocked_keeps _ _)

theorem firstPowerOn_keeps (s : State) : Keeps pictureParts s (firstPowerOn s) := by
  unfold firstPowerOn
  split
  · exact Keeps.refl _ s
  · exact (Keeps.refl _ s).ite (retrainSelected_keeps _ _ s)

theorem scanSelect_keeps (i) (s : State) : Keeps pictureParts s (scanSelect i s) :=
  (beginTraining_keeps _ _ _ s).seq (applyPreset_keeps _ _)

theorem scanReturn_keeps (s : State) : Keeps pictureParts s (scanReturn s) := by
  unfold scanReturn
  split
  · exact (endScan_keeps s).weaken
  · exact (modSsw_keeps _ s).seq (scanSelect_keeps _ _)

theorem scanTry_keeps (l : List (Fin 6)) (s : State) : Keeps pictureParts s (scanTry l s) := by
  induction l generalizing s with
  | nil => exact scanReturn_keeps s
  | cons i rest ih =>
    exact (modSsw_keeps _ s).seq ((scanSelect_keeps i _).ite (ih _))

theorem scanNext_keeps (s : State) : Keeps pictureParts s (scanNext s) := scanTry_keeps _ s

theorem startScan_keeps (s : State) : Keeps pictureParts s (startScan s) := by
  unfold startScan
  split
  · exact Keeps.refl _ s
  · split
    · exact Keeps.refl _ s
    · exact (modSsw_keeps _ s).seq (scanNext_keeps _)

theorem scanOutcome_keeps (p : PathState) (s : State) : Keeps pictureParts s (scanOutcome p s) := by
  unfold scanOutcome
  split
  · exact Keeps.refl _ s
  · exact scanNext_keeps s
  · exact ((endScan_keeps s).seq (startScan_keeps _)).ite (endScan_keeps s).weaken

theorem afterOutcome_keeps (r) (p : PathState) (s : State) : Keeps pictureParts s (afterOutcome r p s) :=
  (scanOutcome_keeps p s).ite ((startScan_keeps s).ite (Keeps.refl _ s))

theorem closeRecord_keeps (x : SourceState) (s : State) : Keeps [.ssw, .ses] s (closeRecord x s) := by
  unfold closeRecord
  dsimp only
  split
  · exact (modSsw_keeps _ s).weaken
  · exact (modSsw_keeps _ s).seq (handSource_keeps _ _ _)

theorem reach_keeps (p : PathState) (s : State) : Keeps pictureParts s (reach p s) := by
  have h₁ : Keeps pictureParts s (setSelPath p (unready s)) := (unready_keeps s).seq (setSelPath_keeps _ _)
  have h₂ : Keeps pictureParts s (raiseSource s.ssw.record (closeRecord (outcomeState p) (setSelPath p (unready s)))) :=
    h₁.seq (b := [.ssw, .ses, .ports]) ((closeRecord_keeps _ _).seq (raiseSource_keeps _ _))
  exact h₂.seq (b := pictureParts) ((leftLocked_keeps _ _).seq (afterOutcome_keeps _ _ _))

theorem lockAt_keeps (k : Fin 24) (s : State) : Keeps [.inputs, .inm, .ssw, .geo, .ses, .ports, .store] s (lockAt k s) := by
  unfold lockAt
  split
  · exact Keeps.refl _ s
  · rename_i i _
    have h₁ : Keeps [.inputs, .inm, .store] s (recordTiming i k (track (setPath i .locked s))) :=
      Keeps.seq (a := [.inm]) ((setPath_keeps _ _ s).seq (track_keeps _)) (recordTiming_keeps _ _ _)
    refine h₁.seq (b := [.geo, .ssw, .ses, .ports]) ?_
    refine Keeps.seq (a := [.geo, .ssw, .ports]) (b := [.ssw, .ses, .ports])
      (t := stopNosig (recompute .lock (unready (recordTiming i k (track (setPath i .locked s)))))) ?_ ?_
    · exact Keeps.seq (a := [.geo, .ssw, .ports]) ((unready_keeps _).seq (recompute_keeps _ _)) (stopNosig_keeps _)
    · exact Keeps.seq (a := [.ssw, .ses]) ((closeRecord_keeps _ _).seq (endScan_keeps _)) (raiseSource_keeps _ _)

theorem sswLamp_keeps (n : LampState) (s : State) : Keeps [.ssw] s (sswLamp n s) := by
  unfold sswLamp
  dsimp only
  exact (((modSsw_keeps _ s).ite (Keeps.refl _ s)).seq (c := [.ssw])
    ((Keeps.refl _ _).ite (stopNosig_keeps _))).seq (muteCheck_keeps _)

theorem sswPowerOff_keeps (s : State) : Keeps [.ssw] s (sswPowerOff s) := (stopNosig_keeps s).seq (modSsw_keeps _ _)

/-! ### The lamp -/

theorem setDeferred_keeps (b : Bool) (s : State) : Keeps [.ses] s (setDeferred b s) := modSes_keeps _ s
theorem reportHoldEnd_keeps (s : State) : Keeps [.ses] s (reportHoldEnd s) :=
  (setDeferred_keeps _ s).ite (Keeps.refl _ s)
theorem endHold_keeps (s : State) : Keeps [.lsq, .ses] s (endHold s) := (reportHoldEnd_keeps s).seq (modLsq_keeps _ _)

theorem dropHold_keeps (c : DropCause) (s : State) : Keeps [.lsq, .ses, .ports] s (dropHold c s) := by
  unfold dropHold
  split
  · exact Keeps.refl _ s
  · exact (endHold_keeps s).seq (raise_keeps _ _)

theorem hold_keeps (o : Origin) (r : HeldReason) (s : State) : Keeps [.lsq, .ses, .ports] s (hold o r s) :=
  Keeps.seq (a := [.lsq, .ses])
    (((setDeferred_keeps _ s).ite (reportHoldEnd_keeps s)).seq (modLsq_keeps _ _)) (raise_keeps _ _)

theorem tellLife_keeps (n p : LampState) (s : State) : Keeps [.lamp, .store] s (tellLife n p s) :=
  (clearHot_keeps s).ite (Keeps.refl _ s)
theorem tellSession_keeps (n : LampState) (s : State) : Keeps [.ses] s (tellSession n s) :=
  (setDeferred_keeps _ s).ite (Keeps.refl _ s)
theorem tellLockout_keeps (n : LampState) (s : State) : Keeps [.lkc] s (tellLockout n s) :=
  (Keeps.refl _ s).ite (modLkc_keeps _ s)
theorem stopTimers_keeps (s : State) : Keeps [.lsq] s (stopTimers s) := modLsq_keeps _ s
theorem startCool_keeps (s : State) : Keeps [.lsq] s (startCool s) := modLsq_keeps _ s

/-- What a change of lamp state can change. -/
abbrev lampParts : List Part := [.lamp, .lsq, .ssw, .lkc, .ses, .ports, .store]

theorem lampChange_keeps (n : LampState) (c : LampCause) (s : State) : Keeps lampParts s (lampChange n c s) := by
  have h₁ : Keeps [.lsq] s (s.modLsq fun q => { q with state := n }) := modLsq_keeps _ s
  have h₂ (m : Payload) : Keeps [.lsq, .ports] s (raise m (s.modLsq fun q => { q with state := n })) :=
    h₁.seq (raise_keeps m _)
  have h₃ (u : State) : Keeps [.lamp, .ssw, .store] u (sswLamp n (tellLife n s.lsq.state u)) :=
    (tellLife_keeps _ _ u).seq (sswLamp_keeps _ _)
  have h₄ (u : State) : Keeps [.ses, .lkc] u (tellLockout n (tellSession n u)) :=
    (tellSession_keeps _ u).seq (tellLockout_keeps _ _)
  exact (h₂ _).seq (b := [.lamp, .ssw, .store, .ses, .lkc]) ((h₃ _).seq (h₄ _))

theorem goCooling_keeps (c : LampCause) (s : State) : Keeps lampParts s (goCooling c s) :=
  Keeps.seq (a := [.lsq]) ((stopTimers_keeps s).seq (startCool_keeps _)) (lampChange_keeps _ _ _)
theorem goFaultCooling_keeps (s : State) : Keeps lampParts s (goFaultCooling s) :=
  Keeps.seq (a := [.lsq]) ((stopTimers_keeps s).seq (startCool_keeps _)) (lampChange_keeps _ _ _)
theorem goWarmup_keeps (c : LampCause) (s : State) : Keeps lampParts s (goWarmup c s) :=
  Keeps.seq (a := [.lsq]) ((stopTimers_keeps s).seq (modLsq_keeps _ _)) (lampChange_keeps _ _ _)

theorem recordFault_keeps (k : FaultKind) (s : State) : Keeps [.lamp, .ports, .store] s (recordFault k s) := by
  unfold recordFault
  split
  · exact Keeps.seq (a := [.lamp, .store]) ((modLamp_keeps _ s).seq (markDirty_keeps _ _)) (raise_keeps _ _)
  · split
    · exact Keeps.seq (a := [.lamp, .store]) ((modLamp_keeps _ s).seq (markDirty_keeps _ _)) (raise_keeps _ _)
    · exact Keeps.refl _ s

theorem attemptBegun_keeps (s : State) : Keeps [.lsq] s (attemptBegun s) := modLsq_keeps _ s

theorem firstAttempt_keeps (o : Origin) (s : State) : Keeps lampParts s (firstAttempt o s) :=
  Keeps.seq (a := lampParts)
    (Keeps.seq (a := [.lsq]) ((modLsq_keeps _ s).seq (attemptBegun_keeps _)) (lampChange_keeps _ _ _))
    (chargeStrike_keeps _)

theorem nextAttempt_keeps (s : State) : Keeps [.lamp, .lsq, .ports, .store] s (nextAttempt s) :=
  Keeps.seq (a := [.lamp, .lsq, .ports, .store]) ((attemptBegun_keeps s).seq (chargeStrike_keeps _)) (raise_keeps _ _)

theorem ballastAtPowerOn_keeps (s : State) : Keeps lampParts s (ballastAtPowerOn s) :=
  Keeps.seq (a := lampParts) ((recordFault_keeps _ s).seq (dropHold_keeps _ _)) (lampChange_keeps _ _ _)

theorem powerOnInOff_keeps (o : Origin) (s : State) : Keeps lampParts s (powerOnInOff o s).1 := by
  unfold powerOnInOff
  split
  · exact Keeps.refl _ s
  split
  · exact ballastAtPowerOn_keeps s
  split
  · exact (endHold_keeps s).seq (goWarmup_keeps _ _)
  split
  · exact (hold_keeps _ _ s).weaken
  · exact (endHold_keeps s).seq (firstAttempt_keeps _ _)

theorem lsqPowerOn_keeps (o : Origin) (s : State) : Keeps lampParts s (lsqPowerOn o s).1 := by
  unfold lsqPowerOn
  split
  · exact powerOnInOff_keeps o s
  all_goals first
    | exact Keeps.refl _ s
    | exact lampChange_keeps _ _ s
    | exact (hold_keeps _ _ s).weaken

/-- What a power request can change. -/
abbrev powerParts : List Part := [.lamp, .lsq, .inm, .ssw, .geo, .lkc, .ses, .ports, .store]

theorem takePowerOn_keeps (o : Origin) (s : State) : Keeps powerParts s (takePowerOn o s).1 := by
  have h := lsqPowerOn_keeps o s
  unfold takePowerOn
  split
  · rename_i heq; rw [heq] at h; exact h.weaken
  · rename_i heq; rw [heq] at h; exact h.seq (firstPowerOn_keeps _)

theorem lsqPowerOff_keeps (s : State) : Keeps lampParts s (lsqPowerOff s).1 := by
  have h₁ := (endHold_keeps s).weaken (c := lampParts)
  have h₂ := goCooling_keeps .request s
  have h₃ : Keeps lampParts s (if s.settings.minOn ≤ s.lsq.litTime then (goCooling .request s, Answer.done)
      else (lampChange .offPending .request (s.modLsq fun q => { q with warmupTimer := none }), .accepted)).1 := by
    split
    · exact h₂
    · exact (modLsq_keeps _ s).seq (lampChange_keeps _ _ _)
  unfold lsqPowerOff
  cases s.lsq.state
  case off => exact h₁
  case cooling => exact h₁
  case striking => exact h₂
  case warmup => exact h₃
  case on => exact h₃
  case offPending => exact Keeps.refl _ s
  case faultCooling => exact Keeps.refl _ s
  case fault => exact Keeps.refl _ s

theorem takePowerOff_keeps (s : State) : Keeps lampParts s (takePowerOff s).1 :=
  (lsqPowerOff_keeps s).seq (sswPowerOff_keeps _)

theorem releaseHeld_keeps (s : State) : Keeps lampParts s (releaseHeld s) := by
  unfold releaseHeld
  split
  · exact Keeps.refl _ s
  split
  · exact (dropHold_keeps _ s).weaken
  split
  · exact Keeps.seq (a := lampParts) ((recordFault_keeps _ s).seq (lampChange_keeps _ _ _)) (dropHold_keeps _ _)
  split
  · exact (endHold_keeps s).seq (goWarmup_keeps _ _)
  split
  · exact (modLsq_keeps _ s).seq (raise_keeps _ _)
  · exact (endHold_keeps s).seq (firstAttempt_keeps _ _)

theorem testHold_keeps (s : State) : Keeps lampParts s (testHold s) := (releaseHeld_keeps s).ite (Keeps.refl _ s)

/-! ### The lockout and the session -/

theorem lkcChange_keeps (c : LockCause) (f : State → State) (l : List Part) (s : State) (h : Keeps l s (f s)) :
    Keeps (.ports :: l) s (lkcChange c f s) := by
  have e : (l ++ [Part.ports]).all (fun x => (Part.ports :: l).contains x) = true := by simp +contextual
  have e' : l.all (fun x => (Part.ports :: l).contains x) = true := by simp +contextual
  exact (h.weaken e').ite (h.seq (raise_keeps _ _) e)

theorem sessionLevel_keeps (l) (b : Bool) (s : State) : Keeps [.lkc, .ports] s (sessionLevel l b s) :=
  (lkcChange_keeps .session _ [.lkc] s (modLkc_keeps _ s)).weaken
theorem setConfirm_keeps (b : Bool) (s : State) : Keeps [.lkc] s (setConfirm b s) := modLkc_keeps _ s

theorem endDeferral_keeps (r f n) (s : State) : Keeps lampParts s (endDeferral r f n s) :=
  (takePowerOff_keeps s).ite (Keeps.refl _ s)
theorem endAction_keeps (f) (s : State) : Keeps lampParts s (endAction f s) := (takePowerOff_keeps s).ite (Keeps.refl _ s)

theorem closeSession_keeps (c n) (s : State) : Keeps powerParts s (closeSession c n s) := by
  have h₁ (l : Option Level) : Keeps [.lkc, .geo, .ssw, .ports] s (applyPreset .session (sessionLevel l true s)) :=
    (sessionLevel_keeps l true s).seq (applyPreset_keeps .session _)
  have h₂ (r f b) (u : State) : Keeps lampParts u (endAction f (endDeferral r f b u)) :=
    (endDeferral_keeps r f b u).seq (endAction_keeps f _)
  have h₃ (f m) (u : State) : Keeps [.ses, .ports] u (raise m (u.modSes f)) :=
    (modSes_keeps f u).seq (raise_keeps m _)
  unfold closeSession
  split
  · exact Keeps.refl _ s
  · exact ((h₁ _).seq (c := powerParts) (h₂ _ _ _ _)).seq (h₃ _ _ _)

theorem issueSelect_keeps (i) (s : State) : Keeps pictureParts s (issueSelect i s) := by
  unfold issueSelect
  split
  · exact Keeps.refl _ s
  · exact (sswSelect_keeps _ _ s).seq (modSes_keeps _ _)

theorem startActions_keeps (e b) (s : State) : Keeps powerParts s (startActions e b s).1 := by
  unfold startActions
  split
  · exact Keeps.refl _ s
  · dsimp only
    split
    · exact (issueSelect_keeps _ s).seq (takePowerOn_keeps _ _)
    · exact (issueSelect_keeps _ s).weaken

theorem openScheduled_keeps (w f d b h) (s : State) : Keeps powerParts s (openScheduled w f d b h s) := by
  refine Keeps.seq (a := powerParts) (b := [.ports]) ?_ (raise_keeps _ _)
  refine Keeps.seq (a := [.ses, .lkc, .ports]) (b := powerParts) ?_ (startActions_keeps _ _ _)
  exact (modSes_keeps _ s).seq ((sessionLevel_keeps _ _ _).ite (Keeps.refl _ _))

theorem openManual_keeps (o) (s : State) : Keeps [.lkc, .ses, .ports] s (openManual o s) :=
  Keeps.seq (a := [.lkc, .ses, .ports]) ((modSes_keeps _ s).seq (sessionLevel_keeps _ _ _)) (raise_keeps _ _)

theorem lateCheck_keeps (c b) (s : State) : Keeps powerParts s (lateCheck c b s) := by
  unfold lateCheck
  split
  · exact Keeps.refl _ s
  · exact openScheduled_keeps _ _ _ _ _ s

theorem closeThenLate_keeps (r) (s : State) : Keeps powerParts s (closeThenLate r s) := by
  unfold closeThenLate
  split
  · exact Keeps.refl _ s
  · exact (closeSession_keeps _ _ s).seq (lateCheck_keeps _ _ _)

end Sys2Proof.Machine
end

