-- ==== Sys2Proof/Laws/Ops.lean ====
section
/-! SUPPORT. What the shared operations do: a notice at a port, a record marked dirty, the taking of a request, and the
readings of operand bytes. -/

namespace Sys2Proof.Machine

set_option Elab.async false

/-! ### Notices -/

/-- A port after a notice has been raised for the ports that `d` names. -/
theorem raiseFor_port (d : PortId → Bool) (n : Payload) (s : State) (p : PortId) :
    (raiseFor d n s).port p = if receives s d n p then (s.port p).place ⟨n, s.cal.time⟩ else s.port p := by
  cases p <;> rfl

theorem raise_port (n : Payload) (s : State) (p : PortId) :
    (raise n s).port p = if receives s (fun _ => true) n p then (s.port p).place ⟨n, s.cal.time⟩ else s.port p :=
  raiseFor_port _ n s p

/-- A queue that keeps its size keeps it when a notice is placed. -/
theorem place_queue_le (q : Port) (n : Notice) (h : q.queue.length ≤ Config.queueMax) :
    (q.place n).queue.length ≤ Config.queueMax := by
  unfold Port.place
  split
  · simp; omega
  · exact h

/-- Placing a notice changes the queue and the overflow mark alone. -/
theorem place_rest (q : Port) (n : Notice) :
    (q.place n).asm = q.asm ∧ (q.place n).frames = q.frames ∧ (q.place n).reply = q.reply := by
  unfold Port.place
  split <;> exact ⟨rfl, rfl, rfl⟩

/-- Raising notices in order leaves what raising the first and then the others leaves. -/
@[simp] theorem raiseAll_nil (s : State) : raiseAll [] s = s := rfl
@[simp] theorem raiseAll_cons (n : Payload) (l : List Payload) (s : State) :
    raiseAll (n :: l) s = raiseAll l (raise n s) := rfl

theorem raiseAll_keeps (l : List Payload) (s : State) : Keeps [.ports] s (raiseAll l s) := by
  induction l generalizing s with
  | nil => exact Keeps.refl _ s
  | cons n l ih => exact (raise_keeps n s).seq (ih _)

theorem raiseAll_append (l m : List Payload) (s : State) : raiseAll (l ++ m) s = raiseAll m (raiseAll l s) := by
  induction l generalizing s with
  | nil => rfl
  | cons n l ih => exact ih _

/-! ### The dirty list -/

theorem markDirty_dirty (r : RecordName) (s : State) :
    (markDirty r s).sto.dirty = if r ∈ s.sto.dirty then s.sto.dirty else s.sto.dirty ++ [r] := by
  simp only [markDirty, State.modSto_sto, List.contains_iff_mem]
  split <;> rfl

/-- A record that has been marked stands in the list, and so does every one that stood there. -/
theorem mem_markDirty (r x : RecordName) (s : State) : x ∈ (markDirty r s).sto.dirty ↔ x = r ∨ x ∈ s.sto.dirty := by
  rw [markDirty_dirty]
  split
  · constructor
    · exact Or.inr
    · rintro (rfl | h) <;> assumption
  · simp [or_comm]

/-- Marking a record again changes nothing. -/
theorem markDirty_marked (r : RecordName) (s : State) (h : r ∈ s.sto.dirty) : markDirty r s = s := by
  unfold markDirty State.modSto
  simp [h]

/-! ### The readings of operand bytes -/

/-- A byte names an index exactly where it is that number. -/
theorem indexOf_eq_some (n : Nat) (b : Byte) (i : Fin n) : indexOf n b = some i ↔ b.toNat = i.val := by
  unfold indexOf
  split
  · simp [Fin.ext_iff]
  · constructor
    · simp
    · intro h
      have := i.isLt
      omega

theorem indexOf_eq_none (n : Nat) (b : Byte) : indexOf n b = none ↔ n ≤ b.toNat := by
  unfold indexOf
  split <;> simp <;> omega

/-- A clamped value stands within its bounds. -/
theorem clampSym_bounds (m n : Int) (h : 0 ≤ m) : -m ≤ clampSym m n ∧ clampSym m n ≤ m := by
  unfold clampSym
  split
  · omega
  · split <;> omega

/-- A value within the bounds stands as it is. -/
theorem clampSym_eq (m n : Int) (h₁ : -m ≤ n) (h₂ : n ≤ m) : clampSym m n = n := by
  unfold clampSym
  split
  · omega
  · split <;> omega

/-! ### The taking of a request -/

/-- An allowed request on a free port: the owning block acts, the port holds its answer, and what can begin begins. -/
theorem requestArrives_taken {p : PortId} {o : Byte} {a : Origin} {r : Request} {s : State} (h : Taken p o a r s) :
    requestArrives p o r s =
      settle (hasReply p (kindCode (requestKind r)) (ownerAct p a r s).2 (ownerAct p a r s).1) := by
  obtain ⟨⟨ho, hr, hf⟩, ha, hc⟩ := h
  unfold requestArrives frameArrives takeRequest
  simp [ho, hr, hf, ha, hc]

/-- A request that fails the check on a free port: the port holds DENIED with the effective level. -/
theorem requestArrives_denied {p : PortId} {o : Byte} {a : Origin} {r : Request} {s : State} (h : Free p s)
    (ha : originOn p o = some a) (hc : checkPasses s.effLevel a r = false) :
    requestArrives p o r s = settle (hasReply p (kindCode (requestKind r)) (.denied s.effLevel) s) := by
  obtain ⟨ho, hr, hf⟩ := h
  unfold requestArrives frameArrives takeRequest
  simp [ho, hr, hf, ha, hc]

/-- A request on a closed port changes nothing. -/
theorem requestArrives_closed {p : PortId} {o : Byte} {r : Request} {s : State} (h : s.portOpen p = false) :
    requestArrives p o r s = s := by
  unfold requestArrives frameArrives
  simp [h]

/-- The reply a port holds once its request has been answered. -/
theorem hasReply_answers (p : PortId) (c : Byte) (a : Answer) (s : State) :
    Answers p c a.status a.fields (hasReply p c a s) := by
  cases p <;> rfl

/-- A claim about the state before what begins at the end of a command. -/
theorem settles_of_eq {c : Instr} {s u : State} {P : State → Prop} (h : exec c s = .next (settle u)) (hp : P u) :
    Settles c s P := ⟨u, h, hp⟩

/-- A settled claim gives the command's next state. -/
theorem Settles.completes {c : Instr} {s : State} {P : State → Prop} (h : Settles c s P) :
    Completes c s fun t => ∃ u, t = settle u ∧ P u := by
  obtain ⟨u, e, hp⟩ := h
  exact ⟨settle u, e, u, rfl, hp⟩

/-! ### The second event and the deferred mark -/

/-- With nothing taken early, the blocks count and nothing else. -/
@[simp] theorem secondTaken_nil (s : State) : secondTaken [] s = llcSecond (sswSecond (lsqSecond s)) := rfl

/-- What falls due and is taken early acts as its own row does. -/
theorem secondTaken_one (x : DueTest) (s : State) :
    secondTaken [x] s = llcSecond (dueTest x (sswSecond (lsqSecond s))) := rfl

/-- An end of a timer that is not due changes nothing. -/
theorem atZero_of_ne {t : Option Nat} (h : t ≠ some 0) (f : State → State) (s : State) : atZero t f s = s := if_neg h

/-- A hold of origin TIMETABLE sets the mark of a scheduled session alone. -/
theorem setDeferred_true_ses (s : State) : (setDeferred true s).ses = holdMade s := rfl

/-- The end of such a hold clears the mark. -/
theorem setDeferred_false_ses (s : State) : (setDeferred false s).ses = s.ses.map fun r => { r with deferred := false } := rfl

/-! ### What stands at the end of every command -/

theorem settle_keeps_parts (s : State) : Keeps [.ports, .store, .sinceCommit] s (settle s) :=
  Keeps.seq (a := [.ports]) ((startTx_keeps .l s).seq (startTx_keeps .f _)) (beginCommit_keeps _)

end Sys2Proof.Machine
end

