-- ==== Sys2Proof/Tests/Slice0.lean ====
section
/-! SUPPORT. Tests. The expected values of the worked examples are the spec's own, from the sections named; the witnesses
show that every hypothesis of an obligation is met by a state and operands. -/

namespace Sys2Proof.Tests

open Sys2Proof.Machine

set_option Elab.async false

/-- A part that has started up: IN0 selected and untrained, nothing lit, open or queued. -/
def live : State :=
  { State.reset with
    sto := { State.reset.sto with phase := .complete }
    ssw := { State.reset.ssw with selected := some 0 } }
/-- A manual session. -/
def meeting : Session :=
  { kind := .manual, slot := none, openedDate := firstDate, openedTime := midnight, date := firstDate, plannedEnd := 600,
    level := .openLevel, warnLead := 5, allowance := 2, used := 1, warned := false, endOff := true, source := none,
    sourceState := none, deferred := false, suppressed := false }
/-- A scheduled session of slot 0. -/
def lecture : Session := { meeting with kind := .scheduled, slot := some 0, endOff := false }
/-- A session with its extensions used up. -/
def spent : Session := { meeting with used := 2 }
/-- A session that ends at midnight. -/
def lastHour : Session := { meeting with plannedEnd := 1440 }
/-- An entry of every weekday, 9:00 to 10:00. -/
def morning : Entry := ⟨true, .weekly 127, 540, 600, true, true, none, .lecture, 5, 2⟩
/-- That entry as sent. -/
def rawMorning : RawEntry := ⟨1, 0, ⟨127, 0, 0⟩, 540, 600, 1, 1, 0xFF, 1, 5, 2⟩
/-- A full holiday list. -/
def sixteen : List Date := (List.range 16).map fun n => ⟨2001 + n, 1, 1⟩
/-- A GUARD_SET that carries nothing. -/
def noGuard : RawGuard :=
  ⟨0, none, none, none, none, none, none, none, none, none, none, none, none, none, none, none, none, none, none⟩
/-- A warp of the default panel. -/
def aWarp : Warp := computeWarp 1920 1200 none .fit 0 0 0 .start
/-- Nothing falls between two steps of settling. -/
def noFalls : Vector (List SettlingEvent) 5 := Vector.replicate 5 []
/-- The state a command answers. -/
def run (c : Instr) (s : State) : State :=
  match exec c s with
  | .next t => t
  | _ => s

/-! ### Commands whose operands no line carries are ill-formed -/

theorem test_wf_label_of_two_characters_refused :
    Instr.wf (.inputConfig .f 4 0 ⟨0, none, none, some ⟨2, [0x41, 0x42]⟩, none, none, none⟩) = false := by decide
theorem test_wf_label_of_twelve_characters_accepted :
    Instr.wf (.inputConfig .f 4 0 ⟨0, none, none, some ⟨2, List.replicate 12 0x41⟩, none, none, none⟩) = true := by decide
theorem test_wf_unknown_code_body_of_two_bytes_refused :
    Instr.wf (.unknownRequestCode .e [0x01, 0xFF]) = false := by decide
theorem test_wf_unknown_code_with_a_valid_request_refused :
    Instr.wf (.unknownRequestCode .e [0x01, 0x20, 0x02, 0x02]) = false := by decide
theorem test_wf_unknown_code_with_a_foreign_origin_accepted :
    Instr.wf (.unknownRequestCode .e [0x01, 0x20, 0x05, 0x02]) = true := by decide
theorem test_wf_non_request_with_a_request_body_refused :
    Instr.wf (.nonRequestFrame .l [0x01, 0x20, 0x02, 0x02]) = false := by decide
theorem test_wf_non_request_body_of_65_bytes_refused :
    Instr.wf (.nonRequestFrame .l (List.replicate 65 0x02)) = false := by decide +kernel
theorem test_wf_write_of_no_byte_refused : Instr.wf (.eWriteTransaction [] true) = false := by decide
theorem test_wf_write_that_opens_with_the_read_byte_refused : Instr.wf (.eWriteTransaction [0x5A, 0x00] true) = false := by
  decide
theorem test_wf_request_timing_other_of_action_1_refused : wfRequest (.timingOther 0 1 []) = false := by decide
theorem test_wf_request_timing_other_of_three_bytes_refused : wfRequest (.timingOther 0 2 [0, 0, 0]) = false := by decide

/-! ### The frame of chapter 11 -/

/-- 11.1: a SELECT of IN2 from the remote. -/
theorem test_frame_of_select_IN2 :
    frameBytes (encodeBody 2 (.select 2)) = [0xA5, 0x04, 0x01, 0x20, 0x02, 0x02, 0xD7] := by decide
/-- 11.1: the same bytes received. -/
theorem test_select_IN2_is_received :
    scanAll false [0xA5, 0x04, 0x01, 0x20, 0x02, 0x02, 0xD7] = ⟨[[0x01, 0x20, 0x02, 0x02]], [], true⟩ ∧
      parseBody [0x01, 0x20, 0x02, 0x02] = .request 2 (.select 2) := by decide
/-- 11.3: GUARD_SET's mark bits 0 and 17 carry MIN_ON and EXT_MINUTES, in that order. -/
theorem test_guard_set_marks :
    parseBody [0x01, 0x73, 0x04, 0x02, 0x00, 0x01, 0x00, 0x78, 0x0F] =
      .request 4 (.guardSet { noGuard with minOn := some 120, extMinutes := some 15 }) := by decide +kernel

/-! ### The warps of chapter 5, "Worked cases" -/

theorem test_warp_case_1 :
    computeWarp 1920 1200 (some (1280, 720)) .fit 12 (-5) 0 .keystone =
      ⟨⟨90, 81⟩, ⟨1829, 60⟩, ⟨1919, 1139⟩, ⟨0, 1118⟩, 1920, 1080, 0, 60, 12, -5, some (1280, 720), .fit, 0, .keystone⟩ := by
  decide
theorem test_warp_case_2 :
    computeWarp 1920 1200 (some (1024, 768)) .fit (-40) 30 0 .keystone =
      ⟨⟨160, 0⟩, ⟨1759, 141⟩, ⟨1509, 1058⟩, ⟨410, 1199⟩, 1600, 1200, 160, 0, -40, 30, some (1024, 768), .fit, 0,
       .keystone⟩ := by decide
theorem test_warp_case_3 :
    fitSize 1920 1200 (some (1366, 768)) .fit = (1920, 1079) ∧
      (computeWarp 1920 1200 (some (1366, 768)) .fit 0 0 0 .start).yf = 60 := by decide
theorem test_warp_case_4 :
    fitSize 1920 1200 (some (640, 480)) .native = (640, 480) ∧
      (computeWarp 1920 1200 (some (640, 480)) .native 0 0 0 .start).tl = ⟨640, 360⟩ := by decide
theorem test_warp_case_7 :
    (computeWarp 1920 1200 none .fit 12 (-5) 0 .start).tl = ⟨90, 23⟩ ∧
      (computeWarp 1920 1200 none .fit 12 (-5) 0 .start).bl = ⟨0, 1176⟩ ∧ inset 13 1920 = 98 := by decide

/-! ### The figures of chapter 2, "Worked figures" -/

/-- One lecture's worth of wear: the carry at 14,640 + 14,160. -/
theorem test_wear_carries :
    ((addUnits 14160 { freshLamp with sub := 14640 }).hours, (addUnits 14160 { freshLamp with sub := 14640 }).sub) =
      (1, 0) := by decide
/-- A strike across a carry, which raises LAMP_WARN. -/
theorem test_strike_across_a_carry :
    let r := charged { defaultLamp with cur := { freshLamp with hours := 2699, sub := 28700 } }
    r.cur.hours = 2700 ∧ r.cur.sub = 140 ∧ conditionNotice .good r = some (.lampWarn .worn .good 2700 2700) := by decide
/-- At the ceiling. -/
theorem test_wear_at_the_ceiling :
    (addUnits 8 { freshLamp with hours := 65535, sub := 28795 }).sub = 28799 ∧
      (addUnits 8 { freshLamp with hours := 65535, sub := 28799 }).sub = 28799 := by decide
/-- Moving the limits: LIFE_HOURS 3,200 at 3,010 hours, and then WARN_HOURS 3,500. -/
theorem test_limits_moved :
    let r := { defaultLamp with cur := { freshLamp with hours := 3010 } }
    condition r = .expired ∧ newLimits ⟨0, none, some 3200⟩ r = (2700, 3200) ∧
      condition { r with lifeHours := 3200 } = .worn ∧
      newLimits ⟨0, some 3500, none⟩ { r with lifeHours := 3200 } = (3200, 3200) ∧
      limitsClamped ⟨0, some 3500, none⟩ { r with lifeHours := 3200 } = true ∧
      condition { r with warnHours := 3200, lifeHours := 3200 } = .good := by decide

/-! ### The signal of chapter 3, "Worked example: seeking, locking and losing a 1080-line signal" -/

theorem test_seeking_restarts_and_agrees :
    nextCandidates [⟨1125, 16683⟩] ⟨1127, 16684⟩ = (none, [⟨1127, 16684⟩]) ∧
      nextCandidates [⟨1127, 16684⟩] ⟨1126, 16690⟩ = (none, [⟨1127, 16684⟩, ⟨1126, 16690⟩]) ∧
      nextCandidates [⟨1127, 16684⟩, ⟨1126, 16690⟩] ⟨1127, 16700⟩ = (some ⟨1127, 16684⟩, []) := by decide
theorem test_classification :
    classify defaultTimings ⟨1127, 16684⟩ = some 5 ∧ classify defaultTimings ⟨1066, 16683⟩ = none := by decide +kernel
theorem test_lock_losses :
    lossOf (some ⟨1127, 16684⟩) ⟨1129, 16870⟩ = none ∧ lossOf (some ⟨1127, 16684⟩) ⟨1127, 16890⟩ = some .period := by decide

/-! ### The week of chapter 7 -/

/-- An enabled entry with the default actions. -/
def plain (days : EntryDays) (start stop : Nat) (level : Level) : Entry :=
  ⟨true, days, start, stop, false, true, none, level, 5, 2⟩
/-- Slots 0 to 4 as the worked example leaves them (days: bit 0 Monday). -/
def week : TimetableRecord :=
  ⟨Vector.ofFn fun i => match i.val with
    | 0 => some (plain (.weekly 0x15) 540 630 .lecture)
    | 1 => some (plain (.weekly 0x1F) 630 720 .openLevel)
    | 2 => some (plain (.weekly 0x0A) 720 810 .openLevel)
    | 3 => some (plain (.weekly 0x20) 690 780 .openLevel)
    | 4 => some (plain (.dated ⟨2024, 3, 6⟩) 480 1020 .secured)
    | _ => none, [⟨2024, 3, 8⟩]⟩
/-- The slots that run on a day of March 2024. -/
def runsOn (day : Nat) : List (Fin 48) :=
  allSlots.filter fun i => (week.slots[i]).any fun e => week.runs ⟨2024, 3, day⟩ e

theorem test_week_runs :
    ([4, 5, 6, 7, 8, 9, 10].map runsOn) = [[0, 1], [1, 2], [4], [1, 2], [], [3], []] := by decide +kernel
/-- Steps 3 and 8. -/
theorem test_week_conflicts :
    week.conflict 5 (plain (.weekly 0x0A) 600 690 .openLevel) = some 1 ∧
      week.conflict 5 (plain (.dated ⟨2024, 3, 6⟩) 900 960 .openLevel) = some 4 ∧
      week.freeSlot = some 5 := by decide +kernel
/-- Chapter 7, "setting the clock": 657 finds slot 1, 716 finds nothing. -/
theorem test_late_start :
    let s := { live with timetable := week, cal := ⟨⟨2024, 3, 5⟩, midnight, true, false⟩ }
    (s.lateStart ⟨2024, 3, 5⟩ 657).map (·.slot) = some 1 ∧ s.lateStart ⟨2024, 3, 5⟩ 716 = none := by decide +kernel
/-- Chapter 7: 2024-03-01 is a Friday, and a TIME_SET of an impossible date is INVALID. -/
theorem test_calendar_dates :
    weekday ⟨2024, 3, 1⟩ = 4 ∧ nextDate ⟨2024, 2, 28⟩ = ⟨2024, 2, 29⟩ ∧ nextDate ⟨2099, 12, 31⟩ = ⟨2000, 1, 1⟩ := by decide
/-- Chapter 7, "midnight and the purge". -/
theorem test_midnight_purges :
    (purge ⟨2024, 3, 7⟩ { live with timetable := week }).timetable.slots[4] = none ∧
      (purge ⟨2024, 3, 7⟩ { live with timetable := week }).sto.dirty = [.timetable] := by decide +kernel

/-! ### The Monday of chapter 8 -/

/-- Monday's three entries, at a minute of 2024-03-04. -/
def monday (m : Nat) (r : Session) : State :=
  { live with
    timetable := ⟨Vector.ofFn fun i => match i.val with
      | 0 => some ⟨true, .weekly 1, 540, 630, true, true, some 1, .lecture, 5, 2⟩
      | 1 => some ⟨true, .weekly 1, 630, 720, true, true, some 2, .lecture, 5, 2⟩
      | 5 => some ⟨true, .weekly 1, 735, 800, true, true, none, .lecture, 5, 2⟩
      | _ => none, []⟩
    cal := ⟨⟨2024, 3, 4⟩, ⟨m / 60, m % 60, 0⟩, true, false⟩, ses := some r
    lkc := { live.lkc with sessionLevel := some .lecture }, lsq := { live.lsq with state := .on } }
/-- Slot 1's session. -/
def second (stop used : Nat) : Session :=
  { lecture with slot := some 1, date := ⟨2024, 3, 4⟩, plannedEnd := stop, used := used, warned := true, endOff := true }

/-- 11:56, EXTEND: the least of 735, 735 and 1,440. -/
theorem test_extend_moves_the_end : (extendRequest (monday 716 (second 720 0))).1.ses.map (·.plannedEnd) = some 735 := by
  decide +kernel
/-- 12:11, EXTEND: REFUSED, NEXT_ENTRY. -/
theorem test_extend_meets_the_next_entry :
    (extendRequest (monday 731 (second 735 1))).2 = .refused .nextEntry := by decide +kernel
/-- 12:15: HANDOVER to slot 5. -/
theorem test_handover_at_the_planned_end :
    let t := minuteEvent ⟨2024, 3, 4⟩ 735 (monday 735 (second 735 1))
    t.ses.map (fun r => (r.slot, r.plannedEnd)) = some (some 5, 800) ∧ t.lsq.state = .on ∧
      t.lkc.sessionLevel = some .lecture := by decide +kernel
/-- Chapter 8, "the clock corrected during a lecture". -/
theorem test_session_moves_with_the_clock :
    (movedSession { lecture with plannedEnd := 630 } 590 ⟨2024, 3, 4⟩ 620).plannedEnd = 660 ∧
      (movedSession { lecture with plannedEnd := 630 } 590 ⟨2024, 3, 4⟩ 626).plannedEnd = 666 := by decide
/-- The window's opening time: stamps 1,000, 1,500, 2,000 and 2,200 at uptime 3,000 open it at 4,600 (R4, R5). -/
theorem test_window_opens :
    let s := { live with uptime := 3000, lsq := { live.lsq with strikeLog := [1000, 1500, 2000, 2200] } }
    s.windowFull = true ∧ s.windowWait = 1600 ∧ s.openingTime .window = ⟨0, 26, 40⟩ := by decide +kernel

/-! ### The busy engine port of chapter 9 -/

/-- A notice that can be told from others. -/
def numbered (n : Nat) : Notice := ⟨.keypadConfirm .on n, midnight⟩
/-- The port at step 5: sixteen notices and the mark set. -/
def busyE : State :=
  live.modPort .e fun q => { q with queue := (List.range 16).map numbered, overflow := true }

theorem test_notices_read_takes_four_and_appends_overflow :
    ((run (.noticesRead .e 1) busyE).port .e).queue =
        ((List.range 16).drop 4).map numbered ++ [⟨.overflow, midnight⟩] ∧
      ((run (.noticesRead .e 1) busyE).port .e).overflow = false ∧
      ((run (.noticesRead .e 1) busyE).port .e).reply.map (fun r => (r.code, r.status, r.fields.take 2)) =
        some (0x9B, .done, [4, 13]) := by decide +kernel
/-- A full queue drops the notice and sets the mark. -/
theorem test_full_queue_sets_the_mark :
    ((raise (.keypadConfirm .on 5) (live.modPort .e fun q => { q with queue := (List.range 16).map numbered })).port
      .e).overflow = true := by decide +kernel

/-- R168: once a write has reached a check byte, here a wrong one, the bytes that follow in it are discarded. -/
theorem test_bytes_after_a_check_byte_are_discarded :
    ((run (.eWriteTransaction ([0xA5, 0x04, 0x01, 0x20, 0x02, 0x02, 0xA5, 0x00] ++
        [0xA5, 0x04, 0x01, 0x20, 0x02, 0x02, 0xD7]) true) live).port .e).reply = none ∧
      ((run (.eWriteTransaction [0xA5, 0x04, 0x01, 0x20, 0x02, 0x02, 0xD7] true) live).port .e).reply =
        some ⟨0x20, .accepted, []⟩ := by decide +kernel
/-- L sending a reply, with a READ waiting in its buffer. -/
def waitingL : State :=
  (live.modPort .l fun q => { q with reply := some ⟨0x10, .done, []⟩, frames := [[1, 0x90, 4]] }).modPtc fun t =>
    { t with lTx := .reply [0xA5] }
/-- R167: with a reply just sent, a frame waiting and a notice queued, either comes first. -/
theorem test_either_comes_first :
    let s := waitingL.modPort .l fun q => { q with queue := [numbered 1] }
    (run (.transmissionEnd .l true) s).ptc.lTx = .notice (frameBytes (noticeBody (numbered 1))) ∧
      ((run (.transmissionEnd .l true) s).port .l).reply.isSome = true ∧
      (match (run (.transmissionEnd .l false) s).ptc.lTx with | .reply _ => true | _ => false) = true := by decide +kernel

/-! ### The commits of chapter 10, "Worked sequence: commits around a power cut" -/

/-- t = 30: with INPUTS complete and LAMP listed last, LAMP begins and LLC's count returns to 0. -/
theorem test_lamp_commits_first :
    let s := { live with sinceCommit := 12,
                         sto := { live.sto with inflight := some (.inputs live.inputs), dirty := [.timetable, .inputs, .lamp] } }
    (run .commitComplete s).sto.inflight = some (.lamp live.lamp) ∧ (run .commitComplete s).sto.dirty = [.timetable, .inputs] ∧
      (run .commitComplete s).sinceCommit = 0 := by decide +kernel
/-- t = 52: in power-fail mode the final LAMP commit begins. -/
theorem test_final_commit_begins :
    let s := { live with sto := { live.sto with inflight := some (.lamp live.lamp), dirty := [.timetable, .inputs, .lamp],
                                                pf := .owed } }
    (run .commitComplete s).sto.pf = .begun ∧ (run .commitComplete s).sto.dirty = [.timetable, .inputs] := by decide +kernel
/-- t = 140: main supply falls with no commit in flight; the images stand. -/
theorem test_supply_falls : (run .supplyFall live).sto.images = live.sto.images ∧ (run .supplyFall live).operating = false := by
  decide +kernel
/-- Chapter 10, "a start-up with a bad record": hot and without a fault the lamp starts in COOLING with a full COOL. -/
theorem test_hot_lamp_starts_cooling :
    let r := { defaultLamp with cur := { freshLamp with hot := true } }
    let m := { blankImages with lamp := ⟨r, Config.crc16 r, true⟩ }
    let s := { State.reset with sto := { State.reset.sto with images := m } }
    (run (.startupLoadComplete noFalls) s).lsq.state = .cooling ∧
      (run (.startupLoadComplete noFalls) s).lsq.coolTimer = some 90 := by decide +kernel
/-- A first start-up: five records lost, the first selected input untrained, generation 0. -/
theorem test_first_start_up :
    let t := run (.startupLoadComplete noFalls) State.reset
    t.ssw.selected = some 0 ∧ t.ssw.trained = false ∧ t.geo.active.map (·.generation) = some 0 ∧ t.sto.phase = .complete := by decide +kernel

/-- R187: a second event that falls once the lamp has settled counts its COOL down; a calendar second moves the clock on. -/
theorem test_second_while_settling :
    let r := { defaultLamp with cur := { freshLamp with hot := true } }
    let m := { blankImages with lamp := ⟨r, Config.crc16 r, true⟩ }
    let s := { State.reset with sto := { State.reset.sto with images := m } }
    let t := run (.startupLoadComplete #v[[], [.second], [], [.calendar], []]) s
    t.lsq.coolTimer = some 89 ∧ t.uptime = 1 ∧ t.cal.time = ⟨0, 0, 1⟩ := by decide +kernel
/-- R178: an image holds the CRC of the content committed to it. -/
theorem test_commit_writes_the_crc :
    (setImage blankImages (.lamp defaultLamp) true).lamp = ⟨defaultLamp, Config.crc16 defaultLamp, true⟩ := rfl

/-! ### The morning and the button of chapter 6 -/

/-- 08:40: LOCKOUT_BASE LECTURE from facilities. -/
theorem test_lockout_base_raises_the_level : (run (.lockoutBase .f 0 1) live).effLevel = .lecture := by decide +kernel
/-- 09:12: a SELECT by the remote at PRESENTER is DENIED, PRESENTER. -/
theorem test_select_denied_at_presenter :
    let s := live.modLkc fun k => { k with hold := true, sessionLevel := some .lecture }
    ((run (.select .e 2 4) s).port .e).reply = some ⟨0x20, .denied, [2]⟩ := by decide +kernel
/-- 10:31: SERVICE ENTER with the lamp COOLING is REFUSED, LAMP_NOT_OFF. -/
theorem test_service_refused_while_cooling :
    let s := live.modLsq fun q => { q with state := .cooling, coolTimer := some 3 }
    ((run (.serviceEnter .e 1) s).port .e).reply = some ⟨0x82, .refused, [9]⟩ := by decide +kernel
/-- 0.0 and 8.1: a press in ON opens the confirm window; at LECTURE it is denied and the window closes. -/
theorem test_power_press :
    let s := live.modLsq fun q => { q with state := .on }
    (run (.kpPowerPress ⟨true, false, false⟩) s).lkc.confirmOpen = true ∧
      (run (.kpPowerPress ⟨true, false, false⟩) ((s.modLkc fun k => { k with confirmOpen := true }).modSettings fun g =>
        { g with baseLevel := .lecture })).lkc.confirmOpen = false := by decide +kernel

/-- 12.3 at u=62, R25: the second at which the count reaches NOSIG_DIM is weighed at 4 or at 8, by which is taken first. -/
theorem test_either_weight :
    let s := ((live.modSsw fun w => { w with trained := true, nosigCount := 59 }).modInm fun n =>
      { n with path := n.path.set 0 .noSignal }).modLsq fun q => { q with state := .on }
    let s := s.modLines fun l => { l with lit := true }
    (run (.secondEvent [.nosigDim]) s).lamp.cur.sub = 4 ∧ (run .nosigDimReached (run .secondEvent s)).lamp.cur.sub = 8 := by
  decide +kernel
/-- R31: the end of a cool taken before the second event leaves the flag set, and taken after it leaves it clear. -/
theorem test_either_flag :
    let s := (live.modLsq fun q => { q with state := .cooling, coolTimer := some 1 }).modLines fun l => { l with lit := true }
    (run (.secondEvent [.cool]) s).lamp.cur.hot = true ∧
      (run .coolTimerExpiry (run .secondEvent s)).lamp.cur.hot = false := by decide +kernel
/-- R150: a hold of a timetable ignition leaves the mark of a manual session clear, and sets that of a scheduled one. -/
theorem test_manual_mark_stays_clear :
    let s := live.modLsq fun q =>
      { q with state := .striking, gapTimer := some 0, ignOrigin := .timetable, strikeLog := [0, 0, 0, 0] }
    (run .retryGapExpiry (s.modSes fun _ => some meeting)).ses.map (·.deferred) = some false ∧
      (run .retryGapExpiry (s.modSes fun _ => some lecture)).ses.map (·.deferred) = some true := by decide +kernel
/-- A second event takes each end or test at most once. -/
theorem test_wf_refuses_a_test_twice :
    Instr.wf (.secondEvent [.cool, .cool]) = false ∧ Instr.wf (.secondEvent [.cool, .minOn]) = true := by decide
/-- R83: a NOSIG_OFF lowered below a count that has already passed it is tested at once; rewritten it tests nothing. -/
theorem test_nosig_off_lowered :
    let s := ((live.modSsw fun w => { w with trained := true, nosigCount := 1000 }).modInm fun n =>
      { n with path := n.path.set 0 .noSignal }).modLsq fun q => { q with state := .on }
    (run (.guardSet .f 4 { noGuard with nosigOff := some 899 }) s).lsq.state = .offPending ∧
      (run (.guardSet .f 4 { noGuard with nosigOff := some 900 }) s).lsq.state = .on := by decide +kernel
/-- R73: the entry of a LOCKED path taken out of use, and no other matching, leaves it UNSUPPORTED. -/
theorem test_reclassified :
    let s := (live.modSsw fun w => { w with trained := true }).modInm fun n =>
      { n with path := n.path.set 0 .locked, mon := { n.mon with lastStable := some ⟨⟨1127, 16684⟩, some 5⟩ } }
    (run (.timingLoadOutOfUse .f 4 5) s).selPath = some .unsupported := by decide +kernel
/-- R94: a button let go is taken as released. -/
theorem test_button_released :
    let s := { live with kpi := { live.kpi with power := true } }
    (run (.kpSourcePress ⟨false, true, false⟩) s).kpi.power = false ∧
      (run (.kpSourcePress ⟨false, true, false⟩) s).kpi.source = true := by decide +kernel

/-! ### Every clause of an obligation has a case that meets its hypotheses

A clause whose hypotheses are among those of another clause is met by the case of that other one. -/

/-- The state with IN0 trained, its path as given. -/
def trainedAt (x : PathState) : State :=
  (live.modSsw fun w => { w with trained := true }).modInm fun n => { n with path := n.path.set 0 x }
/-- With a switch record of IN0. -/
def switching (k : SwitchKind) (a : Origin) (s : State) : State :=
  s.modSsw fun w => { w with record := some ⟨0, a, k, false⟩ }
/-- With a scan under way at IN0 from the home input IN2, a rescan noted. -/
def scanning (x : ScanPhase) : State :=
  (switching .scan .part (trainedAt .training)).modSsw fun w =>
    { w with phase := x, home := some 2, rescan := true, scanList := [0, 1], scanPos := 1 }
/-- With IN1 present. -/
def present1 (s : State) : State := s.modInm fun n => { n with deb := n.deb.set 1 ⟨true, none⟩ }
/-- With IN0's debounce timer about to expire at a level. -/
def expiring (v : Bool) (s : State) : State := s.modInm fun n => { n with deb := n.deb.set 0 ⟨!v, some v⟩ }
/-- With IN1's debounce timer about to expire at the high level. -/
def expiring1 (s : State) : State := s.modInm fun n => { n with deb := n.deb.set 1 ⟨false, some true⟩ }
/-- With IN0 present. -/
def present0 (s : State) : State := s.modInm fun n => { n with deb := n.deb.set 0 ⟨true, none⟩ }
/-- With LIT asserted. -/
def litUp (s : State) : State := s.modLines fun l => { l with lit := true }
/-- With a frame open and the measurement held, in a mode of the monitor. -/
def measuring (x : MonitorMode) (m : Measure) (s : State) : State :=
  s.modInm fun n =>
    { n with mon := { n.mon with mode := x, openFrame := some ⟨0, m.lines⟩, candidates := [m, m], locked := some m, watchdog := true } }
/-- With the measurement the last stable one. -/
def measured (m : Measure) (s : State) : State :=
  s.modInm fun n => { n with mon := { n.mon with lastStable := some ⟨m, none⟩ } }
/-- With a last timing index at an input. -/
def lastOf (i : Fin 6) (k : Fin 24) (s : State) : State :=
  s.modInputs fun r => { r with entries := r.entries.set i { r.entries[i] with lastTiming := some k } }
/-- With an input disabled. -/
def disabled (i : Fin 6) (s : State) : State :=
  s.modInputs fun r => { r with entries := r.entries.set i { r.entries[i] with enabled := false } }
/-- With an entry in a slot. -/
def slotted (i : Fin 48) (e : Entry) (s : State) : State :=
  s.modTimetable fun t => { t with slots := t.slots.set i (some e) }
/-- With an ignition of the lectern held. -/
def holding (c : HeldReason) (s : State) : State := s.modLsq fun q => { q with held := some ⟨.lectern, c⟩ }
/-- At a valid date and time. -/
def clocked (d : Date) (t : TimeOfDay) (s : State) : State := s.modCal fun c => { c with date := d, time := t, valid := true }
/-- One calendar second on. -/
def ticked (s : State) : State := { s with cal := s.cal.next }
/-- One calendar second on, with the purge of midnight. -/
def purged (s : State) : State := purge s.cal.next.date (ticked s)
/-- An entry of the first hour of the day. -/
def midnightEntry : Entry := { morning with start := 0, stop := 60 }

theorem test_witness_PowerOnStrikes :
    ∃ (p : PortId) (o : Byte) (a : Origin) (s : State), Taken p o a .powerOn s ∧ pictureFits s = true ∧ s.lsq.state =
      .off ∧ condition s.lamp ≠ .expired ∧ s.lines.bfault = false ∧ s.lines.lit = false ∧ s.windowFull = false ∧
      s.ssw.trained = true ∧ manualOpens s = false :=
  ⟨.l, 4, .lectern, (trainedAt .locked).modSes fun _ => some meeting, by unfold Taken Free; decide +kernel⟩

theorem test_witness_PowerOnRefused :
    (∃ (p : PortId) (o : Byte) (a : Origin) (s : State), Taken p o a .powerOn s ∧ s.lsq.state = .off ∧
       condition s.lamp = .expired) ∧
    (∃ (p : PortId) (o : Byte) (a : Origin) (s : State), Taken p o a .powerOn s ∧
       (s.lsq.state = .faultCooling ∨ s.lsq.state = .fault)) ∧
    (∃ (p : PortId) (o : Byte) (a : Origin) (s : State), Taken p o a .powerOn s ∧ s.lsq.state = .off ∧
       condition s.lamp ≠ .expired ∧ s.lines.bfault = true) :=
  ⟨⟨.l, 4, .lectern, (live.modLamp (modCur fun c => { c with hours := 3000 })), by unfold Taken Free; decide +kernel⟩,
   ⟨.l, 4, .lectern, (live.modLsq fun q => { q with state := .faultCooling }), by unfold Taken Free; decide +kernel⟩,
   ⟨.l, 4, .lectern, (live.modLines fun l => { l with bfault := true }), by unfold Taken Free; decide +kernel⟩⟩

theorem test_witness_PowerOnElsewhere :
    (∃ (p : PortId) (o : Byte) (a : Origin) (s : State), Taken p o a .powerOn s ∧ pictureFits s = true ∧ s.lsq.state ≠
       .faultCooling ∧ s.lsq.state ≠ .fault ∧ (s.lsq.state = .off → condition s.lamp ≠ .expired ∧ s.lines.bfault = false
       ∧ (s.lines.lit = true ∨ s.windowFull = true)) ∧ s.lsq.state = .off ∧ s.lines.lit = true) ∧
    (∃ (p : PortId) (o : Byte) (a : Origin) (s : State), Taken p o a .powerOn s ∧ pictureFits s = true ∧ s.lsq.state ≠
       .faultCooling ∧ s.lsq.state ≠ .fault ∧ (s.lsq.state = .off → condition s.lamp ≠ .expired ∧ s.lines.bfault = false
       ∧ (s.lines.lit = true ∨ s.windowFull = true)) ∧ s.lsq.state = .off ∧ s.lines.lit = false) ∧
    (∃ (p : PortId) (o : Byte) (a : Origin) (s : State), Taken p o a .powerOn s ∧ pictureFits s = true ∧ s.lsq.state ≠
       .faultCooling ∧ s.lsq.state ≠ .fault ∧ (s.lsq.state = .off → condition s.lamp ≠ .expired ∧ s.lines.bfault = false
       ∧ (s.lines.lit = true ∨ s.windowFull = true)) ∧ (s.lsq.state = .striking ∨ s.lsq.state = .warmup ∨ s.lsq.state =
       .on)) ∧
    (∃ (p : PortId) (o : Byte) (a : Origin) (s : State), Taken p o a .powerOn s ∧ pictureFits s = true ∧ s.lsq.state ≠
       .faultCooling ∧ s.lsq.state ≠ .fault ∧ (s.lsq.state = .off → condition s.lamp ≠ .expired ∧ s.lines.bfault = false
       ∧ (s.lines.lit = true ∨ s.windowFull = true)) ∧ s.lsq.state = .offPending ∧ muteFits s = true) ∧
    (∃ (p : PortId) (o : Byte) (a : Origin) (s : State), Taken p o a .powerOn s ∧ pictureFits s = true ∧ s.lsq.state ≠
       .faultCooling ∧ s.lsq.state ≠ .fault ∧ (s.lsq.state = .off → condition s.lamp ≠ .expired ∧ s.lines.bfault = false
       ∧ (s.lines.lit = true ∨ s.windowFull = true)) ∧ s.lsq.state = .cooling) :=
  ⟨⟨.l, 4, .lectern, live.modLines fun l => { l with lit := true }, by unfold Taken Free; decide +kernel⟩,
   ⟨.l, 4, .lectern, live.modLsq fun q => { q with strikeLog := [0, 0, 0, 0] }, by unfold Taken Free; decide +kernel⟩,
   ⟨.l, 4, .lectern, live.modLsq fun q => { q with state := .striking }, by unfold Taken Free; decide +kernel⟩,
   ⟨.l, 4, .lectern, live.modLsq fun q => { q with state := .offPending }, by unfold Taken Free; decide +kernel⟩,
   ⟨.l, 4, .lectern, live.modLsq fun q => { q with state := .cooling }, by unfold Taken Free; decide +kernel⟩⟩

theorem test_witness_PowerOffByState :
    (∃ (p : PortId) (o : Byte) (a : Origin) (s : State), Taken p o a .powerOff s ∧ heldFits s = true ∧
       (s.lsq.state = .off ∨ s.lsq.state = .cooling)) ∧
    (∃ (p : PortId) (o : Byte) (a : Origin) (s : State), Taken p o a .powerOff s ∧ heldFits s = true ∧
       s.lsq.state = .striking) ∧
    (∃ (p : PortId) (o : Byte) (a : Origin) (s : State), Taken p o a .powerOff s ∧ heldFits s = true ∧
       (s.lsq.state = .warmup ∨ s.lsq.state = .on) ∧ s.settings.minOn ≤ s.lsq.litTime) ∧
    (∃ (p : PortId) (o : Byte) (a : Origin) (s : State), Taken p o a .powerOff s ∧ heldFits s = true ∧
       (s.lsq.state = .warmup ∨ s.lsq.state = .on) ∧ s.lsq.litTime < s.settings.minOn) ∧
    (∃ (p : PortId) (o : Byte) (a : Origin) (s : State), Taken p o a .powerOff s ∧ heldFits s = true ∧
       (s.lsq.state = .offPending ∨ s.lsq.state = .faultCooling ∨ s.lsq.state = .fault)) ∧
    (∃ (p : PortId) (o : Byte) (a : Origin) (s : State), Taken p o a .powerOff s ∧ heldFits s = true) ∧
    (∃ (p : PortId) (o : Byte) (a : Origin) (s : State), Taken p o a .powerOff s ∧ heldFits s = true ∧ s.ses = none) ∧
    (∃ (p : PortId) (o : Byte) (a : Origin) (s : State), Taken p o a .powerOff s ∧ heldFits s = true ∧ s.ses ≠ none) :=
  ⟨⟨.l, 4, .lectern, live, by unfold Taken Free; decide +kernel⟩,
   ⟨.l, 4, .lectern, (live.modLsq fun q => { q with state := .striking }), by unfold Taken Free; decide +kernel⟩,
   ⟨.l, 4, .lectern, ((live.modLsq fun q => { q with state := .warmup }).modLsq fun q => { q with litTime := 120 }),
     by unfold Taken Free; decide +kernel⟩,
   ⟨.l, 4, .lectern, (live.modLsq fun q => { q with state := .warmup }), by unfold Taken Free; decide +kernel⟩,
   ⟨.l, 4, .lectern, (live.modLsq fun q => { q with state := .offPending }), by unfold Taken Free; decide +kernel⟩,
   ⟨.l, 4, .lectern, live, by unfold Taken Free; decide +kernel⟩,
   ⟨.l, 4, .lectern, live, by unfold Taken Free; decide +kernel⟩,
   ⟨.l, 4, .lectern, (live.modSes fun _ => some meeting), by unfold Taken Free; decide +kernel⟩⟩

theorem test_witness_PowerModesWritten :
    (∃ (p : PortId) (o : Byte) (a : Origin) (m : Byte) (s : State), Taken p o a (.lampMode m) s ∧ m ≠ 2 ∧ m ≠ 3) ∧
    (∃ (p : PortId) (o : Byte) (a : Origin) (m : Byte) (s : State), Taken p o a (.lampMode m) s ∧ (m = 2 ∨ m = 3)) ∧
    (∃ (p : PortId) (o : Byte) (a : Origin) (m : Byte) (s : State), Taken p o a (.lampCeiling m) s ∧ m ≠ 2 ∧ m ≠ 3) ∧
    (∃ (p : PortId) (o : Byte) (a : Origin) (m : Byte) (s : State), Taken p o a (.lampCeiling m) s ∧ (m = 2 ∨ m = 3)) :=
  ⟨⟨.l, 4, .lectern, 4, live, by unfold Taken Free; decide +kernel⟩,
   ⟨.l, 4, .lectern, 2, live, by unfold Taken Free; decide +kernel⟩,
   ⟨.f, 4, .facilities, 4, live, by unfold Taken Free; decide +kernel⟩,
   ⟨.f, 4, .facilities, 2, live, by unfold Taken Free; decide +kernel⟩⟩

theorem test_witness_SelectTrains :
    (∃ (p : PortId) (o : Byte) (a : Origin) (b : Byte) (i : Fin 6) (s : State) (j : Fin 6), Taken p o a (.select b) s ∧
       b.toNat = i.val ∧ s.inputs.entries[i].enabled = true ∧ ¬(s.ssw.selected = some i ∧ s.locked = true) ∧ j ≠ i) ∧
    (∃ (p : PortId) (o : Byte) (a : Origin) (b : Byte) (i : Fin 6) (s : State), Taken p o a (.select b) s ∧ b.toNat =
       i.val ∧ s.inputs.entries[i].enabled = true ∧ ¬(s.ssw.selected = some i ∧ s.locked = true) ∧ s.ssw.record = none) ∧
    (∃ (p : PortId) (o : Byte) (a : Origin) (b : Byte) (i : Fin 6) (s : State) (r : SwitchRecord) (j : Fin 6), Taken p o
       a (.select b) s ∧ b.toNat = i.val ∧ s.inputs.entries[i].enabled = true ∧ ¬(s.ssw.selected = some i ∧ s.locked =
       true) ∧ s.ssw.record = some r ∧ s.ssw.selected = some j) :=
  ⟨⟨.l, 4, .lectern, 5, 5, live, 0, by unfold Taken Free; decide +kernel⟩,
   ⟨.l, 4, .lectern, 5, 5, live, by unfold Taken Free; decide +kernel⟩,
   ⟨.l, 4, .lectern, 5, 5, switching .select .timetable (trainedAt .training), ⟨0, .timetable, .select, false⟩, 0,
     by unfold Taken Free; decide +kernel⟩⟩

theorem test_witness_SourceRequestsDeclined :
    (∃ (p : PortId) (o : Byte) (a : Origin) (b : Byte) (s : State), Taken p o a (.select b) s ∧ 5 < b.toNat) ∧
    (∃ (p : PortId) (o : Byte) (a : Origin) (b : Byte) (i : Fin 6) (s : State), Taken p o a (.select b) s ∧
       b.toNat = i.val ∧ s.inputs.entries[i].enabled = false) ∧
    (∃ (p : PortId) (o : Byte) (a : Origin) (b : Byte) (i : Fin 6) (s : State), Taken p o a (.select b) s ∧
       b.toNat = i.val ∧ s.inputs.entries[i].enabled = true ∧ s.ssw.selected = some i ∧ s.locked = true) ∧
    (∃ (p : PortId) (o : Byte) (a : Origin) (b : Byte) (s : State), Taken p o a (.retrain b) s ∧ 5 < b.toNat) ∧
    (∃ (p : PortId) (o : Byte) (a : Origin) (b : Byte) (i : Fin 6) (s : State), Taken p o a (.retrain b) s ∧
       b.toNat = i.val ∧ s.ssw.selected ≠ some i) :=
  ⟨⟨.l, 4, .lectern, 6, live, by unfold Taken Free; decide +kernel⟩,
   ⟨.l, 4, .lectern, 5, 5,
     (live.modInputs fun r => { r with entries := r.entries.set 5 { r.entries[5] with enabled := false } }),
     by unfold Taken Free; decide +kernel⟩,
   ⟨.l, 4, .lectern, 0, 0,
     ((live.modSsw fun w => { w with trained := true }).modInm fun n => { n with path := n.path.set 0 .locked }),
     by unfold Taken Free; decide +kernel⟩,
   ⟨.l, 4, .lectern, 6, live, by unfold Taken Free; decide +kernel⟩,
   ⟨.l, 4, .lectern, 5, 5, live, by unfold Taken Free; decide +kernel⟩⟩

theorem test_witness_RetrainTrains :
    (∃ (p : PortId) (o : Byte) (a : Origin) (b : Byte) (i : Fin 6) (s : State), Taken p o a (.retrain b) s ∧ b.toNat =
       i.val ∧ s.ssw.selected = some i ∧ s.ssw.record = none) ∧
    (∃ (p : PortId) (o : Byte) (a : Origin) (b : Byte) (i : Fin 6) (s : State) (r : SwitchRecord), Taken p o a (.retrain
       b) s ∧ b.toNat = i.val ∧ s.ssw.selected = some i ∧ s.ssw.record = some r) :=
  ⟨⟨.l, 4, .lectern, 1, 1, live.modSsw fun w => { w with selected := some 1 }, by unfold Taken Free; decide +kernel⟩,
   ⟨.l, 4, .lectern, 0, 0, switching .recovery .part (trainedAt .recovery), ⟨0, .part, .recovery, false⟩,
     by unfold Taken Free; decide +kernel⟩⟩

theorem test_witness_UserMuteSet :
    (∃ (p : PortId) (o : Byte) (a : Origin) (b : Byte) (s : State), Taken p o a (.muteSet b) s ∧ b = 1) ∧
    (∃ (p : PortId) (o : Byte) (a : Origin) (b : Byte) (s : State), Taken p o a (.muteSet b) s ∧ b = 0 ∧
       muteFits s = true) ∧
    (∃ (p : PortId) (o : Byte) (a : Origin) (b : Byte) (s : State), Taken p o a (.muteSet b) s ∧ b ≠ 0 ∧ b ≠ 1) :=
  ⟨⟨.l, 4, .lectern, 1, live, by unfold Taken Free; decide +kernel⟩,
   ⟨.l, 4, .lectern, 0, live, by unfold Taken Free; decide +kernel⟩,
   ⟨.l, 4, .lectern, 4, live, by unfold Taken Free; decide +kernel⟩⟩

theorem test_witness_KeystoneMoves :
    (∃ (p : PortId) (o : Byte) (a : Origin) (k : RawKeystone) (i : Fin 6) (s : State), Taken p o a (.keystone k) s ∧
       s.ssw.selected = some i ∧ (k.spare ≠ 0 ∨ (k.v = none ∧ k.h = none) ∨ 1 < k.form.toNat)) ∧
    (∃ (p : PortId) (o : Byte) (a : Origin) (k : RawKeystone) (i : Fin 6) (s : State), Taken p o a (.keystone k) s ∧
       s.ssw.selected = some i ∧ k.spare = 0 ∧ (k.v ≠ none ∨ k.h ≠ none) ∧ k.form.toNat ≤ 1) :=
  ⟨⟨.l, 4, .lectern, ⟨0, 2, none, none⟩, 0, live, by unfold Taken Free; decide +kernel⟩,
   ⟨.l, 4, .lectern, ⟨0, 0, some 40, none⟩, 0, live, by unfold Taken Free; decide +kernel⟩⟩

theorem test_witness_PresetAndPanelWritten :
    (∃ (p : PortId) (o : Byte) (a : Origin) (i : Fin 6) (s : State), s.ssw.selected = some i ∧
       Taken p o a .presetStore s) ∧
    (∃ (p : PortId) (o : Byte) (a : Origin) (w : Half) (h : Half) (i : Fin 6) (s : State), s.ssw.selected = some i ∧
       Taken p o a (.panelSet w h) s) :=
  ⟨⟨.l, 4, .lectern, 0, live, by unfold Taken Free; decide +kernel⟩,
   ⟨.f, 4, .facilities, 640, 480, 0, live, by unfold Taken Free; decide +kernel⟩⟩

theorem test_witness_WarpStaysInPanel :
    ∃ (pw : Nat) (ph : Nat) (src : Option (Nat × Nat)) (m : Aspect) (v : Int) (h : Int) (i : Fin 6) (c : WarpCause)
            (w : Warp), Config.panelW.holds pw = true ∧ Config.panelH.holds ph = true ∧
      (∀ z ∈ src, Config.activeW.holds z.1 = true ∧ Config.activeH.holds z.2 = true) ∧ -40 ≤ v ∧ v ≤ 40 ∧ -30 ≤ h ∧
      h ≤ 30 ∧ w = computeWarp pw ph src m v h i c :=
  ⟨1920, 1200, some (1280, 720), .fit, 40, -30, 0, .lock,
   computeWarp 1920 1200 (some (1280, 720)) .fit 40 (-30) 0 .lock, by decide +kernel⟩

theorem test_witness_SessionExtended :
    (∃ (p : PortId) (o : Byte) (a : Origin) (s : State), Taken p o a .extendEnd s ∧ s.ses = none) ∧
    (∃ (p : PortId) (o : Byte) (a : Origin) (r : Session) (s : State), Taken p o a .extendEnd s ∧ s.ses = some r ∧
       r.allowance ≤ r.used) ∧
    (∃ (p : PortId) (o : Byte) (a : Origin) (r : Session) (s : State), Taken p o a .extendEnd s ∧ s.ses = some r ∧
       r.used < r.allowance ∧ s.extendedEnd r = r.plannedEnd) ∧
    (∃ (p : PortId) (o : Byte) (a : Origin) (r : Session) (s : State), Taken p o a .extendEnd s ∧ s.ses = some r ∧
       r.used < r.allowance ∧ s.extendedEnd r ≠ r.plannedEnd) ∧
    (∃ (p : PortId) (o : Byte) (a : Origin) (s : State), Taken p o a .extendEnd s) :=
  ⟨⟨.l, 4, .lectern, live, by unfold Taken Free; decide +kernel⟩,
   ⟨.l, 4, .lectern, spent, (live.modSes fun _ => some spent), by unfold Taken Free; decide +kernel⟩,
   ⟨.l, 4, .lectern, lastHour, (live.modSes fun _ => some lastHour), by unfold Taken Free; decide +kernel⟩,
   ⟨.l, 4, .lectern, meeting, (live.modSes fun _ => some meeting), by unfold Taken Free; decide +kernel⟩,
   ⟨.l, 4, .lectern, live, by unfold Taken Free; decide +kernel⟩⟩

theorem test_witness_EndSessionCloses :
    (∃ (p : PortId) (o : Byte) (a : Origin) (s : State), Taken p o a .endSession s ∧ s.ses = none) ∧
    (∃ (p : PortId) (o : Byte) (a : Origin) (r : Session) (i : Fin 6) (s : State), Taken p o a .endSession s ∧
       s.ses = some r ∧ s.ssw.selected = some i) ∧
    (∃ (p : PortId) (o : Byte) (a : Origin) (r : Session) (s : State), Taken p o a .endSession s ∧ s.ses = some r ∧
       s.lateAnswer r.slot s.cal.date (minuteOf s.cal.time) = none) ∧
    (∃ (p : PortId) (o : Byte) (a : Origin) (r : Session) (s : State), Taken p o a .endSession s ∧ s.ses = some r ∧
       r.endOff = true ∧ r.deferred = false ∧ s.lkc.service = false ∧ s.lsq.state = .on ∧
       s.settings.minOn ≤ s.lsq.litTime) ∧
    (∃ (p : PortId) (o : Byte) (a : Origin) (r : Session) (s : State), Taken p o a .endSession s ∧ s.ses = some r ∧
       (r.endOff = false ∨ s.lkc.service = true) ∧ r.deferred = false) :=
  ⟨⟨.l, 4, .lectern, live, by unfold Taken Free; decide +kernel⟩,
   ⟨.l, 4, .lectern, meeting, 0, (live.modSes fun _ => some meeting), by unfold Taken Free; decide +kernel⟩,
   ⟨.l, 4, .lectern, meeting, (live.modSes fun _ => some meeting), by unfold Taken Free; decide +kernel⟩,
   ⟨.l, 4, .lectern, meeting,
     (((live.modLsq fun q => { q with state := .on }).modLsq fun q => { q with litTime := 120 }).modSes fun _ =>
        some meeting), by unfold Taken Free; decide +kernel⟩,
   ⟨.l, 4, .lectern, lecture, (live.modSes fun _ => some lecture), by unfold Taken Free; decide +kernel⟩⟩

theorem test_witness_TimeSetSets :
    (∃ (p : PortId) (o : Byte) (a : Origin) (d : RawDate) (t : RawTime) (s : State), Taken p o a (.timeSet d t) s ∧
       (validDate (dateOf d) = false ∨ validTime (timeOf t) = false)) ∧
    (∃ (p : PortId) (o : Byte) (a : Origin) (d : RawDate) (t : RawTime) (r : Session) (s : State), Taken p o a (.timeSet
       d t) s ∧ validDate (dateOf d) = true ∧ validTime (timeOf t) = true ∧ s.ses = some r ∧ minuteOf s.cal.time <
       r.plannedEnd) ∧
    (∃ (p : PortId) (o : Byte) (a : Origin) (d : RawDate) (t : RawTime) (s : State), Taken p o a (.timeSet d t) s ∧
       validDate (dateOf d) = true ∧ validTime (timeOf t) = true ∧ s.ses ≠ none) ∧
    (∃ (p : PortId) (o : Byte) (a : Origin) (d : RawDate) (t : RawTime) (s : State), Taken p o a (.timeSet d t) s ∧
       validDate (dateOf d) = true ∧ validTime (timeOf t) = true ∧ s.ses = none ∧ { s with cal := { s.cal with valid :=
       true } }.lateStart (dateOf d) (minuteOf (timeOf t)) = none) ∧
    (∃ (p : PortId) (o : Byte) (a : Origin) (d : RawDate) (t : RawTime) (f : Found) (s : State), Taken p o a (.timeSet d
       t) s ∧ validDate (dateOf d) = true ∧ validTime (timeOf t) = true ∧ s.ses = none ∧ { s with cal := { s.cal with
       valid := true } }.lateStart (dateOf d) (minuteOf (timeOf t)) = some f) :=
  ⟨⟨.f, 4, .facilities, ⟨0, 1, 1⟩, ⟨24, 0, 0⟩, live, by unfold Taken Free; decide +kernel⟩,
   ⟨.f, 4, .facilities, ⟨0, 1, 1⟩, ⟨9, 0, 0⟩, meeting, (live.modSes fun _ => some meeting).modCal fun c =>
     { c with time := ⟨9, 59, 59⟩ }, by unfold Taken Free; decide +kernel⟩,
   ⟨.f, 4, .facilities, ⟨99, 12, 31⟩, ⟨23, 59, 59⟩, (live.modSes fun _ => some meeting).modCal fun c =>
     { c with time := ⟨10, 0, 0⟩ }, by unfold Taken Free; decide +kernel⟩,
   ⟨.f, 4, .facilities, ⟨0, 1, 1⟩, ⟨9, 56, 0⟩, slotted 0 morning live, by unfold Taken Free; decide +kernel⟩,
   ⟨.f, 4, .facilities, ⟨0, 1, 1⟩, ⟨9, 55, 0⟩, ⟨0, morning⟩, slotted 0 morning live,
     by unfold Taken Free; decide +kernel⟩⟩

theorem test_witness_EntryWritten :
    (∃ (p : PortId) (o : Byte) (a : Origin) (w : RawEntryWrite) (s : State), Taken p o a (.entryWrite w) s ∧
       (w.spare ≠ 0 ∨ (w.slot.any fun b => decide (47 < b.toNat)) = true ∨ entryOf w.entry = none)) ∧
    (∃ (p : PortId) (o : Byte) (a : Origin) (w : RawEntryWrite) (e : Entry) (s : State),
         Taken p o a (.entryWrite w) s ∧ w.spare = 0 ∧ entryOf w.entry = some e ∧ w.slot = none ∧
       (∀ k : Fin 48, s.timetable.slots[k] ≠ none)) ∧
    (∃ (p : PortId) (o : Byte) (a : Origin) (w : RawEntryWrite) (e : Entry) (i : Fin 48) (j : Fin 48) (s : State),
         Taken p o a (.entryWrite w) s ∧ w.spare = 0 ∧ entryOf w.entry = some e ∧
       ((w.slot.map BitVec.toNat = some i.val ∨ w.slot = none ∧ s.timetable.freeSlot = some i)) ∧
       s.timetable.conflict i e = some j) ∧
    (∃ (p : PortId) (o : Byte) (a : Origin) (w : RawEntryWrite) (e : Entry) (i : Fin 48) (s : State),
         Taken p o a (.entryWrite w) s ∧ w.spare = 0 ∧ entryOf w.entry = some e ∧
       ((w.slot.map BitVec.toNat = some i.val ∨ w.slot = none ∧ s.timetable.freeSlot = some i)) ∧
       s.timetable.conflict i e = none) ∧
    (∃ (p : PortId) (o : Byte) (a : Origin) (w : RawEntryWrite) (e : Entry) (s : State),
         Taken p o a (.entryWrite w) s ∧ entryOf w.entry = some e) ∧
    (∃ (p : PortId) (o : Byte) (a : Origin) (w : RawEntryWrite) (e : Entry) (i : Fin 48) (j : Fin 48) (s : State),
         Taken p o a (.entryWrite w) s ∧ s.timetable.conflict i e = some j) :=
  ⟨⟨.f, 4, .facilities, ⟨0, some 48, rawMorning⟩, live, by unfold Taken Free; decide +kernel⟩,
   ⟨.f, 4, .facilities, ⟨0, none, rawMorning⟩, morning,
     (live.modTimetable fun t => { t with slots := Vector.replicate 48 (some morning) }), by unfold Taken Free; decide +kernel⟩,
   ⟨.f, 4, .facilities, ⟨0, none, rawMorning⟩, morning, 0, 47,
     (live.modTimetable fun t => { t with slots := t.slots.set 47 (some morning) }), by unfold Taken Free; decide +kernel⟩,
   ⟨.f, 4, .facilities, ⟨0, none, rawMorning⟩, morning, 0, live, by unfold Taken Free; decide +kernel⟩,
   ⟨.f, 4, .facilities, ⟨0, none, rawMorning⟩, morning, live, by unfold Taken Free; decide +kernel⟩,
   ⟨.f, 4, .facilities, ⟨0, none, rawMorning⟩, morning, 47, 0,
     (live.modTimetable fun t => { t with slots := t.slots.set 0 (some morning) }), by unfold Taken Free; decide +kernel⟩⟩

theorem test_witness_EntryDeleted :
    (∃ (p : PortId) (o : Byte) (a : Origin) (b : Byte) (s : State), Taken p o a (.entryDelete b) s ∧ 47 < b.toNat) ∧
    (∃ (p : PortId) (o : Byte) (a : Origin) (b : Byte) (i : Fin 48) (s : State), Taken p o a (.entryDelete b) s ∧
       b.toNat = i.val ∧ s.timetable.slots[i] ≠ none) ∧
    (∃ (p : PortId) (o : Byte) (a : Origin) (b : Byte) (i : Fin 48) (s : State), Taken p o a (.entryDelete b) s ∧
       b.toNat = i.val ∧ s.timetable.slots[i] = none) ∧
    (∃ (p : PortId) (o : Byte) (a : Origin) (b : Byte) (s : State), Taken p o a (.entryDelete b) s) :=
  ⟨⟨.f, 4, .facilities, 48, live, by unfold Taken Free; decide +kernel⟩,
   ⟨.f, 4, .facilities, 47, 47, (live.modTimetable fun t => { t with slots := t.slots.set 47 (some morning) }),
     by unfold Taken Free; decide +kernel⟩,
   ⟨.f, 4, .facilities, 47, 47, live, by unfold Taken Free; decide +kernel⟩,
   ⟨.f, 4, .facilities, 4, live, by unfold Taken Free; decide +kernel⟩⟩

theorem test_witness_HolidaysKept :
    (∃ (p : PortId) (o : Byte) (a : Origin) (d : RawDate) (s : State), Taken p o a (.holidayAdd d) s ∧
       validDate (dateOf d) = false) ∧
    (∃ (p : PortId) (o : Byte) (a : Origin) (d : RawDate) (s : State), Taken p o a (.holidayAdd d) s ∧
       validDate (dateOf d) = true ∧ dateOf d ∈ s.timetable.holidays) ∧
    (∃ (p : PortId) (o : Byte) (a : Origin) (d : RawDate) (s : State), Taken p o a (.holidayAdd d) s ∧
       validDate (dateOf d) = true ∧ dateOf d ∉ s.timetable.holidays ∧ 16 ≤ s.timetable.holidays.length) ∧
    (∃ (p : PortId) (o : Byte) (a : Origin) (d : RawDate) (s : State), Taken p o a (.holidayAdd d) s ∧
       validDate (dateOf d) = true ∧ dateOf d ∉ s.timetable.holidays ∧ s.timetable.holidays.length < 16) ∧
    (∃ (p : PortId) (o : Byte) (a : Origin) (d : RawDate) (s : State), Taken p o a (.holidayRemove d) s ∧
       validDate (dateOf d) = false) ∧
    (∃ (p : PortId) (o : Byte) (a : Origin) (d : RawDate) (s : State), Taken p o a (.holidayRemove d) s ∧
       validDate (dateOf d) = true ∧ dateOf d ∉ s.timetable.holidays) ∧
    (∃ (p : PortId) (o : Byte) (a : Origin) (d : RawDate) (s : State), Taken p o a (.holidayRemove d) s ∧
       validDate (dateOf d) = true ∧ dateOf d ∈ s.timetable.holidays) :=
  ⟨⟨.f, 4, .facilities, ⟨0, 2, 30⟩, live, by unfold Taken Free; decide +kernel⟩,
   ⟨.f, 4, .facilities, ⟨0, 1, 1⟩, (live.modTimetable fun t => { t with holidays := [firstDate] }),
     by unfold Taken Free; decide +kernel⟩,
   ⟨.f, 4, .facilities, ⟨0, 1, 1⟩, (live.modTimetable fun t => { t with holidays := sixteen }),
     by unfold Taken Free; decide +kernel⟩,
   ⟨.f, 4, .facilities, ⟨0, 1, 1⟩, live, by unfold Taken Free; decide +kernel⟩,
   ⟨.f, 4, .facilities, ⟨0, 2, 30⟩, live, by unfold Taken Free; decide +kernel⟩,
   ⟨.f, 4, .facilities, ⟨0, 1, 1⟩, live, by unfold Taken Free; decide +kernel⟩,
   ⟨.f, 4, .facilities, ⟨0, 1, 1⟩, (live.modTimetable fun t => { t with holidays := [firstDate] }),
     by unfold Taken Free; decide +kernel⟩⟩

theorem test_witness_LampReplaced :
    (∃ (p : PortId) (o : Byte) (a : Origin) (s : State), Taken p o a .lampReplace s ∧ s.lsq.state ≠ .off ∧
       s.lsq.state ≠ .fault) ∧
    (∃ (p : PortId) (o : Byte) (a : Origin) (s : State), Taken p o a .lampReplace s ∧
       (s.lsq.state = .off ∨ s.lsq.state = .fault)) ∧
    (∃ (p : PortId) (o : Byte) (a : Origin) (s : State), Taken p o a .lampReplace s ∧ s.lsq.state = .off) ∧
    (∃ (p : PortId) (o : Byte) (a : Origin) (s : State), Taken p o a .lampReplace s ∧ s.lsq.state = .fault) :=
  ⟨⟨.f, 4, .facilities, (live.modLsq fun q => { q with state := .striking }), by unfold Taken Free; decide +kernel⟩,
   ⟨.f, 4, .facilities, live, by unfold Taken Free; decide +kernel⟩,
   ⟨.f, 4, .facilities, live, by unfold Taken Free; decide +kernel⟩,
   ⟨.f, 4, .facilities, (live.modLsq fun q => { q with state := .fault }), by unfold Taken Free; decide +kernel⟩⟩

theorem test_witness_LampLimitsWritten :
    (∃ (p : PortId) (o : Byte) (a : Origin) (w : RawLimits) (s : State), Taken p o a (.lampLimits w) s ∧ recordsFit s =
       true ∧ (w.spare ≠ 0 ∨ (w.warn = none ∧ w.life = none))) ∧
    (∃ (p : PortId) (o : Byte) (a : Origin) (w : RawLimits) (s : State), Taken p o a (.lampLimits w) s ∧ recordsFit s =
       true ∧ w.spare = 0 ∧ (w.warn ≠ none ∨ w.life ≠ none)) :=
  ⟨⟨.f, 4, .facilities, ⟨0, none, none⟩, live, by unfold Taken Free; decide +kernel⟩,
   ⟨.f, 4, .facilities, ⟨0, some 50, none⟩, live, by unfold Taken Free; decide +kernel⟩⟩

theorem test_witness_FaultCleared :
    (∃ (p : PortId) (o : Byte) (a : Origin) (s : State), Taken p o a .faultClear s ∧ s.lamp.fault = none) ∧
    (∃ (p : PortId) (o : Byte) (a : Origin) (s : State), Taken p o a .faultClear s ∧ s.lamp.fault ≠ none) ∧
    (∃ (p : PortId) (o : Byte) (a : Origin) (s : State), Taken p o a .faultClear s ∧ s.lamp.fault ≠ none ∧
       s.lsq.state = .fault) ∧
    (∃ (p : PortId) (o : Byte) (a : Origin) (s : State), Taken p o a .faultClear s ∧ s.lamp.fault ≠ none ∧
       s.lsq.state = .faultCooling) :=
  ⟨⟨.f, 4, .facilities, live, by unfold Taken Free; decide +kernel⟩,
   ⟨.f, 4, .facilities,
     (live.modLamp fun r => { r with fault := some ⟨.ballast, firstDate, midnight, .off, 0, 0, 0, 0⟩ }),
     by unfold Taken Free; decide +kernel⟩,
   ⟨.f, 4, .facilities,
     ((live.modLsq fun q => { q with state := .fault }).modLamp fun r =>
        { r with fault := some ⟨.ballast, firstDate, midnight, .off, 0, 0, 0, 0⟩ }), by unfold Taken Free; decide +kernel⟩,
   ⟨.f, 4, .facilities,
     ((live.modLsq fun q => { q with state := .faultCooling }).modLamp fun r =>
        { r with fault := some ⟨.ballast, firstDate, midnight, .off, 0, 0, 0, 0⟩ }), by unfold Taken Free; decide +kernel⟩⟩

theorem test_witness_InputConfigured :
    (∃ (p : PortId) (o : Byte) (a : Origin) (b : Byte) (c : RawInputConfig) (s : State), Taken p o a (.inputConfig b c)
       s ∧ (5 < b.toNat ∨ c.spare ≠ 0 ∨ configNames c = false ∨ (c.kind.any fun x => decide (3 < x.toNat)) = true ∨
       (c.enabled.any fun x => decide (1 < x.toNat)) = true ∨ (c.priority.any fun x => decide (7 < x.toNat)) = true ∨
       (c.aspect.any fun x => decide (2 < x.toNat)) = true ∨ (c.label.any fun l => decide (12 < l.len.toNat) ||
       !((l.chars.take l.len.toNat).all labelChar)) = true)) ∧
    (∃ (p : PortId) (o : Byte) (a : Origin) (b : Byte) (i : Fin 6) (c : RawInputConfig) (s : State) (x : Fin 6), Taken p
       o a (.inputConfig b c) s ∧ b.toNat = i.val ∧ c.spare = 0 ∧ configNames c = true ∧ configEntry c
       s.inputs.entries[i] ≠ none ∧ x ≠ i) ∧
    (∃ (p : PortId) (o : Byte) (a : Origin) (b : Byte) (i : Fin 6) (c : RawInputConfig) (s : State), Taken p o a
       (.inputConfig b c) s ∧ b.toNat = i.val ∧ c.spare = 0 ∧ configNames c = true ∧ configEntry c s.inputs.entries[i] ≠
       none ∧ s.ssw.selected ≠ some i ∧ c.enabled = none) ∧
    (∃ (p : PortId) (o : Byte) (a : Origin) (b : Byte) (i : Fin 6) (c : RawInputConfig) (s : State), Taken p o a
       (.inputConfig b c) s ∧ b.toNat = i.val ∧ c.spare = 0 ∧ configNames c = true ∧ configEntry c s.inputs.entries[i] ≠
       none ∧ s.ssw.selected = some i ∧ c.preset ≠ none) ∧
    (∃ (p : PortId) (o : Byte) (a : Origin) (b : Byte) (i : Fin 6) (c : RawInputConfig) (s : State), Taken p o a
       (.inputConfig b c) s ∧ b.toNat = i.val ∧ c.spare = 0 ∧ configEntry c s.inputs.entries[i] ≠ none ∧ s.ssw.selected
       = some i ∧ c.preset = none ∧ c.aspect ≠ none) ∧
    (∃ (p : PortId) (o : Byte) (a : Origin) (b : Byte) (i : Fin 6) (c : RawInputConfig) (s : State), Taken p o a
       (.inputConfig b c) s ∧ b.toNat = i.val ∧ c.spare = 0 ∧ configEntry c s.inputs.entries[i] ≠ none ∧ s.ssw.selected
       ≠ some i ∧ c.enabled = some 0 ∧ s.inputs.entries[i].enabled = true) ∧
    (∃ (p : PortId) (o : Byte) (a : Origin) (b : Byte) (i : Fin 6) (c : RawInputConfig) (s : State), Taken p o a
       (.inputConfig b c) s ∧ b.toNat = i.val ∧ c.spare = 0 ∧ configEntry c s.inputs.entries[i] ≠ none ∧ s.ssw.selected
       ≠ some i ∧ c.enabled = some 1 ∧ s.inputs.entries[i].enabled = false ∧ (s.inm.deb[i].presence = false ∨
       (s.ssw.phase = .none ∧ (s.inputs.autoscan = false ∨ s.ssw.trained = false ∨ (s.selPath ≠ some .noSignal ∧
       s.selPath ≠ some .absent))))) ∧
    (∃ (p : PortId) (o : Byte) (a : Origin) (b : Byte) (i : Fin 6) (c : RawInputConfig) (s : State) (h : Fin 6), Taken p
       o a (.inputConfig b c) s ∧ b.toNat = i.val ∧ c.spare = 0 ∧ configEntry c s.inputs.entries[i] ≠ none ∧ h ≠ i ∧
       c.enabled = some 1 ∧ s.inputs.entries[i].enabled = false ∧ s.inm.deb[i].presence = true ∧ s.inputs.autoscan =
       true ∧ s.ssw.phase = .none ∧ s.ssw.trained = true ∧ s.ssw.selected = some h ∧ (s.inm.path[h] = .noSignal ∨
       s.inm.path[h] = .absent) ∧ s.ssw.record = none) ∧
    (∃ (p : PortId) (o : Byte) (a : Origin) (b : Byte) (i : Fin 6) (c : RawInputConfig) (s : State), Taken p o a
       (.inputConfig b c) s ∧ b.toNat = i.val ∧ c.spare = 0 ∧ configEntry c s.inputs.entries[i] ≠ none ∧ s.ssw.selected
       ≠ some i ∧ c.enabled = some 1 ∧ s.inputs.entries[i].enabled = false ∧ s.inm.deb[i].presence = true ∧ s.ssw.phase
       ≠ .none) ∧
    (∃ (p : PortId) (o : Byte) (a : Origin) (b : Byte) (i : Fin 6) (c : RawInputConfig) (s : State), Taken p o a
       (.inputConfig b c) s ∧ b.toNat = i.val ∧ c.spare = 0 ∧ configEntry c s.inputs.entries[i] ≠ none ∧ s.onScreen i =
       true ∧ c.enabled ≠ none ∧ c.preset = none ∧ c.aspect = none) ∧
    (∃ (p : PortId) (o : Byte) (a : Origin) (b : Byte) (i : Fin 6) (c : RawInputConfig) (s : State), Taken p o a
       (.inputConfig b c) s ∧ b.toNat = i.val ∧ c.spare = 0 ∧ configNames c = true ∧ configEntry c s.inputs.entries[i] ≠
       none ∧ c.preset = none ∧ c.aspect = none ∧ c.enabled = some (if s.inputs.entries[i].enabled = true then 1 else
       0)) ∧
    (∃ (p : PortId) (o : Byte) (a : Origin) (b : Byte) (i : Fin 6) (c : RawInputConfig) (s : State), Taken p o a
       (.inputConfig b c) s ∧ b.toNat = i.val ∧ c.spare = 0 ∧ configEntry c s.inputs.entries[i] ≠ none ∧ s.ssw.selected
       = some i ∧ s.ssw.trained = false ∧ c.preset = none ∧ c.aspect = none ∧ c.enabled = some (if
       s.inputs.entries[i].enabled = true then 0 else 1)) :=
  ⟨⟨.f, 4, .facilities, 6, ⟨0, some 4, none, none, none, none, none⟩, live, by unfold Taken Free; decide +kernel⟩,
   ⟨.f, 4, .facilities, 5, 5, ⟨0, none, none, none, none, none, some (40, -30)⟩, live, 0,
     by unfold Taken Free; decide +kernel⟩,
   ⟨.f, 4, .facilities, 5, 5, ⟨0, none, none, none, none, none, some (40, -30)⟩, live,
     by unfold Taken Free; decide +kernel⟩,
   ⟨.f, 4, .facilities, 0, 0, ⟨0, none, none, none, none, none, some (40, -30)⟩, live,
     by unfold Taken Free; decide +kernel⟩,
   ⟨.f, 4, .facilities, 0, 0, ⟨0, none, none, none, none, some 2, none⟩, live, by unfold Taken Free; decide +kernel⟩,
   ⟨.f, 4, .facilities, 5, 5, ⟨0, none, some 0, none, none, none, none⟩, live, by unfold Taken Free; decide +kernel⟩,
   ⟨.f, 4, .facilities, 5, 5, ⟨0, none, some 1, none, none, none, none⟩, disabled 5 live,
     by unfold Taken Free; decide +kernel⟩,
   ⟨.f, 4, .facilities, 1, 1, ⟨0, none, some 1, none, none, none, none⟩, disabled 1 (present1 (trainedAt .noSignal)), 0,
     by unfold Taken Free; decide +kernel⟩,
   ⟨.f, 4, .facilities, 1, 1, ⟨0, none, some 1, none, none, none, none⟩, disabled 1 (present1 (scanning .trying)),
     by unfold Taken Free; decide +kernel⟩,
   ⟨.f, 4, .facilities, 0, 0, ⟨0, none, some 1, none, none, none, none⟩, trainedAt .locked,
     by unfold Taken Free; decide +kernel⟩,
   ⟨.f, 4, .facilities, 5, 5, ⟨0, none, some 1, none, none, none, none⟩, live, by unfold Taken Free; decide +kernel⟩,
   ⟨.f, 4, .facilities, 0, 0, ⟨0, none, some 0, none, none, none, none⟩, live, by unfold Taken Free; decide +kernel⟩⟩

theorem test_witness_TimingsWritten :
    (∃ (p : PortId) (o : Byte) (a : Origin) (b : Byte) (t : RawTiming) (s : State), Taken p o a (.timingWrite b t) s ∧
       (23 < b.toNat ∨ timingOf t = none)) ∧
    (∃ (p : PortId) (o : Byte) (a : Origin) (b : Byte) (s : State), Taken p o a (.timingOut b) s ∧ 23 < b.toNat) ∧
    (∃ (p : PortId) (o : Byte) (a : Origin) (b : Byte) (k : Fin 24) (t : RawTiming) (s : State), Taken p o a
       (.timingWrite b t) s ∧ b.toNat = k.val ∧ timingOf t ≠ none ∧ s.selPath ≠ some .locked ∧ s.selPath ≠ some
       .unsupported) ∧
    (∃ (p : PortId) (o : Byte) (a : Origin) (b : Byte) (k : Fin 24) (s : State), Taken p o a (.timingOut b) s ∧ b.toNat
       = k.val ∧ s.timings[k].inUse = true ∧ s.selPath ≠ some .locked ∧ s.selPath ≠ some .unsupported) ∧
    (∃ (p : PortId) (o : Byte) (a : Origin) (b : Byte) (k : Fin 24) (x : Option RawTiming) (s : State), Taken p o a
       (timingAsked b x) s ∧ (∀ y ∈ x, timingOf y ≠ none) ∧ b.toNat = k.val ∧ (run (timingRow p o b x) s).inputs ≠
       s.inputs) ∧
    (∃ (p : PortId) (o : Byte) (a : Origin) (b : Byte) (k : Fin 24) (x : Option RawTiming) (s : State), Taken p o a
       (timingAsked b x) s ∧ (∀ y ∈ x, timingOf y ≠ none) ∧ b.toNat = k.val ∧ s.timings[k] = (timingLeft s.timings[k]
       x)) ∧
    (∃ (p : PortId) (o : Byte) (a : Origin) (b : Byte) (k : Fin 24) (x : Option RawTiming) (s : State), Taken p o a
       (timingAsked b x) s ∧ (∀ y ∈ x, timingOf y ≠ none) ∧ b.toNat = k.val ∧ s.timings[k] ≠ (timingLeft s.timings[k] x)
       ∧ s.selPath ≠ some .locked ∧ s.selPath ≠ some .unsupported) ∧
    (∃ (p : PortId) (o : Byte) (a : Origin) (b : Byte) (k : Fin 24) (x : Option RawTiming) (i : Fin 6) (j : Fin 24) (m :
       Stable) (s : State), Taken p o a (timingAsked b x) s ∧ (∀ y ∈ x, timingOf y ≠ none) ∧ b.toNat = k.val ∧
       s.timings[k] ≠ (timingLeft s.timings[k] x) ∧ s.onScreen i = true ∧ s.inm.mon.lastStable = some m ∧ s.inm.path[i]
       = .locked ∧ classify (retimed k (timingLeft s.timings[k] x) s).timings m.measure = some j ∧ (retimed k
       (timingLeft s.timings[k] x) s).inputs.entries[i].lastTiming = some j) ∧
    (∃ (p : PortId) (o : Byte) (a : Origin) (b : Byte) (k : Fin 24) (x : Option RawTiming) (i : Fin 6) (j : Fin 24) (m :
       Stable) (s : State), Taken p o a (timingAsked b x) s ∧ (∀ y ∈ x, timingOf y ≠ none) ∧ b.toNat = k.val ∧
       s.timings[k] ≠ (timingLeft s.timings[k] x) ∧ s.onScreen i = true ∧ s.inm.mon.lastStable = some m ∧ (s.inm.path[i]
       = .locked ∧ (retimed k (timingLeft s.timings[k] x) s).inputs.entries[i].lastTiming ≠ some j ∨ s.inm.path[i] =
       .unsupported) ∧ classify (retimed k (timingLeft s.timings[k] x) s).timings m.measure = some j) ∧
    (∃ (p : PortId) (o : Byte) (a : Origin) (b : Byte) (k : Fin 24) (x : Option RawTiming) (i : Fin 6) (m : Stable) (s :
       State), Taken p o a (timingAsked b x) s ∧ (∀ y ∈ x, timingOf y ≠ none) ∧ b.toNat = k.val ∧ s.timings[k] ≠
       (timingLeft s.timings[k] x) ∧ s.onScreen i = true ∧ s.inm.mon.lastStable = some m ∧ s.inm.path[i] = .locked ∧
       classify (retimed k (timingLeft s.timings[k] x) s).timings m.measure = none ∧ s.ssw.record = none) ∧
    (∃ (p : PortId) (o : Byte) (a : Origin) (b : Byte) (k : Fin 24) (x : Option RawTiming) (i : Fin 6) (m : Stable) (s :
       State), Taken p o a (timingAsked b x) s ∧ (∀ y ∈ x, timingOf y ≠ none) ∧ b.toNat = k.val ∧ s.timings[k] ≠
       (timingLeft s.timings[k] x) ∧ s.onScreen i = true ∧ s.inm.mon.lastStable = some m ∧ s.inm.path[i] = .unsupported
       ∧ classify (retimed k (timingLeft s.timings[k] x) s).timings m.measure = none) :=
  ⟨⟨.f, 4, .facilities, 24, ⟨1064, 1068, 16550, 16800, 1280, 1024⟩, live, by unfold Taken Free; decide +kernel⟩,
   ⟨.f, 4, .facilities, 24, live, by unfold Taken Free; decide +kernel⟩,
   ⟨.f, 4, .facilities, 23, 23, ⟨1064, 1068, 16550, 16800, 1280, 1024⟩, live, by unfold Taken Free; decide +kernel⟩,
   ⟨.f, 4, .facilities, 0, 0, live, by unfold Taken Free; decide +kernel⟩,
   ⟨.f, 4, .facilities, 0, 0, none, lastOf 5 0 live, by unfold Taken Free; decide +kernel⟩,
   ⟨.f, 4, .facilities, 23, 23, none, live, by unfold Taken Free; decide +kernel⟩,
   ⟨.f, 4, .facilities, 0, 0, none, live, by unfold Taken Free; decide +kernel⟩,
   ⟨.f, 4, .facilities, 23, 23, some ⟨200, 200, 8000, 8000, 320, 200⟩, 0, 5, ⟨⟨1127, 16684⟩, none⟩, lastOf 0 5 (measured
     ⟨1127, 16684⟩ (trainedAt .locked)), by unfold Taken Free; decide +kernel⟩,
   ⟨.f, 4, .facilities, 23, 23, some ⟨299, 301, 29990, 30010, 320, 200⟩, 0, 23, ⟨⟨300, 30000⟩, none⟩, measured ⟨300,
     30000⟩ (trainedAt .unsupported), by unfold Taken Free; decide +kernel⟩,
   ⟨.f, 4, .facilities, 5, 5, none, 0, ⟨⟨1127, 16684⟩, none⟩, lastOf 0 5 (measured ⟨1127, 16684⟩ (trainedAt .locked)),
     by unfold Taken Free; decide +kernel⟩,
   ⟨.f, 4, .facilities, 23, 23, some ⟨200, 200, 8000, 8000, 320, 200⟩, 0, ⟨⟨300, 30000⟩, none⟩, measured ⟨300, 30000⟩
     (trainedAt .unsupported), by unfold Taken Free; decide +kernel⟩⟩

theorem test_witness_GuardsWritten :
    (∃ (p : PortId) (o : Byte) (a : Origin) (g : RawGuard) (s : State), Taken p o a (.guardSet g) s ∧ (g.spare ≠ 0 ∨
       (g.autoDim.any fun x => decide (1 < x.toNat)) = true ∨ (g.autoscan.any fun x => decide (1 < x.toNat)) = true ∨
       (g.powerOnInput.any fun x => decide (5 < x.toNat)) = true ∨ (g.manualLevel.any fun x => decide (3 < x.toNat)) =
       true)) ∧
    (∃ (p : PortId) (o : Byte) (a : Origin) (g : RawGuard) (s : State), Taken p o a (.guardSet g) s ∧ g.spare = 0 ∧
       guardValid g = true ∧ guardInSettings g = true) ∧
    (∃ (p : PortId) (o : Byte) (a : Origin) (g : RawGuard) (s : State), Taken p o a (.guardSet g) s ∧ g.spare = 0 ∧
       guardValid g = true ∧ g.strikeWear ≠ none) ∧
    (∃ (p : PortId) (o : Byte) (a : Origin) (g : RawGuard) (s : State), Taken p o a (.guardSet g) s ∧ g.spare = 0 ∧
       guardValid g = true ∧ (g.autoscan ≠ none ∨ g.powerOnInput ≠ none)) ∧
    (∃ (p : PortId) (o : Byte) (a : Origin) (g : RawGuard) (s : State), Taken p o a (.guardSet g) s ∧ g.spare = 0 ∧
       guardValid g = true ∧ g.strikeMax ≠ none) ∧
    (∃ (p : PortId) (o : Byte) (a : Origin) (g : RawGuard) (s : State), Taken p o a (.guardSet g) s ∧ g.spare = 0 ∧
       guardValid g = true ∧ g.minOn = none ∧ g.strikeMax = none ∧ g.strikeWindow = none ∧ g.nosigDim = none ∧
       g.nosigOff = none ∧ g.autoscan = none) ∧
    (∃ (p : PortId) (o : Byte) (a : Origin) (g : RawGuard) (s : State), Taken p o a (.guardSet g) s ∧ g.spare = 0 ∧
       guardValid g = true ∧ g.minOn ≠ none ∧ s.lsq.state = .offPending ∧ (run (.guardSet p o g) s).settings.minOn ≤
       s.lsq.litTime) ∧
    (∃ (p : PortId) (o : Byte) (a : Origin) (g : RawGuard) (s : State), Taken p o a (.guardSet g) s ∧ g.spare = 0 ∧
       guardValid g = true ∧ g.minOn ≠ none ∧ g.strikeMax = none ∧ g.strikeWindow = none ∧ g.nosigDim = none ∧
       g.nosigOff = none ∧ g.autoscan = none ∧ (s.lsq.state ≠ .offPending ∨ s.lsq.litTime < (run (.guardSet p o g)
       s).settings.minOn)) ∧
    (∃ (p : PortId) (o : Byte) (a : Origin) (g : RawGuard) (s : State) (h : Held), Taken p o a (.guardSet g) s ∧ g.spare
       = 0 ∧ guardValid g = true ∧ (g.strikeMax ≠ none ∨ g.strikeWindow ≠ none) ∧ s.lsq.state = .off ∧ s.lsq.held = some
       h ∧ condition s.lamp ≠ .expired ∧ s.lines.bfault = false ∧ s.lines.lit = false ∧ (rewritten g (run (.guardSet p o
       g) s).settings s).windowFull = false) ∧
    (∃ (p : PortId) (o : Byte) (a : Origin) (g : RawGuard) (s : State), Taken p o a (.guardSet g) s ∧ g.spare = 0 ∧
       guardValid g = true ∧ (g.strikeMax ≠ none ∨ g.strikeWindow ≠ none) ∧ s.lsq.state = .off ∧ (rewritten g (run
       (.guardSet p o g) s).settings s).windowFull = true) ∧
    (∃ (p : PortId) (o : Byte) (a : Origin) (g : RawGuard) (s : State), Taken p o a (.guardSet g) s ∧ g.spare = 0 ∧
       guardValid g = true ∧ g.minOn = none ∧ g.strikeMax = none ∧ g.strikeWindow = none ∧ g.nosigDim ≠ none ∧
       g.nosigOff = none ∧ g.autoscan = none) ∧
    (∃ (p : PortId) (o : Byte) (a : Origin) (g : RawGuard) (s : State), Taken p o a (.guardSet g) s ∧ g.spare = 0 ∧
       guardValid g = true ∧ g.minOn = none ∧ g.strikeMax = none ∧ g.strikeWindow = none ∧ g.nosigDim = none ∧
       g.nosigOff ≠ none ∧ g.autoscan = none ∧ ((s.settings.nosigOff ≠ 0 ∧ s.settings.nosigOff ≤ (run (.guardSet p o g)
       s).settings.nosigOff) ∨ s.nosigRunning = false ∨ (run (.guardSet p o g) s).settings.nosigOff = 0 ∨
       s.ssw.nosigCount < (run (.guardSet p o g) s).settings.nosigOff ∨ s.ses ≠ none)) ∧
    (∃ (p : PortId) (o : Byte) (a : Origin) (g : RawGuard) (s : State), Taken p o a (.guardSet g) s ∧ g.spare = 0 ∧
       guardValid g = true ∧ g.minOn = none ∧ g.strikeMax = none ∧ g.strikeWindow = none ∧ g.nosigDim = none ∧
       g.nosigOff ≠ none ∧ g.autoscan = none ∧ (s.settings.nosigOff = 0 ∨ (run (.guardSet p o g) s).settings.nosigOff <
       s.settings.nosigOff) ∧ s.nosigRunning = true ∧ (run (.guardSet p o g) s).settings.nosigOff ≠ 0 ∧ (run (.guardSet
       p o g) s).settings.nosigOff ≤ s.ssw.nosigCount ∧ s.ses = none) ∧
    (∃ (p : PortId) (o : Byte) (a : Origin) (g : RawGuard) (s : State), Taken p o a (.guardSet g) s ∧ g.spare = 0 ∧
       guardValid g = true ∧ g.minOn = none ∧ g.strikeMax = none ∧ g.strikeWindow = none ∧ g.nosigDim = none ∧
       g.nosigOff = none ∧ g.autoscan ≠ none) :=
  ⟨⟨.f, 4, .facilities, { noGuard with spare := 1 }, live, by unfold Taken Free; decide +kernel⟩,
   ⟨.f, 4, .facilities, { noGuard with nosigDim := some 0 }, live, by unfold Taken Free; decide +kernel⟩,
   ⟨.f, 4, .facilities, { noGuard with strikeWear := some 2400 }, live, by unfold Taken Free; decide +kernel⟩,
   ⟨.f, 4, .facilities, { noGuard with powerOnInput := some 5 }, live, by unfold Taken Free; decide +kernel⟩,
   ⟨.f, 4, .facilities, { noGuard with strikeMax := some 1 }, live, by unfold Taken Free; decide +kernel⟩,
   ⟨.f, 4, .facilities, noGuard, live, by unfold Taken Free; decide +kernel⟩,
   ⟨.f, 4, .facilities, { noGuard with minOn := some 60 }, live.modLsq fun q =>
     { q with state := .offPending, litTime := 60 }, by unfold Taken Free; decide +kernel⟩,
   ⟨.f, 4, .facilities, { noGuard with minOn := some 61 }, live.modLsq fun q =>
     { q with state := .offPending, litTime := 60 }, by unfold Taken Free; decide +kernel⟩,
   ⟨.f, 4, .facilities, { noGuard with strikeMax := some 5 }, holding .window (live.modLsq fun q =>
     { q with strikeLog := [0, 0, 0, 0] }), ⟨.lectern, .window⟩, by unfold Taken Free; decide +kernel⟩,
   ⟨.f, 4, .facilities, { noGuard with strikeMax := some 4 }, holding .window (live.modLsq fun q =>
     { q with strikeLog := [0, 0, 0, 0] }), by unfold Taken Free; decide +kernel⟩,
   ⟨.f, 4, .facilities, { noGuard with nosigDim := some 0 }, live, by unfold Taken Free; decide +kernel⟩,
   ⟨.f, 4, .facilities, { noGuard with nosigOff := some 101 }, ((trainedAt .noSignal).modLsq fun q =>
     { q with state := .on }).modSsw fun w => { w with nosigCount := 100 }, by unfold Taken Free; decide +kernel⟩,
   ⟨.f, 4, .facilities, { noGuard with nosigOff := some 100 }, ((trainedAt .noSignal).modLsq fun q =>
     { q with state := .on }).modSsw fun w => { w with nosigCount := 100 }, by unfold Taken Free; decide +kernel⟩,
   ⟨.f, 4, .facilities, { noGuard with autoscan := some 0 }, live, by unfold Taken Free; decide +kernel⟩⟩

theorem test_witness_MaskSubscribed :
    (∃ (p : PortId) (o : Byte) (a : Origin) (m : BitVec 24) (s : State), Taken p o a (.subscribe m) s ∧
       65536 ≤ m.toNat) ∧
    (∃ (p : PortId) (o : Byte) (a : Origin) (m : BitVec 24) (s : State), Taken p o a (.subscribe m) s ∧
       m.toNat < 65536) :=
  ⟨⟨.f, 4, .facilities, 0x10000, live, by unfold Taken Free; decide +kernel⟩,
   ⟨.f, 4, .facilities, 0xFFFF, live, by unfold Taken Free; decide +kernel⟩⟩

theorem test_witness_LockoutRequests :
    (∃ (p : PortId) (o : Byte) (a : Origin) (b : Byte) (s : State), Taken p o a (.lockoutBase b) s ∧ 3 < b.toNat) ∧
    (∃ (p : PortId) (o : Byte) (a : Origin) (b : Byte) (l : Level) (s : State), Taken p o a (.lockoutBase b) s ∧
       levelCode l = b ∧ l ≠ .service) ∧
    (∃ (p : PortId) (o : Byte) (a : Origin) (s : State), Taken p o a (.presenterHold 1) s ∧ s.ses = none) ∧
    (∃ (p : PortId) (o : Byte) (a : Origin) (s : State), Taken p o a (.presenterHold 1) s ∧ s.ses ≠ none) ∧
    (∃ (p : PortId) (o : Byte) (a : Origin) (s : State), Taken p o a (.presenterHold 0) s) ∧
    (∃ (p : PortId) (o : Byte) (a : Origin) (s : State), Taken p o a (.service 1) s ∧ s.lkc.service = true) ∧
    (∃ (p : PortId) (o : Byte) (a : Origin) (s : State), Taken p o a (.service 1) s ∧ s.lkc.service = false ∧
       s.lsq.state ≠ .off ∧ s.lsq.state ≠ .fault) ∧
    (∃ (p : PortId) (o : Byte) (a : Origin) (s : State), Taken p o a (.service 1) s ∧ s.lkc.service = false ∧
       (s.lsq.state = .off ∨ s.lsq.state = .fault)) ∧
    (∃ (p : PortId) (o : Byte) (a : Origin) (s : State), Taken p o a (.service 0) s) ∧
    (∃ (s : State), s.lkc.service = false ∧ s.lkc.hold = true) :=
  ⟨⟨.f, 4, .facilities, 4, live, by unfold Taken Free; decide +kernel⟩,
   ⟨.f, 4, .facilities, 3, .secured, live, by unfold Taken Free; decide +kernel⟩,
   ⟨.l, 4, .lectern, live, by unfold Taken Free; decide +kernel⟩,
   ⟨.l, 4, .lectern, live.modSes fun _ => some meeting, by unfold Taken Free; decide +kernel⟩,
   ⟨.l, 4, .lectern, live, by unfold Taken Free; decide +kernel⟩,
   ⟨.e, 1, .engine, live.modLkc fun k => { k with service := true }, by unfold Taken Free; decide +kernel⟩,
   ⟨.e, 1, .engine, live.modLsq fun q => { q with state := .striking }, by unfold Taken Free; decide +kernel⟩,
   ⟨.e, 1, .engine, live, by unfold Taken Free; decide +kernel⟩,
   ⟨.f, 4, .facilities, live, by unfold Taken Free; decide +kernel⟩,
   ⟨live.modLkc fun k => { k with hold := true }, by decide +kernel⟩⟩

theorem test_witness_DeniedChangesNothing :
    (∃ (p : PortId) (o : Byte) (a : Origin) (r : Request) (c : Instr) (s : State), requestRow p o r = some c ∧
       Free p s ∧ originOn p o = some a ∧ checkPasses s.effLevel a r = false) ∧
    (∃ (p : PortId) (o : Byte) (r : Request) (c : Instr) (s : State), requestRow p o r = some c ∧ Free p s ∧
       originOn p o = none) ∧
    (∃ (p : PortId) (o : Byte) (r : Request) (c : Instr) (s : State), requestRow p o r = some c ∧ s.portOpen p = false) ∧
    (∃ (p : PortId) (o : Byte) (r : Request) (c : Instr) (s : State), requestRow p o r = some c ∧
       s.portOpen p = true ∧ ((s.port p).reply ≠ none ∨ (s.port p).frames ≠ [])) :=
  ⟨⟨.l, 0, .lectern, .powerOn, .powerOn .l 0, (live.modLkc fun k => { k with service := true }),
     by unfold Free; decide +kernel⟩,
   ⟨.e, 3, .powerOn, .powerOn .e 3, live, by unfold Free; decide +kernel⟩,
   ⟨.l, 0, .powerOn, .powerOn .l 0, (live.modLines fun l => { l with supply := false }), by decide +kernel⟩,
   ⟨.l, 0, .powerOn, .powerOn .l 0, (live.modPort .l fun q => { q with reply := some ⟨0x10, .done, []⟩ }), by decide +kernel⟩⟩

theorem test_witness_ReadsChangeNothing :
    (∃ (p : PortId) (o : Byte) (a : Origin) (s : State), Free p s ∧ originOn p o = some a) ∧
    (∃ (p : PortId) (o : Byte) (a : Origin) (b : Byte) (s : State), Free p s ∧ originOn p o = some a ∧ 7 < b.toNat) ∧
    (∃ (p : PortId) (o : Byte) (a : Origin) (b : Byte) (s : State), Free p s ∧ originOn p o = some a ∧ b.toNat ≤ 7) ∧
    (∃ (p : PortId) (o : Byte) (a : Origin) (b : Byte) (s : State), Free p s ∧ originOn p o = some a ∧ 5 < b.toNat) ∧
    (∃ (p : PortId) (o : Byte) (a : Origin) (b : Byte) (s : State), Free p s ∧ originOn p o = some a ∧ 23 < b.toNat) ∧
    (∃ (p : PortId) (o : Byte) (a : Origin) (b : Byte) (s : State), Free p s ∧ originOn p o = some a ∧ 47 < b.toNat) ∧
    (∃ (p : PortId) (o : Byte) (a : Origin) (b : Byte) (i : Fin 6) (s : State), Free p s ∧ originOn p o = some a ∧
       b.toNat = i.val) ∧
    (∃ (p : PortId) (o : Byte) (a : Origin) (b : Byte) (k : Fin 24) (s : State), Free p s ∧ originOn p o = some a ∧
       b.toNat = k.val) ∧
    (∃ (p : PortId) (o : Byte) (a : Origin) (b : Byte) (j : Fin 48) (s : State), Free p s ∧ originOn p o = some a ∧
       b.toNat = j.val) :=
  ⟨⟨.l, 4, .lectern, live, by unfold Free; decide +kernel⟩,
   ⟨.l, 4, .lectern, 8, live, by unfold Free; decide +kernel⟩,
   ⟨.l, 4, .lectern, 7, live, by unfold Free; decide +kernel⟩,
   ⟨.l, 4, .lectern, 8, live, by unfold Free; decide +kernel⟩,
   ⟨.l, 4, .lectern, 24, live, by unfold Free; decide +kernel⟩,
   ⟨.l, 4, .lectern, 48, live, by unfold Free; decide +kernel⟩,
   ⟨.l, 4, .lectern, 5, 5, live, by unfold Free; decide +kernel⟩,
   ⟨.l, 4, .lectern, 23, 23, live, by unfold Free; decide +kernel⟩,
   ⟨.l, 4, .lectern, 47, 47, live, by unfold Free; decide +kernel⟩⟩

theorem test_witness_NoticesReadTakesFour :
    (∃ (p : PortId) (o : Byte) (a : Origin) (s : State), Free p s ∧ originOn p o = some a ∧ (s.port p).queue.length ≤
       16) ∧
    (∃ (p : PortId) (o : Byte) (a : Origin) (s : State) (q : PortId), Free p s ∧ originOn p o = some a ∧ q ≠ p) :=
  ⟨⟨.e, 1, .engine, busyE, by unfold Free; decide +kernel⟩,
   ⟨.l, 4, .lectern, live, .f, by unfold Free; decide +kernel⟩⟩

theorem test_witness_BadFramesAnswered :
    (∃ (p : PortId) (body : List Byte) (s : State), Free p s ∧ wfBody body = true ∧ invalidBody p body = true) ∧
    (∃ (p : PortId) (body : List Byte) (s : State), Free p s ∧ wfBody body = true ∧ body.head? ≠ some 0x01) :=
  ⟨⟨.l, [1, 0xEE, 1], live, by unfold Free; decide +kernel⟩,
   ⟨.l, [3, 1, 1], live, by unfold Free; decide +kernel⟩⟩

theorem test_witness_EngineTransactions :
    (∃ (o : Byte) (r : Request) (c : Instr) (s : State), s.operating = true ∧ s.ptc.txn = .idle ∧ wfRequest r = true ∧
       requestRow .e o r = some c ∧ Free .e s ∧ s.ptc.e.asm = []) ∧
    (∃ (o : Byte) (r : Request) (n : Nat) (s : State), s.operating = true ∧ s.ptc.txn = .idle ∧ wfRequest r = true ∧
       s.lines.engRst = false ∧ s.ptc.e.asm = [] ∧ s.ptc.e.frames = [] ∧ 0 < n ∧ n < (frameBytes (encodeBody o
       r)).length) ∧
    (∃ (o : Byte) (r : Request) (c : Instr) (n : Nat) (s : State), s.operating = true ∧ s.ptc.txn = .write false ∧
       wfRequest r = true ∧ requestRow .e o r = some c ∧ Free .e s ∧ s.ptc.e.asm = (frameBytes (encodeBody o r)).take n
       ∧ 0 < n ∧ n < (frameBytes (encodeBody o r)).length) ∧
    (∃ (s : State), s.operating = true ∧ s.ptc.txn = .write true ∧ s.ptc.e.asm = [] ∧ (s.ptc.e.reply ≠ none ∨
       s.ptc.e.frames = [])) ∧
    (∃ (bs : List Byte) (s : State), s.operating = true ∧ s.ptc.txn = .idle ∧ bs ≠ [] ∧ bs.head? ≠ some 0xA5 ∧ bs.head?
       ≠ some 0x5A) ∧
    (∃ (s : State), s.operating = true ∧ s.ptc.txn = .ignored) ∧
    (∃ (y : Reply) (n : Nat) (s : State), s.operating = true ∧ s.ptc.txn = .idle ∧ s.lines.engRst = false ∧
       s.ptc.e.reply = some y ∧ s.ptc.e.frames = [] ∧ (frameBytes (replyBody y)).length ≤ n) ∧
    (∃ (y : Reply) (n : Nat) (s : State), s.operating = true ∧ s.ptc.txn = .idle ∧ s.lines.engRst = false ∧
       s.ptc.e.reply = some y ∧ n < (frameBytes (replyBody y)).length) ∧
    (∃ (s : State), s.operating = true ∧ s.ptc.txn = .idle ∧ s.lines.engRst = false ∧ s.ptc.e.reply = none) ∧
    (∃ (n : Nat) (v : Bool) (bs : List Byte) (f : List Byte) (s : State), s.operating = true ∧ s.ptc.txn = .read f v n ∧
       bs ≠ []) ∧
    (∃ (s : State), s.operating = true ∧ (∀ g m, s.ptc.txn = .read g true m → m < g.length)) ∧
    (∃ (n : Nat) (f : List Byte) (s : State), s.operating = true ∧ s.ptc.txn = .read f true n ∧ f.length ≤ n ∧
       s.ptc.e.frames = []) ∧
    (∃ (o : Byte) (r : Request) (c : Instr) (n : Nat) (f : List Byte) (s : State), s.operating = true ∧ s.ptc.txn =
       .read f true n ∧ f.length ≤ n ∧ s.lines.engRst = false ∧ wfRequest r = true ∧ requestRow .e o r = some c ∧
       s.ptc.e.frames = [encodeBody o r]) ∧
    (∃ (bs : List Byte) (s : State), s.operating = true ∧ s.ptc.txn = .idle ∧ s.lines.engRst = true ∧ bs ≠ []) :=
  ⟨⟨1, .powerOn, .powerOn .e 1, live, by unfold Free; decide +kernel⟩,
   ⟨1, .powerOn, 3, live, by decide +kernel⟩,
   ⟨1, .powerOn, .powerOn .e 1, 3, (live.modPtc fun t => { t with txn := .write false }).modPort .e fun q =>
     { q with asm := (frameBytes (encodeBody 1 .powerOn)).take 3 }, by unfold Free; decide +kernel⟩,
   ⟨(live.modPtc fun t => { t with txn := .write true }), by decide +kernel⟩,
   ⟨[0], live, by decide +kernel⟩,
   ⟨(live.modPtc fun t => { t with txn := .ignored }), by decide +kernel⟩,
   ⟨⟨0x10, .done, []⟩, 6, live.modPort .e fun q => { q with reply := some ⟨0x10, .done, []⟩ }, by decide +kernel⟩,
   ⟨⟨0x10, .done, []⟩, 5, live.modPort .e fun q => { q with reply := some ⟨0x10, .done, []⟩ }, by decide +kernel⟩,
   ⟨live, by decide +kernel⟩,
   ⟨2, true, [0xA5, 0], frameBytes (replyBody ⟨0x10, .done, []⟩), (live.modPtc fun t =>
     { t with txn := .read (frameBytes (replyBody ⟨0x10, .done, []⟩)) true 2 }), by decide +kernel⟩,
   ⟨(live.modPtc fun t => { t with txn := .write false }).modPort .e fun q => { q with asm := [0xA5, 4, 1] },
     by exact ⟨by decide +kernel, fun _ _ h => Transaction.noConfusion h⟩⟩,
   ⟨6, frameBytes (replyBody ⟨0x10, .done, []⟩), (live.modPtc fun t =>
     { t with txn := .read (frameBytes (replyBody ⟨0x10, .done, []⟩)) true 6 }).modPort .e fun q =>
     { q with reply := some ⟨0x10, .done, []⟩ }, by decide +kernel⟩,
   ⟨1, .powerOn, .powerOn .e 1, 6, frameBytes (replyBody ⟨0x10, .done, []⟩), (live.modPtc fun t =>
     { t with txn := .read (frameBytes (replyBody ⟨0x10, .done, []⟩)) true 6 }).modPort .e fun q =>
     { q with reply := some ⟨0x10, .done, []⟩, frames := [encodeBody 1 .powerOn] }, by decide +kernel⟩,
   ⟨[0xA5], live.modLines fun l => { l with engRst := true }, by decide +kernel⟩⟩

theorem test_witness_UartEvents :
    (∃ (x : UartId) (s : State), s.operating = true ∧ (s.port x.port).asm = [] ∧ (s.port x.port).frames = []) ∧
    (∃ (x : UartId) (s : State), s.operating = true ∧ 256 ≤ (s.port x.port).used ∧ (s.port x.port).reply ≠ none) ∧
    (∃ (x : UartId) (bs : List Byte) (s : State), s.operating = true ∧ s.ptc.tx x = .reply bs ∧ (s.port x.port).frames =
       []) ∧
    (∃ (x : UartId) (bs : List Byte) (s : State), s.operating = true ∧ s.ptc.tx x = .notice bs) ∧
    (∃ (x : UartId) (v : Bool) (bs : List Byte) (bd : List Byte) (rest : List (List Byte)) (s : State), s.operating =
       true ∧ s.ptc.tx x = .reply bs ∧ (s.port x.port).frames = bd :: rest ∧ bd.head? = some 0x01 ∧ wfBody bd = true ∧
       (v = false ∨ (s.port x.port).queue = [])) ∧
    (∃ (x : UartId) (v : Bool) (bs : List Byte) (bd : List Byte) (rest : List (List Byte)) (n : Notice) (s : State),
       s.operating = true ∧ s.ptc.tx x = .reply bs ∧ (s.port x.port).frames = bd :: rest ∧ bd.head? = some 0x01 ∧ wfBody
       bd = true ∧ v = true ∧ (s.port x.port).queue.head? = some n) :=
  ⟨⟨.l, live, by decide +kernel⟩,
   ⟨.l, live.modPort .l fun q =>
     { q with reply := some ⟨0x10, .done, []⟩, frames := List.replicate 16 (List.replicate 13 0) }, by decide +kernel⟩,
   ⟨.l, [0xA5], live.modPtc fun t => { t with lTx := .reply [0xA5] }, by decide +kernel⟩,
   ⟨.f, [0xA5], live.modPtc fun t => { t with fTx := .notice [0xA5] }, by decide +kernel⟩,
   ⟨.l, false, [0xA5], [1, 0x90, 4], [], waitingL, by decide +kernel⟩,
   ⟨.l, true, [0xA5], [1, 0x90, 4], [], numbered 1, waitingL.modPort .l fun q => { q with queue := [numbered 1] },
     by decide +kernel⟩⟩

theorem test_witness_SecondEventCounts :
    (∃ (s : State), s.powered = false) ∧
    (∃ (s : State), s.powered = true ∧ s.operating = false) ∧
    (∃ (s : State), s.operating = true ∧ s.lines.lit = false) ∧
    (∃ (s : State), s.operating = true ∧ s.lines.lit = true ∧ (s.lsq.state = .on ∨ s.lsq.state = .offPending) ∧
       s.settings.autoDim = true ∧ s.nosigRunning = true ∧ s.settings.nosigDim ≠ 0 ∧ s.settings.nosigDim ≤ countUp 3600
       s.ssw.nosigCount) ∧
    (∃ (s : State), s.operating = true ∧ s.lines.lit = true ∧ s.lsq.state = .warmup ∧ s.lsq.warmupTimer = some 1) ∧
    (∃ (s : State), s.operating = true ∧ s.lines.lit = true ∧ s.lsq.coolTimer = some 1 ∧ (s.lsq.state = .cooling ∧
       s.lsq.held = none ∨ s.lsq.state = .faultCooling)) :=
  ⟨⟨live.modLines fun l => { l with supply := false }, by decide +kernel⟩,
   ⟨live.modSto fun t => { t with phase := .loading }, by decide +kernel⟩,
   ⟨live, by decide +kernel⟩,
   ⟨litUp ((trainedAt .noSignal).modLsq fun q => { q with state := .on }) |>.modSsw fun w =>
     { w with nosigCount := 59 }, by decide +kernel⟩,
   ⟨litUp (live.modLsq fun q => { q with state := .warmup, warmupTimer := some 1 }), by decide +kernel⟩,
   ⟨litUp (live.modLsq fun q => { q with state := .cooling, coolTimer := some 1 }), by decide +kernel⟩⟩

theorem test_witness_IgnitionTimersEnd :
    (∃ (s : State), s.operating = true ∧ s.lsq.attemptTimer ≠ some 0) ∧
    (∃ (s : State), s.operating = true ∧ s.lsq.attemptTimer = some 0 ∧ s.lsq.attempt < 3) ∧
    (∃ (s : State), s.operating = true ∧ s.lsq.attemptTimer = some 0 ∧ 3 ≤ s.lsq.attempt ∧ s.lamp.fault = none) ∧
    (∃ (s : State), s.operating = true ∧ s.lsq.gapTimer ≠ some 0) ∧
    (∃ (s : State), s.operating = true ∧ s.lsq.gapTimer = some 0 ∧ s.windowFull = true) ∧
    (∃ (s : State), s.operating = true ∧ s.lsq.gapTimer = some 0 ∧ s.windowFull = false ∧ s.lines.lit = true) ∧
    (∃ (s : State), s.operating = true ∧ s.lsq.gapTimer = some 0 ∧ s.windowFull = false ∧ s.lines.lit = false) :=
  ⟨⟨live.modLsq fun q => { q with attemptTimer := some 1 }, by decide +kernel⟩,
   ⟨live.modLsq fun q => { q with state := .striking, attemptTimer := some 0, attempt := 2 }, by decide +kernel⟩,
   ⟨live.modLsq fun q => { q with state := .striking, attemptTimer := some 0, attempt := 3 }, by decide +kernel⟩,
   ⟨live.modLsq fun q => { q with gapTimer := some 1 }, by decide +kernel⟩,
   ⟨live.modLsq fun q => { q with state := .striking, gapTimer := some 0, strikeLog := [0, 0, 0, 0] },
     by decide +kernel⟩,
   ⟨(live.modLsq fun q => { q with state := .striking, gapTimer := some 0, strikeLog := [0, 0, 0] }).modLines fun l =>
     { l with lit := true }, by decide +kernel⟩,
   ⟨live.modLsq fun q => { q with state := .striking, gapTimer := some 0, strikeLog := [0, 0, 0] }, by decide +kernel⟩⟩

theorem test_witness_LampTimersEnd :
    (∃ (s : State), s.operating = true ∧ s.lsq.warmupTimer ≠ some 0) ∧
    (∃ (s : State), s.operating = true ∧ s.lsq.warmupTimer = some 0) ∧
    (∃ (s : State), s.operating = true ∧ ¬(s.lsq.state = .offPending ∧ s.settings.minOn ≤ s.lsq.litTime)) ∧
    (∃ (s : State), s.operating = true ∧ s.lsq.state = .offPending ∧ s.settings.minOn ≤ s.lsq.litTime) ∧
    (∃ (s : State), s.operating = true ∧ s.lsq.coolTimer ≠ some 0) ∧
    (∃ (s : State), s.operating = true ∧ s.lsq.coolTimer = some 0 ∧ s.lsq.state = .cooling ∧ s.lsq.held = none) ∧
    (∃ (s : State), s.operating = true ∧ s.lsq.coolTimer = some 0 ∧ s.lsq.state = .faultCooling) ∧
    (∃ (h : Held) (s : State), s.operating = true ∧ s.lsq.held = some h ∧ s.lsq.coolTimer = some 0 ∧ s.lsq.state =
       .cooling ∧ condition s.lamp = .expired) ∧
    (∃ (h : Held) (s : State), s.operating = true ∧ s.lsq.held = some h ∧ s.lsq.coolTimer = some 0 ∧ s.lsq.state =
       .cooling ∧ condition s.lamp ≠ .expired ∧ s.lines.bfault = true) ∧
    (∃ (h : Held) (s : State), s.operating = true ∧ s.lsq.held = some h ∧ s.lsq.coolTimer = some 0 ∧ s.lsq.state =
       .cooling ∧ condition s.lamp ≠ .expired ∧ s.lines.bfault = false ∧ s.lines.lit = true) ∧
    (∃ (h : Held) (s : State), s.operating = true ∧ s.lsq.held = some h ∧ s.lsq.coolTimer = some 0 ∧ s.lsq.state =
       .cooling ∧ condition s.lamp ≠ .expired ∧ s.lines.bfault = false ∧ s.lines.lit = false ∧ s.windowFull = true) ∧
    (∃ (h : Held) (s : State), s.operating = true ∧ s.lsq.held = some h ∧ s.lsq.coolTimer = some 0 ∧ s.lsq.state =
       .cooling ∧ condition s.lamp ≠ .expired ∧ s.lines.bfault = false ∧ s.lines.lit = false ∧ s.windowFull = false) ∧
    (∃ (s : State), s.operating = true ∧ ¬(s.lsq.state = .off ∧ s.lsq.held ≠ none ∧ s.windowFull = false)) ∧
    (∃ (h : Held) (s : State), s.operating = true ∧ s.lsq.held = some h ∧ s.lsq.state = .off ∧ s.windowFull = false ∧
       condition s.lamp = .expired) ∧
    (∃ (h : Held) (s : State), s.operating = true ∧ s.lsq.held = some h ∧ s.lsq.state = .off ∧ s.windowFull = false ∧
       condition s.lamp ≠ .expired ∧ s.lines.bfault = true) ∧
    (∃ (h : Held) (s : State), s.operating = true ∧ s.lsq.held = some h ∧ s.lsq.state = .off ∧ s.windowFull = false ∧
       condition s.lamp ≠ .expired ∧ s.lines.bfault = false ∧ s.lines.lit = true) ∧
    (∃ (h : Held) (s : State), s.operating = true ∧ s.lsq.held = some h ∧ s.lsq.state = .off ∧ s.windowFull = false ∧
       condition s.lamp ≠ .expired ∧ s.lines.bfault = false ∧ s.lines.lit = false) :=
  ⟨⟨live.modLsq fun q => { q with warmupTimer := some 1 }, by decide +kernel⟩,
   ⟨live.modLsq fun q => { q with state := .warmup, warmupTimer := some 0 }, by decide +kernel⟩,
   ⟨live.modLsq fun q => { q with state := .offPending, litTime := 119 }, by decide +kernel⟩,
   ⟨live.modLsq fun q => { q with state := .offPending, litTime := 120 }, by decide +kernel⟩,
   ⟨live.modLsq fun q => { q with coolTimer := some 1 }, by decide +kernel⟩,
   ⟨live.modLsq fun q => { q with state := .cooling, coolTimer := some 0 }, by decide +kernel⟩,
   ⟨live.modLsq fun q => { q with state := .faultCooling, coolTimer := some 0 }, by decide +kernel⟩,
   ⟨⟨.timetable, .window⟩, (live.modLsq fun q =>
     { q with state := .cooling, coolTimer := some 0, held := some ⟨.timetable, .window⟩ }).modLamp (modCur fun c =>
     { c with hours := 3000 }), by decide +kernel⟩,
   ⟨⟨.timetable, .window⟩, (live.modLsq fun q =>
     { q with state := .cooling, coolTimer := some 0, held := some ⟨.timetable, .window⟩ }).modLines fun l =>
     { l with bfault := true }, by decide +kernel⟩,
   ⟨⟨.timetable, .window⟩, (live.modLsq fun q =>
     { q with state := .cooling, coolTimer := some 0, held := some ⟨.timetable, .window⟩ }).modLines fun l =>
     { l with lit := true }, by decide +kernel⟩,
   ⟨⟨.timetable, .window⟩, live.modLsq fun q =>
     { q with state := .cooling, coolTimer := some 0, held := some ⟨.timetable, .window⟩, strikeLog := [0, 0, 0, 0] },
     by decide +kernel⟩,
   ⟨⟨.timetable, .window⟩, live.modLsq fun q =>
     { q with state := .cooling, coolTimer := some 0, held := some ⟨.timetable, .window⟩ }, by decide +kernel⟩,
   ⟨live.modLsq fun q => { q with held := some ⟨.timetable, .window⟩, strikeLog := [0, 0, 0, 0] }, by decide +kernel⟩,
   ⟨⟨.timetable, .window⟩, (live.modLsq fun q => { q with held := some ⟨.timetable, .window⟩ }).modLamp (modCur fun c =>
     { c with hours := 3000 }), by decide +kernel⟩,
   ⟨⟨.timetable, .window⟩, (live.modLsq fun q => { q with held := some ⟨.timetable, .window⟩ }).modLines fun l =>
     { l with bfault := true }, by decide +kernel⟩,
   ⟨⟨.timetable, .window⟩, (live.modLsq fun q => { q with held := some ⟨.timetable, .window⟩ }).modLines fun l =>
     { l with lit := true }, by decide +kernel⟩,
   ⟨⟨.timetable, .window⟩, live.modLsq fun q => { q with held := some ⟨.timetable, .window⟩, strikeLog := [0, 0, 0] },
     by decide +kernel⟩⟩

theorem test_witness_CountsReached :
    (∃ (s : State), s.operating = true ∧ (¬(s.nosigRunning = true ∧ s.settings.nosigOff ≠ 0 ∧ s.settings.nosigOff ≤
       s.ssw.nosigCount) ∨ s.ssw.autoOffTest = false)) ∧
    (∃ (s : State), s.operating = true ∧ s.nosigRunning = true ∧ s.settings.nosigOff ≠ 0 ∧ s.settings.nosigOff ≤
       s.ssw.nosigCount ∧ s.ssw.autoOffTest = true ∧ s.ses ≠ none) ∧
    (∃ (s : State), s.operating = true ∧ s.nosigRunning = true ∧ s.settings.nosigOff ≠ 0 ∧ s.settings.nosigOff ≤
       s.ssw.nosigCount ∧ s.ssw.autoOffTest = true ∧ s.ses = none ∧ (s.lsq.state = .warmup ∨ s.lsq.state = .on)) :=
  ⟨⟨((trainedAt .noSignal).modLsq fun q => { q with state := .on }).modSsw fun w =>
     { w with nosigCount := 899, autoOffTest := true }, by decide +kernel⟩,
   ⟨(((trainedAt .noSignal).modLsq fun q => { q with state := .on }).modSsw fun w =>
     { w with nosigCount := 900, autoOffTest := true }).modSes fun _ => some meeting, by decide +kernel⟩,
   ⟨((trainedAt .noSignal).modLsq fun q => { q with state := .on }).modSsw fun w =>
     { w with nosigCount := 900, autoOffTest := true }, by decide +kernel⟩⟩

theorem test_witness_PresenceDebounced :
    (∃ (i : Fin 6) (s : State), s.lines.supply = true ∧ s.inm.deb[i].timer = none) ∧
    (∃ (i : Fin 6) (v : Bool) (s : State), s.lines.supply = true ∧ s.inm.deb[i].timer = some v) ∧
    (∃ (i : Fin 6) (v : Bool) (s : State), s.operating = true ∧ s.inm.deb[i].timer = some v ∧ s.ssw.selected ≠ some i ∧
       (v = false ∨ s.inputs.entries[i].enabled = false ∨ s.ssw.phase = .none ∧ (s.inputs.autoscan = false ∨
       s.ssw.trained = false ∨ (s.selPath ≠ some .noSignal ∧ s.selPath ≠ some .absent)))) ∧
    (∃ (i : Fin 6) (s : State), s.operating = true ∧ s.inm.deb[i].timer = some false ∧ s.onScreen i = true ∧
       s.inm.path[i] ≠ .absent ∧ s.inputs.autoscan = false ∧ (∀ r ∈ s.ssw.record, r.kind ≠ .scan)) ∧
    (∃ (i : Fin 6) (s : State), s.operating = true ∧ s.inm.deb[i].timer = some true ∧ s.onScreen i = true ∧
       s.inm.path[i] = .absent) ∧
    (∃ (i : Fin 6) (s : State), s.operating = true ∧ s.inm.deb[i].timer = some true ∧ s.onScreen i = true ∧
       s.inm.path[i] ≠ .absent) ∧
    (∃ (i : Fin 6) (h : Fin 6) (s : State), s.operating = true ∧ s.inm.deb[i].timer = some true ∧
       s.inputs.entries[i].enabled = true ∧ h ≠ i ∧ s.ssw.selected = some h ∧ s.ssw.trained = true ∧ (s.inm.path[h] =
       .noSignal ∨ s.inm.path[h] = .absent) ∧ s.inputs.autoscan = true ∧ s.ssw.phase = .none ∧ s.ssw.record = none) ∧
    (∃ (i : Fin 6) (s : State), s.operating = true ∧ s.inm.deb[i].timer = some true ∧ s.inputs.entries[i].enabled = true
       ∧ s.ssw.selected ≠ some i ∧ s.ssw.phase = .trying) ∧
    (∃ (i : Fin 6) (s : State), s.operating = true ∧ s.inm.deb[i].timer = some true ∧ s.inputs.entries[i].enabled = true
       ∧ s.ssw.selected ≠ some i ∧ s.ssw.phase = .returning) ∧
    (∃ (i : Fin 6) (v : Bool) (s : State), s.operating = true ∧ s.inm.deb[i].timer = some v ∧ s.ssw.selected = some i ∧
       s.ssw.trained = false) ∧
    (∃ (i : Fin 6) (s : State), s.operating = true ∧ s.inm.deb[i].timer = some false ∧ s.onScreen i = true ∧
       s.inm.path[i] ≠ .absent ∧ s.inputs.autoscan = true ∧ s.ssw.phase = .none ∧ (∀ r ∈ s.ssw.record, r.kind =
       .recovery ∨ (r.kind = .retrain ∧ r.origin = .part)) ∧ ∃ x, x ≠ i ∧ s.attached x = true) ∧
    (∃ (i : Fin 6) (s : State), s.operating = true ∧ s.inm.deb[i].timer = some false ∧ s.onScreen i = true ∧
       s.inm.path[i] ≠ .absent ∧ s.inputs.autoscan = true ∧ s.ssw.phase = .none ∧ (∀ r ∈ s.ssw.record, r.kind =
       .recovery ∨ (r.kind = .retrain ∧ r.origin = .part)) ∧ (∀ x, x ≠ i → s.attached x = false)) ∧
    (∃ (i : Fin 6) (s : State), s.operating = true ∧ s.inm.deb[i].timer = some false ∧ s.onScreen i = true ∧
       s.inm.path[i] ≠ .absent ∧ ∃ r ∈ s.ssw.record, r.kind = .select ∨ (r.kind = .retrain ∧ r.origin ≠ .part)) ∧
    (∃ (i : Fin 6) (s : State), s.operating = true ∧ s.inm.deb[i].timer = some false ∧ s.onScreen i = true ∧
       s.inm.path[i] ≠ .absent ∧ ∃ r ∈ s.ssw.record, r.kind = .scan ∧ s.ssw.phase = .none) ∧
    (∃ (i : Fin 6) (h : Fin 6) (s : State), s.operating = true ∧ s.inm.deb[i].timer = some false ∧ s.onScreen i = true ∧
       s.inm.path[i] ≠ .absent ∧ ∃ r ∈ s.ssw.record, r.kind = .scan ∧ s.ssw.phase = .trying ∧ s.ssw.home = some h) ∧
    (∃ (i : Fin 6) (s : State), s.operating = true ∧ s.inm.deb[i].timer = some false ∧ s.onScreen i = true ∧
       s.inm.path[i] ≠ .absent ∧ ∃ r ∈ s.ssw.record, r.kind = .scan ∧ s.ssw.phase = .returning ∧ s.ssw.rescan = true ∧ ∃
       x, x ≠ i ∧ s.attached x = true) ∧
    (∃ (i : Fin 6) (s : State), s.operating = true ∧ s.inm.deb[i].timer = some false ∧ s.onScreen i = true ∧
       s.inm.path[i] ≠ .absent ∧ ∃ r ∈ s.ssw.record, r.kind = .scan ∧ s.ssw.phase = .returning ∧ (s.ssw.rescan = false ∨
       (∀ x, x ≠ i → s.attached x = false))) :=
  ⟨⟨0, live, by decide +kernel⟩,
   ⟨0, true, expiring true live, by decide +kernel⟩,
   ⟨0, true, (expiring true (live.modSsw fun w => { w with selected := some 1 })).modInputs fun r =>
     { r with autoscan := false }, by decide +kernel⟩,
   ⟨0, (expiring false (trainedAt .locked)).modInputs fun r => { r with autoscan := false }, by decide +kernel⟩,
   ⟨0, expiring true (trainedAt .absent), by decide +kernel⟩,
   ⟨0, expiring true (trainedAt .locked), by decide +kernel⟩,
   ⟨1, 0, expiring1 (trainedAt .noSignal), by decide +kernel⟩,
   ⟨1, expiring1 (scanning .trying), by decide +kernel⟩,
   ⟨1, expiring1 (scanning .returning), by decide +kernel⟩,
   ⟨0, true, expiring true live, by decide +kernel⟩,
   ⟨0, present1 (expiring false (trainedAt .locked)), by decide +kernel⟩,
   ⟨0, expiring false (trainedAt .locked), by decide +kernel⟩,
   ⟨0, expiring false (switching .retrain .keypad (trainedAt .training)), by decide +kernel⟩,
   ⟨0, expiring false (scanning .none), by decide +kernel⟩,
   ⟨0, 2, expiring false (scanning .trying), by decide +kernel⟩,
   ⟨0, present1 (expiring false (scanning .returning)), by decide +kernel⟩,
   ⟨0, expiring false ((scanning .returning).modSsw fun w => { w with rescan := false }), by decide +kernel⟩⟩

theorem test_witness_FramesMeasured :
    (∃ (s : State), s.operating = true ∧ s.inm.mon.mode ≠ .idle ∧ s.inm.mon.openFrame = none) ∧
    (∃ (q : OpenFrame) (s : State), s.operating = true ∧ s.inm.mon.mode ≠ .idle ∧ s.inm.mon.openFrame = some q) ∧
    (∃ (s : State), s.operating = true ∧ (s.inm.mon.mode = .idle ∨ s.inm.mon.openFrame = none)) ∧
    (∃ (z : Nat) (m : Measure) (q : OpenFrame) (s : State), s.operating = true ∧ s.inm.mon.mode = .seeking ∧
       s.inm.mon.openFrame = some q ∧ m = ⟨q.lines, z - q.time⟩ ∧ (s.inm.mon.candidates = [] ∨ (∃ c ∈
       s.inm.mon.candidates.head?, agrees c m = false))) ∧
    (∃ (z : Nat) (m : Measure) (q : OpenFrame) (c : Measure) (s : State), s.operating = true ∧ s.inm.mon.mode = .seeking
       ∧ s.inm.mon.openFrame = some q ∧ m = ⟨q.lines, z - q.time⟩ ∧ s.inm.mon.candidates = [c] ∧ agrees c m = true) ∧
    (∃ (z : Nat) (b : Bool) (i : Fin 6) (k : Fin 24) (q : OpenFrame) (c : Measure) (d : Measure) (s : State),
       s.operating = true ∧ s.inm.mon.mode = .seeking ∧ s.inm.mon.openFrame = some q ∧ s.inm.mon.candidates = [c, d] ∧
       agrees c ⟨q.lines, z - q.time⟩ = true ∧ s.onScreen i = true ∧ s.inm.deb[i].presence = true ∧ (s.inm.path[i] =
       .training ∨ s.inm.path[i] = .recovery ∨ s.inm.path[i] = .noSignal) ∧ classify s.timings c = some k ∧ b = true) ∧
    (∃ (z : Nat) (b : Bool) (i : Fin 6) (k : Fin 24) (q : OpenFrame) (c : Measure) (d : Measure) (s : State),
       s.operating = true ∧ s.inm.mon.mode = .seeking ∧ s.inm.mon.openFrame = some q ∧ s.inm.mon.candidates = [c, d] ∧
       agrees c ⟨q.lines, z - q.time⟩ = true ∧ s.onScreen i = true ∧ s.inm.deb[i].presence = true ∧ (s.inm.path[i] =
       .training ∨ s.inm.path[i] = .recovery ∨ s.inm.path[i] = .noSignal) ∧ classify s.timings c = some k ∧ b = false) ∧
    (∃ (z : Nat) (i : Fin 6) (q : OpenFrame) (l : Measure) (s : State), s.operating = true ∧ s.inm.mon.mode = .tracking
       ∧ s.inm.mon.openFrame = some q ∧ s.inm.mon.locked = some l ∧ s.ssw.selected = some i ∧ s.locked = true ∧ (2 <
       apart l.lines q.lines ∨ 200 < apart l.period (z - q.time))) ∧
    (∃ (z : Nat) (q : OpenFrame) (l : Measure) (s : State), s.operating = true ∧ s.inm.mon.mode = .tracking ∧
       s.inm.mon.openFrame = some q ∧ s.inm.mon.locked = some l ∧ s.locked = true ∧ apart l.lines q.lines ≤ 2 ∧ apart
       l.period (z - q.time) ≤ 200 ∧ s.geo.pendingWarp = none ∧ s.showable = true) ∧
    (∃ (z : Nat) (i : Fin 6) (q : OpenFrame) (c : Measure) (d : Measure) (s : State), s.operating = true ∧
       s.inm.mon.mode = .seeking ∧ s.inm.mon.openFrame = some q ∧ s.inm.mon.candidates = [c, d] ∧ agrees c ⟨q.lines, z -
       q.time⟩ = true ∧ s.onScreen i = true ∧ s.inm.deb[i].presence = true ∧ (s.inm.path[i] = .training ∨ s.inm.path[i]
       = .recovery ∨ s.inm.path[i] = .noSignal) ∧ classify s.timings c = none ∧ (∀ r ∈ s.ssw.record, r.kind = .scan →
       s.ssw.phase = .none)) ∧
    (∃ (z : Nat) (i : Fin 6) (q : OpenFrame) (c : Measure) (d : Measure) (s : State) (h : Fin 6), s.operating = true ∧
       s.inm.mon.mode = .seeking ∧ s.inm.mon.openFrame = some q ∧ s.inm.mon.candidates = [c, d] ∧ agrees c ⟨q.lines, z -
       q.time⟩ = true ∧ s.onScreen i = true ∧ s.inm.deb[i].presence = true ∧ (s.inm.path[i] = .training ∨ s.inm.path[i]
       = .recovery ∨ s.inm.path[i] = .noSignal) ∧ classify s.timings c = none ∧ ∃ r ∈ s.ssw.record, r.kind = .scan ∧
       s.ssw.phase = .trying ∧ s.ssw.home = some h) ∧
    (∃ (z : Nat) (i : Fin 6) (q : OpenFrame) (c : Measure) (d : Measure) (s : State), s.operating = true ∧
       s.inm.mon.mode = .seeking ∧ s.inm.mon.openFrame = some q ∧ s.inm.mon.candidates = [c, d] ∧ agrees c ⟨q.lines, z -
       q.time⟩ = true ∧ s.onScreen i = true ∧ s.inm.deb[i].presence = true ∧ (s.inm.path[i] = .training ∨ s.inm.path[i]
       = .recovery ∨ s.inm.path[i] = .noSignal) ∧ classify s.timings c = none ∧ ∃ r ∈ s.ssw.record, r.kind = .scan ∧
       s.ssw.phase = .returning) ∧
    (∃ (z : Nat) (i : Fin 6) (q : OpenFrame) (c : Measure) (d : Measure) (s : State), s.operating = true ∧
       s.inm.mon.mode = .seeking ∧ s.inm.mon.openFrame = some q ∧ s.inm.mon.candidates = [c, d] ∧ agrees c ⟨q.lines, z -
       q.time⟩ = true ∧ s.onScreen i = true ∧ ((s.inm.deb[i].presence = false ∧ s.inm.path[i] ≠ .locked) ∨ s.inm.path[i]
       = .absent)) ∧
    (∃ (z : Nat) (i : Fin 6) (q : OpenFrame) (l : Measure) (s : State), s.operating = true ∧ s.inm.mon.mode = .tracking
       ∧ s.inm.mon.openFrame = some q ∧ s.inm.mon.locked = some l ∧ s.onScreen i = true ∧ (2 < apart l.lines q.lines ∨
       200 < apart l.period (z - q.time)) ∧ s.inm.path[i] = .unsupported) ∧
    (∃ (z : Nat) (i : Fin 6) (q : OpenFrame) (l : Measure) (s : State), s.operating = true ∧ s.inm.mon.mode = .tracking
       ∧ s.inm.mon.openFrame = some q ∧ s.inm.mon.locked = some l ∧ s.onScreen i = true ∧ (2 < apart l.lines q.lines ∨
       200 < apart l.period (z - q.time)) ∧ s.inm.path[i] = .absent) ∧
    (∃ (k : Fin 24) (m : Measure) (s : State), s.operating = true ∧ classify s.timings m = some k) :=
  ⟨⟨live.modInm fun n => { n with mon := { n.mon with mode := .seeking } }, by decide +kernel⟩,
   ⟨⟨0, 1127⟩, measuring .seeking ⟨1127, 16684⟩ live, by decide +kernel⟩,
   ⟨live, by decide +kernel⟩,
   ⟨16000, ⟨1127, 16000⟩, ⟨0, 1127⟩, measuring .seeking ⟨1127, 16684⟩ live, by decide +kernel⟩,
   ⟨16684, ⟨1127, 16684⟩, ⟨0, 1127⟩, ⟨1127, 16684⟩, (measuring .seeking ⟨1127, 16684⟩ live).modInm fun n =>
     { n with mon := { n.mon with candidates := [⟨1127, 16684⟩] } }, by decide +kernel⟩,
   ⟨16684, true, 0, 5, ⟨0, 1127⟩, ⟨1127, 16684⟩, ⟨1127, 16684⟩, measuring .seeking ⟨1127, 16684⟩ (present0 (trainedAt
     .training)), by decide +kernel⟩,
   ⟨16684, false, 0, 5, ⟨0, 1127⟩, ⟨1127, 16684⟩, ⟨1127, 16684⟩, measuring .seeking ⟨1127, 16684⟩ (present0 (trainedAt
     .training)), by decide +kernel⟩,
   ⟨16900, 0, ⟨0, 1127⟩, ⟨1127, 16684⟩, measuring .tracking ⟨1127, 16684⟩ (trainedAt .locked), by decide +kernel⟩,
   ⟨16684, ⟨0, 1127⟩, ⟨1127, 16684⟩, (measuring .tracking ⟨1127, 16684⟩ ((trainedAt .locked).modLsq fun q =>
     { q with state := .on })).modSsw fun w => { w with ready := true }, by decide +kernel⟩,
   ⟨30000, 0, ⟨0, 300⟩, ⟨300, 30000⟩, ⟨300, 30000⟩, measuring .seeking ⟨300, 30000⟩ (present0 (trainedAt .training)),
     by decide +kernel⟩,
   ⟨30000, 0, ⟨0, 300⟩, ⟨300, 30000⟩, ⟨300, 30000⟩, measuring .seeking ⟨300, 30000⟩ (present0 (scanning .trying)), 2,
     by decide +kernel⟩,
   ⟨30000, 0, ⟨0, 300⟩, ⟨300, 30000⟩, ⟨300, 30000⟩, measuring .seeking ⟨300, 30000⟩ (present0 (scanning .returning)),
     by decide +kernel⟩,
   ⟨16684, 0, ⟨0, 1127⟩, ⟨1127, 16684⟩, ⟨1127, 16684⟩, measuring .seeking ⟨1127, 16684⟩ (trainedAt .absent),
     by decide +kernel⟩,
   ⟨16900, 0, ⟨0, 1127⟩, ⟨1127, 16684⟩, measuring .tracking ⟨1127, 16684⟩ (trainedAt .unsupported), by decide +kernel⟩,
   ⟨16900, 0, ⟨0, 1127⟩, ⟨1127, 16684⟩, measuring .tracking ⟨1127, 16684⟩ (trainedAt .absent), by decide +kernel⟩,
   ⟨5, ⟨1127, 16684⟩, live, by decide +kernel⟩⟩

theorem test_witness_PathLostOrTimedOut :
    (∃ (s : State), s.operating = true ∧ (s.inm.mon.watchdog = false ∨ s.inm.mon.mode = .idle)) ∧
    (∃ (s : State), s.operating = true ∧ s.inm.mon.watchdog = true ∧ s.inm.mon.mode = .seeking) ∧
    (∃ (i : Fin 6) (s : State), s.operating = true ∧ s.inm.mon.watchdog = true ∧ s.inm.mon.mode = .tracking ∧ s.locked =
       true ∧ s.ssw.selected = some i) ∧
    (∃ (i : Fin 6) (s : State), s.operating = true ∧ s.inm.mon.watchdog = true ∧ s.inm.mon.mode = .tracking ∧ s.onScreen
       i = true ∧ s.inm.path[i] = .unsupported) ∧
    (∃ (i : Fin 6) (s : State), s.operating = true ∧ s.inm.mon.watchdog = true ∧ s.inm.mon.mode = .tracking ∧ s.onScreen
       i = true ∧ s.inm.path[i] = .absent) ∧
    (∃ (s : State), s.operating = true ∧ (s.ssw.timer ≠ some 0 ∨ s.ssw.record = none)) ∧
    (∃ (i : Fin 6) (r : SwitchRecord) (s : State), s.operating = true ∧ s.ssw.timer = some 0 ∧ s.ssw.selected = some i ∧
       s.ssw.record = some r ∧ (r.kind = .select ∨ (r.kind = .retrain ∧ r.origin ≠ .part) ∨ (r.kind ≠ .scan ∧
       s.inputs.autoscan = false)) ∧ r.origin ≠ .timetable) ∧
    (∃ (i : Fin 6) (r : SwitchRecord) (s : State), s.operating = true ∧ s.ssw.timer = some 0 ∧ s.ssw.selected = some i ∧
       s.ssw.record = some r ∧ r.kind = .scan ∧ s.ssw.phase = .none) ∧
    (∃ (i : Fin 6) (r : SwitchRecord) (s : State), s.operating = true ∧ s.ssw.timer = some 0 ∧ s.ssw.selected = some i ∧
       s.ssw.record = some r ∧ (r.kind = .recovery ∨ (r.kind = .retrain ∧ r.origin = .part)) ∧ s.inputs.autoscan = true
       ∧ s.ssw.phase = .none ∧ s.ssw.trained = true ∧ ∃ x, x ≠ i ∧ s.attached x = true) ∧
    (∃ (i : Fin 6) (r : SwitchRecord) (s : State), s.operating = true ∧ s.ssw.timer = some 0 ∧ s.ssw.selected = some i ∧
       s.ssw.record = some r ∧ (r.kind = .recovery ∨ (r.kind = .retrain ∧ r.origin = .part)) ∧ s.inputs.autoscan = true
       ∧ s.ssw.phase = .none ∧ s.ssw.trained = true ∧ (∀ x, x ≠ i → s.attached x = false)) ∧
    (∃ (i : Fin 6) (h : Fin 6) (r : SwitchRecord) (s : State), s.operating = true ∧ s.ssw.timer = some 0 ∧
       s.ssw.selected = some i ∧ s.ssw.trained = true ∧ s.ssw.record = some r ∧ r.kind = .scan ∧ s.ssw.phase = .trying ∧
       s.ssw.home = some h) ∧
    (∃ (i : Fin 6) (r : SwitchRecord) (s : State), s.operating = true ∧ s.ssw.timer = some 0 ∧ s.ssw.selected = some i ∧
       s.ssw.trained = true ∧ s.ssw.record = some r ∧ r.kind = .scan ∧ s.ssw.phase = .returning ∧ s.ssw.rescan = true ∧
       ∃ x, x ≠ i ∧ s.attached x = true) ∧
    (∃ (i : Fin 6) (r : SwitchRecord) (s : State), s.operating = true ∧ s.ssw.timer = some 0 ∧ s.ssw.selected = some i ∧
       s.ssw.trained = true ∧ s.ssw.record = some r ∧ r.kind = .scan ∧ s.ssw.phase = .returning ∧ (s.ssw.rescan = false
       ∨ (∀ x, x ≠ i → s.attached x = false))) :=
  ⟨⟨live, by decide +kernel⟩,
   ⟨live.modInm fun n => { n with mon := { n.mon with mode := .seeking, watchdog := true } }, by decide +kernel⟩,
   ⟨0, (trainedAt .locked).modInm fun n => { n with mon := { n.mon with mode := .tracking, watchdog := true } },
     by decide +kernel⟩,
   ⟨0, measuring .tracking ⟨1127, 16684⟩ (trainedAt .unsupported), by decide +kernel⟩,
   ⟨0, measuring .tracking ⟨1127, 16684⟩ (trainedAt .absent), by decide +kernel⟩,
   ⟨(switching .select .lectern live).modSsw fun w => { w with timer := some 1 }, by decide +kernel⟩,
   ⟨0, ⟨0, .lectern, .select, false⟩, (switching .select .lectern (trainedAt .training)).modSsw fun w =>
     { w with timer := some 0 }, by decide +kernel⟩,
   ⟨0, ⟨0, .part, .scan, false⟩, (scanning .none).modSsw fun w => { w with timer := some 0 }, by decide +kernel⟩,
   ⟨0, ⟨0, .part, .retrain, false⟩, (switching .retrain .part (present1 (trainedAt .training))).modSsw fun w =>
     { w with timer := some 0 }, by decide +kernel⟩,
   ⟨0, ⟨0, .part, .recovery, false⟩, (switching .recovery .part (trainedAt .recovery)).modSsw fun w =>
     { w with timer := some 0 }, by decide +kernel⟩,
   ⟨0, 2, ⟨0, .part, .scan, false⟩, (scanning .trying).modSsw fun w => { w with timer := some 0 }, by decide +kernel⟩,
   ⟨0, ⟨0, .part, .scan, false⟩, (present1 (scanning .returning)).modSsw fun w => { w with timer := some 0 },
     by decide +kernel⟩,
   ⟨0, ⟨0, .part, .scan, false⟩, (scanning .returning).modSsw fun w => { w with timer := some 0 }, by decide +kernel⟩⟩

theorem test_witness_KeypadPresses :
    (∃ (s : State), s.operating = true ∧ s.keypadPasses .power = false) ∧
    (∃ (s : State), s.operating = true ∧ s.keypadPasses .power = true ∧ drivenState s.lsq.state = true ∧
       s.lkc.confirmOpen = false) ∧
    (∃ (s : State), s.operating = true ∧ s.keypadPasses .power = true ∧ drivenState s.lsq.state = true ∧
       s.lkc.confirmOpen = true ∧ s.ses = none) ∧
    (∃ (s : State), s.operating = true ∧ s.keypadPasses .power = true ∧ s.lsq.state = .cooling) ∧
    (∃ (s : State), s.operating = true ∧ s.keypadPasses .geometry = false) ∧
    (∃ (s : State), s.operating = true ∧ s.keypadPasses .geometry = true) ∧
    (∃ (s : State), s.operating = true ∧ s.keypadPasses .picture = false) ∧
    (∃ (i : Fin 6) (s : State), s.operating = true ∧ s.keypadPasses .picture = true ∧ s.ssw.selected = some i ∧
       s.inputs.entries[s.pressNames i].enabled = true ∧ ¬(s.pressNames i = i ∧ s.locked = true)) ∧
    (∃ (i : Fin 6) (s : State), s.operating = true ∧ s.keypadPasses .picture = true ∧ s.ssw.selected = some i ∧
       (s.inputs.entries[s.pressNames i].enabled = false ∨ (s.pressNames i = i ∧ s.locked = true))) ∧
    (∃ (s : State) (r : Session), s.operating = true ∧ s.keypadPasses .power = true ∧ drivenState s.lsq.state = true ∧
       s.lkc.confirmOpen = true ∧ s.ses = some r ∧ r.deferred = false) ∧
    (∃ (s : State) (r : Session), s.operating = true ∧ s.keypadPasses .power = true ∧ drivenState s.lsq.state = true ∧
       s.lkc.confirmOpen = true ∧ s.ses = some r ∧ s.lateAnswer r.slot s.cal.date (minuteOf s.cal.time) = none) ∧
    (∃ (s : State), s.operating = true ∧ s.keypadPasses .power = true ∧ drivenState s.lsq.state = false ∧ s.lsq.state ≠
       .cooling ∧ pictureFits s = true ∧ (powerReport s).1 = .lampRefused) ∧
    (∃ (s : State), s.operating = true ∧ s.keypadPasses .power = true ∧ drivenState s.lsq.state = false ∧ s.lsq.state ≠
       .cooling ∧ pictureFits s = true ∧ (powerReport s).1 ≠ .lampRefused) ∧
    (∃ (s : State), s.operating = true ∧ s.keypadPasses .power = true ∧ drivenState s.lsq.state = false ∧ s.lsq.state ≠
       .cooling ∧ pictureFits s = true ∧ (powerReport s).1 = .started ∧ s.lines.lit = false) ∧
    (∃ (i : Fin 6) (s : State) (n : Nat), s.operating = true ∧ 0 < n ∧ n < 6 ∧ s.attached (Fin.ofNat 6 (i.val + n)) =
       true ∧ (∀ m : Nat, 0 < m → m < n → s.attached (Fin.ofNat 6 (i.val + m)) = false)) ∧
    (∃ (i : Fin 6) (s : State), s.operating = true ∧ (∀ n : Nat, 0 < n → n < 6 → s.attached (Fin.ofNat 6 (i.val + n)) =
       false)) :=
  ⟨⟨live.modLkc fun k => { k with service := true }, by decide +kernel⟩,
   ⟨live.modLsq fun q => { q with state := .striking }, by decide +kernel⟩,
   ⟨(live.modLsq fun q => { q with state := .on }).modLkc fun k => { k with confirmOpen := true }, by decide +kernel⟩,
   ⟨live.modLsq fun q => { q with state := .cooling }, by decide +kernel⟩,
   ⟨live.modLkc fun k => { k with service := true }, by decide +kernel⟩,
   ⟨live, by decide +kernel⟩,
   ⟨live.modLkc fun k => { k with service := true }, by decide +kernel⟩,
   ⟨0, live, by decide +kernel⟩,
   ⟨0, disabled 0 live, by decide +kernel⟩,
   ⟨((live.modLsq fun q => { q with state := .on }).modLkc fun k => { k with confirmOpen := true }).modSes fun _ => some
     meeting, meeting, by decide +kernel⟩,
   ⟨((live.modLsq fun q => { q with state := .on }).modLkc fun k => { k with confirmOpen := true }).modSes fun _ => some
     meeting, meeting, by decide +kernel⟩,
   ⟨live.modLsq fun q => { q with state := .fault }, by decide +kernel⟩,
   ⟨live.modLsq fun q => { q with strikeLog := [0, 0, 0, 0] }, by decide +kernel⟩,
   ⟨live.modLsq fun q => { q with strikeLog := [0, 0, 0] }, by decide +kernel⟩,
   ⟨5, present1 live, 2,
     by refine ⟨by decide +kernel, by decide, by decide, by decide +kernel, ?_⟩; intro m h0 h1; interval_cases m; decide +kernel⟩,
   ⟨5, live, by refine ⟨by decide +kernel, ?_⟩; intro n h0 h6; interval_cases n <;> decide +kernel⟩⟩

theorem test_witness_DialTurns :
    (∃ (v : Bool) (x : Bool) (s : State), s.operating = true ∧ v ≠ s.kpi.pairA ∧ x ≠ s.kpi.pairB) ∧
    (∃ (s : State), s.operating = true) ∧
    (∃ (v : Bool) (x : Bool) (n : Int) (s : State), s.operating = true ∧
       n = (if v ≠ s.kpi.pairA then (if v = !x then 1 else -1) else (if x = v then 1 else -1)) ∧
       (v ≠ s.kpi.pairA) ≠ (x ≠ s.kpi.pairB) ∧ s.keypadPasses .geometry = true ∧ s.geo.dialAcc + n ≠ 4 ∧
       s.geo.dialAcc + n ≠ -4) ∧
    (∃ (v : Bool) (x : Bool) (n : Int) (i : Fin 6) (s : State), s.operating = true ∧
       n = (if v ≠ s.kpi.pairA then (if v = !x then 1 else -1) else (if x = v then 1 else -1)) ∧
       (v ≠ s.kpi.pairA) ≠ (x ≠ s.kpi.pairB) ∧ s.keypadPasses .geometry = true ∧
       (s.geo.dialAcc + n = 4 ∨ s.geo.dialAcc + n = -4) ∧ s.ssw.selected = some i) ∧
    (∃ (v : Bool) (x : Bool) (s : State), s.operating = true ∧ (v ≠ s.kpi.pairA) ≠ (x ≠ s.kpi.pairB) ∧
       s.keypadPasses .geometry = false) :=
  ⟨⟨true, true, live, by decide +kernel⟩,
   ⟨live, by decide +kernel⟩,
   ⟨true, false, 1, live, by decide +kernel⟩,
   ⟨true, false, 1, 0, (live.modGeo fun g => { g with dialAcc := 3 }), by decide +kernel⟩,
   ⟨true, false, (live.modLkc fun k => { k with service := true }), by decide +kernel⟩⟩

theorem test_witness_CalendarSecondCounts :
    (∃ (s : State), s.cal.lost = true) ∧
    (∃ (s : State), s.cal.lost = false ∧ s.operating = false) ∧
    (∃ (s : State), s.cal.lost = false ∧ s.operating = true ∧ s.cal.next.time.second ≠ 0) ∧
    (∃ (s : State), s.cal.next.time ≠ midnight ∧ validTime s.cal.time = true) ∧
    (∃ (s : State), s.cal.next.time = midnight ∧ validDate s.cal.date = true ∧ s.cal.date ≠ ⟨2099, 12, 31⟩) ∧
    (∃ (f : Found) (m : Nat) (s : State), s.cal.lost = false ∧ s.operating = true ∧ s.cal.next.time.second = 0 ∧ m =
       minuteOf s.cal.next.time ∧ m ≠ 0 ∧ (ticked s).finding s.cal.date m = some f ∧ s.ses = none) ∧
    (∃ (f : Found) (r : Session) (m : Nat) (s : State), s.cal.lost = false ∧ s.operating = true ∧ s.cal.next.time.second
       = 0 ∧ m = minuteOf s.cal.next.time ∧ m ≠ 0 ∧ (ticked s).finding s.cal.date m = some f ∧ s.ses = some r) ∧
    (∃ (r : Session) (m : Nat) (s : State), s.cal.lost = false ∧ s.operating = true ∧ s.cal.next.time.second = 0 ∧ m =
       minuteOf s.cal.next.time ∧ m ≠ 0 ∧ (ticked s).finding s.cal.date m = none ∧ s.ses = some r ∧ r.date = s.cal.date
       ∧ r.plannedEnd = m ∧ (ticked s).lateAnswer r.slot s.cal.date m = none) ∧
    (∃ (g : Found) (r : Session) (m : Nat) (s : State), s.cal.lost = false ∧ s.operating = true ∧ s.cal.next.time.second
       = 0 ∧ m = minuteOf s.cal.next.time ∧ m ≠ 0 ∧ (ticked s).finding s.cal.date m = none ∧ s.ses = some r ∧ r.date =
       s.cal.date ∧ r.plannedEnd = m ∧ (ticked s).lateAnswer r.slot s.cal.date m = some g) ∧
    (∃ (r : Session) (m : Nat) (s : State), s.cal.lost = false ∧ s.operating = true ∧ s.cal.next.time.second = 0 ∧ m =
       minuteOf s.cal.next.time ∧ m ≠ 0 ∧ (ticked s).finding s.cal.date m = none ∧ s.ses = some r ∧ r.date = s.cal.date
       ∧ m < r.plannedEnd) ∧
    (∃ (r : Session) (m : Nat) (s : State), s.cal.lost = false ∧ s.operating = true ∧ s.cal.next.time.second = 0 ∧ m =
       minuteOf s.cal.next.time ∧ m ≠ 0 ∧ (ticked s).finding s.cal.date m = none ∧ (s.ses = none ∨ (s.ses = some r ∧
       (r.date ≠ s.cal.date ∨ r.plannedEnd < m)))) ∧
    (∃ (s : State), s.cal.lost = false ∧ s.operating = true ∧ s.cal.next.time = midnight ∧ s.cal.valid = true ∧
       s.cal.date = ⟨2099, 12, 31⟩ ∧ s.ses = none) ∧
    (∃ (s : State), s.cal.lost = false ∧ s.operating = true ∧ s.cal.next.time = midnight ∧ s.cal.next.valid =
       s.cal.valid ∧ (ticked s).finding s.cal.date 1440 = none ∧ s.ses = none ∧ (purged s).finding s.cal.next.date 0 =
       none) ∧
    (∃ (f : Found) (s : State), s.cal.lost = false ∧ s.operating = true ∧ s.cal.next.time = midnight ∧ s.cal.next.valid
       = s.cal.valid ∧ (ticked s).finding s.cal.date 1440 = none ∧ s.ses = none ∧ (purged s).finding s.cal.next.date 0 =
       some f) ∧
    (∃ (r : Session) (s : State), s.cal.lost = false ∧ s.operating = true ∧ s.cal.next.time = midnight ∧
       s.cal.next.valid = s.cal.valid ∧ (ticked s).finding s.cal.date 1440 = none ∧ s.ses = some r ∧ r.date = s.cal.date
       ∧ r.plannedEnd = 1440 ∧ (ticked s).lateAnswer r.slot s.cal.date 1440 = none ∧ (purged s).finding s.cal.next.date
       0 = none) ∧
    (∃ (f : Found) (r : Session) (s : State), s.cal.lost = false ∧ s.operating = true ∧ s.cal.next.time = midnight ∧
       s.cal.next.valid = s.cal.valid ∧ (ticked s).finding s.cal.date 1440 = none ∧ s.ses = some r ∧ r.date = s.cal.date
       ∧ r.plannedEnd = 1440 ∧ (ticked s).lateAnswer r.slot s.cal.date 1440 = none ∧ (purged s).finding s.cal.next.date
       0 = some f) ∧
    (∃ (s : State), timetableOk s.timetable = true) :=
  ⟨⟨live.modCal fun c => { c with lost := true }, by decide +kernel⟩,
   ⟨live.modLines fun l => { l with supply := false }, by decide +kernel⟩,
   ⟨live, by decide +kernel⟩,
   ⟨clocked firstDate ⟨23, 59, 58⟩ live, by decide +kernel⟩,
   ⟨clocked ⟨2099, 12, 30⟩ ⟨23, 59, 59⟩ live, by decide +kernel⟩,
   ⟨⟨0, morning⟩, 540, clocked firstDate ⟨8, 59, 59⟩ (slotted 0 morning live), by decide +kernel⟩,
   ⟨⟨0, morning⟩, meeting, 540, clocked firstDate ⟨8, 59, 59⟩ (slotted 0 morning (live.modSes fun _ => some meeting)),
     by decide +kernel⟩,
   ⟨meeting, 600, clocked firstDate ⟨9, 59, 59⟩ (live.modSes fun _ => some meeting), by decide +kernel⟩,
   ⟨⟨1, { morning with start := 590, stop := 660 }⟩, meeting, 600, clocked firstDate ⟨9, 59, 59⟩ (slotted 1
     { morning with start := 590, stop := 660 } (live.modSes fun _ => some meeting)), by decide +kernel⟩,
   ⟨meeting, 599, clocked firstDate ⟨9, 58, 59⟩ (live.modSes fun _ => some meeting), by decide +kernel⟩,
   ⟨meeting, 601, clocked firstDate ⟨10, 0, 59⟩ (live.modSes fun _ => some meeting), by decide +kernel⟩,
   ⟨clocked ⟨2099, 12, 31⟩ ⟨23, 59, 59⟩ live, by decide +kernel⟩,
   ⟨clocked firstDate ⟨23, 59, 59⟩ live, by decide +kernel⟩,
   ⟨⟨0, midnightEntry⟩, clocked firstDate ⟨23, 59, 59⟩ (slotted 0 midnightEntry live), by decide +kernel⟩,
   ⟨lastHour, clocked firstDate ⟨23, 59, 59⟩ (live.modSes fun _ => some lastHour), by decide +kernel⟩,
   ⟨⟨0, midnightEntry⟩, lastHour, clocked firstDate ⟨23, 59, 59⟩ (slotted 0 midnightEntry (live.modSes fun _ => some
     lastHour)), by decide +kernel⟩,
   ⟨live, by decide +kernel⟩⟩

theorem test_witness_StoreAndResetEvents :
    (∃ (c : Commit) (s : State), s.powered = true ∧ s.sto.inflight = some c) ∧
    (∃ (s : State), s.powered = false) ∧
    (∃ (s : State), s.lines.supply = false) ∧
    (∃ (c : Commit) (s : State), s.lines.supply = true ∧ s.sto.inflight = some c) ∧
    (∃ (s : State), s.lines.supply = true ∧ s.sto.inflight = none) ∧
    (∃ (w : ActiveWarp) (s : State), s.lines.supply = true ∧ s.geo.active = some w) ∧
    (∃ (s : State), s.lines.supply = true ∧ s.geo.active = none) :=
  ⟨⟨.lamp defaultLamp, live.modSto fun t => { t with inflight := some (.lamp defaultLamp) }, by decide +kernel⟩,
   ⟨live.modLines fun l => { l with supply := false }, by decide +kernel⟩,
   ⟨live.modLines fun l => { l with supply := false }, by decide +kernel⟩,
   ⟨.lamp defaultLamp, live.modSto fun t => { t with inflight := some (.lamp defaultLamp) }, by decide +kernel⟩,
   ⟨live, by decide +kernel⟩,
   ⟨⟨aWarp, 255⟩, live.modGeo fun g => { g with active := some ⟨aWarp, 255⟩ }, by decide +kernel⟩,
   ⟨live, by decide +kernel⟩⟩

theorem test_witness_StartUpSettles :
    (∃ (s : State), (s.powered = false ∨ s.sto.phase ≠ .loading)) ∧
    (∃ (falls : Vector (List SettlingEvent) 5) (i : Fin 6) (s : State), s.powered = true ∧ s.sto.phase = .loading ∧
       pictureFits s = true ∧ i = (loadedFrom s.sto.images.inputs inputsOk State.reset.inputs).powerOnInput ∧ .calendar
       ∉ falls[4]) ∧
    (∃ (falls : Vector (List SettlingEvent) 5) (i : Fin 6) (s : State), s.powered = true ∧ s.sto.phase = .loading ∧
       pictureFits s = true ∧ i = (loadedFrom s.sto.images.inputs inputsOk State.reset.inputs).powerOnInput ∧ (run
       (.startupLoadComplete falls) s).cal.valid = false) ∧
    (∃ (falls : Vector (List SettlingEvent) 5) (f : Found) (i : Fin 6) (s : State), s.powered = true ∧ s.sto.phase =
       .loading ∧ pictureFits s = true ∧ i = (loadedFrom s.sto.images.inputs inputsOk State.reset.inputs).powerOnInput ∧
       (run (.startupLoadComplete falls) s).lateStart (run (.startupLoadComplete falls) s).cal.date (minuteOf (run
       (.startupLoadComplete falls) s).cal.time) = some f) ∧
    (∃ (falls : Vector (List SettlingEvent) 5) (i : Fin 6) (s : State), s.powered = true ∧ s.sto.phase = .loading ∧
       pictureFits s = true ∧ i = (loadedFrom s.sto.images.inputs inputsOk State.reset.inputs).powerOnInput ∧ falls =
       Vector.replicate 5 [] ∧ (run (.startupLoadComplete falls) s).lateStart (run (.startupLoadComplete falls)
       s).cal.date (minuteOf (run (.startupLoadComplete falls) s).cal.time) = none) :=
  ⟨⟨live, by decide +kernel⟩,
   ⟨#v[[.calendar], [], [.second], [], []], 0, State.reset, by decide +kernel⟩,
   ⟨noFalls, 0, State.reset, by decide +kernel⟩,
   ⟨noFalls, ⟨0, morning⟩, 0,
     { State.reset with cal := ⟨firstDate, ⟨9, 55, 0⟩, true, false⟩, sto := { State.reset.sto with images := setImage blankImages (.timetable (slotted 0 morning live).timetable) true } },
     by decide +kernel⟩,
   ⟨noFalls, 0, State.reset, by decide +kernel⟩⟩

theorem test_witness_ResetValues :
    (∃ (s : State), (s.lsq.state = .striking ∨ s.lsq.state = .warmup)) ∧
    (∃ (s : State), s.lsq.state ≠ .striking ∧ s.lsq.state ≠ .warmup) ∧
    (∃ (s : State), s.operating = true ∧ (s.lsq.state = .striking ∨ s.lsq.state = .warmup ∨ s.lsq.state = .on ∨
       s.lsq.state = .offPending)) ∧
    (∃ (s : State), (s.operating = false ∨ ¬(s.lsq.state = .striking ∨ s.lsq.state = .warmup ∨ s.lsq.state = .on ∨
       s.lsq.state = .offPending))) ∧
    (∃ (s : State), s.lines.supply = true) ∧
    (∃ (s : State) (i : Fin 6), s.ssw.selected = some i) ∧
    (∃ (s : State), s.ssw.selected = none) :=
  ⟨⟨live.modLsq fun q => { q with state := .warmup }, by decide +kernel⟩,
   ⟨live, by decide +kernel⟩,
   ⟨live.modLsq fun q => { q with state := .offPending }, by decide +kernel⟩,
   ⟨State.reset, by decide +kernel⟩,
   ⟨live, by decide +kernel⟩,
   ⟨live, 0, by decide +kernel⟩,
   ⟨State.reset, by decide +kernel⟩⟩

/-! ### The remaining obligations' hypotheses are met -/

/-- A running part in the middle of a lecture, its lamp on and its picture trained, with a second event waiting. -/
def busyRoom : State :=
  { live with
    ssw := { live.ssw with trained := true, mute := false, ready := true }
    inm := { live.inm with path := live.inm.path.set 0 .locked }
    lsq := { live.lsq with state := .on, litTime := 300, litCounting := true, strikeLog := [0] }
    lines := { live.lines with lit := true }
    ses := some lecture
    lkc := { live.lkc with hold := true, sessionLevel := some .openLevel }
    timetable := week
    pending := [.secondEvent, .kpPowerPress ⟨true, false, false⟩] }
/-- The state after that second event. -/
def busyNext : State := run .secondEvent { busyRoom with pending := [.kpPowerPress ⟨true, false, false⟩] }

theorem test_witness_LampLawsKept : lampFits busyRoom = true ∧ step busyRoom = .next busyNext := ⟨by decide +kernel, rfl⟩
theorem test_witness_PictureLawsKept : pictureFits busyRoom = true ∧ step busyRoom = .next busyNext :=
  ⟨by decide +kernel, rfl⟩
theorem test_witness_RoomLawsKept :
    lockoutFits busyRoom = true ∧ sessionFits busyRoom = true ∧ deferralFits busyRoom = true ∧
      step busyRoom = .next busyNext :=
  ⟨by decide +kernel, by decide +kernel, by decide +kernel, rfl⟩
theorem test_witness_RecordsStayInRange : recordsFit busyRoom = true ∧ step busyRoom = .next busyNext :=
  ⟨by decide +kernel, rfl⟩
theorem test_witness_PortsStayInSize : portsFit busyRoom = true ∧ step busyRoom = .next busyNext := ⟨by decide +kernel, rfl⟩
theorem test_witness_StrikeLogKept :
    strikesFit busyRoom = true ∧ settingsOk busyRoom.settings = true ∧ step busyRoom = .next busyNext :=
  ⟨by decide +kernel, by decide +kernel, rfl⟩
theorem test_witness_StoreLawsKept : storeFits busyRoom = true ∧ step busyRoom = .next busyNext := ⟨by decide +kernel, rfl⟩

/-- One state for each lamp state that its clauses tell apart. -/
theorem test_witness_BallastLines :
    State.reset.operating = false ∧
    (∀ x : LampState, ∃ s : State, s.operating = true ∧ s.lsq.state = x ∧ s.lamp.fault = none) :=
  ⟨by decide +kernel, fun x => ⟨live.modLsq fun q => { q with state := x }, by cases x <;> decide +kernel⟩⟩

theorem test_witness_SettleBeginsWhatWaits :
    State.reset.operating = false ∧
    (∃ s : State, s.operating = true ∧ s.sto.inflight = none ∧ s.sto.pf = .off ∧ .lamp ∈ s.sto.dirty) ∧
    (∃ s : State, s.operating = true ∧ s.sto.inflight = none ∧ s.sto.pf = .owed) ∧
    (∃ s : State, s.operating = true ∧ s.sto.inflight = none ∧ s.sto.pf = .off ∧ .lamp ∉ s.sto.dirty ∧
      s.sto.dirty = [.timetable, .inputs]) ∧
    (∃ s : State, s.sto.inflight ≠ none) ∧
    (∃ s : State, s.operating = true ∧ s.ptc.tx .l ≠ .idle) ∧
    (∃ s : State, s.operating = true ∧ s.ptc.tx .l = .idle ∧ (s.port .l).reply ≠ none) ∧
    (∃ s : State, s.operating = true ∧ s.ptc.tx .l = .idle ∧ (s.port .l).reply = none ∧
      (s.port .l).queue = numbered 1 :: [numbered 2]) ∧
    (live.operating = true ∧ live.ptc.tx .l = .idle ∧ (live.port .l).reply = none ∧ (live.port .l).queue = []) :=
  ⟨by decide +kernel,
   ⟨live.modSto fun t => { t with dirty := [.inputs, .lamp] }, by decide +kernel⟩,
   ⟨live.modSto fun t => { t with dirty := [.lamp], pf := .owed }, by decide +kernel⟩,
   ⟨live.modSto fun t => { t with dirty := [.timetable, .inputs] }, by decide +kernel⟩,
   ⟨live.modSto fun t => { t with inflight := some (.lamp live.lamp) }, by decide +kernel⟩,
   ⟨live.modPtc fun q => { q with lTx := .reply [0xA5] }, by decide +kernel⟩,
   ⟨live.modPort .l fun q => { q with reply := some ⟨0x90, .done, []⟩ }, by decide +kernel⟩,
   ⟨live.modPort .l fun q => { q with queue := [numbered 1, numbered 2] }, by decide +kernel⟩,
   by decide +kernel⟩
theorem test_witness_RequestBodiesParse :
    wfRequest (.inputConfig 2 ⟨0, none, none, some ⟨2, List.replicate 12 0x41⟩, none, none, some (5, 0xFB)⟩) = true := by decide
theorem test_witness_FramesAreFound : wfBody [1, 0x20, 2, 2] = true ∧ ∀ b ∈ [0x00, 0x5A, 0xFF], b ≠ (0xA5 : Byte) := by decide
theorem test_witness_UartBytesMakeRequest :
    wfRequest (.select 1) = true ∧ requestRow .l 3 (.select 1) = some (.select .l 3 1) ∧ Free .l live ∧
      (live.port .l).asm = [] ∧ settle live = live := by unfold Free; decide +kernel
/-- Its conclusion on that state, so that the byte commands and the request's row do meet. -/
theorem test_bytes_of_select_act_as_its_row :
    exec (.select .l 3 1) live = .next (run (.select .l 3 1) live) ∧
      sendBytes .l (frameBytes (encodeBody 3 (.select 1))) live = some (run (.select .l 3 1) live) :=
  ⟨rfl, by decide +kernel⟩
theorem test_witness_PermissionTable : ReqClass.power ≠ .read ∧ ReqClass.lockout ≠ .read := by decide
/-- R183: in power-fail mode with its final commit begun nothing more begins. -/
theorem test_witness_SettleBeginsWhatWaits_powerFail :
    ∃ s : State, s.operating = true ∧ s.sto.pf = .begun ∧ s.sto.inflight = none ∧ s.sto.dirty = [.lamp] :=
  ⟨live.modSto fun t => { t with dirty := [.lamp], pf := .begun }, by decide +kernel⟩

end Sys2Proof.Tests
end

section
/-! PROOFS. What the lamp's operations leave of the state, each said once as an equation in the terms of the claims. -/

namespace Sys2Proof.Machine

set_option Elab.async false

/-! ### Frames -/

/-- A frame, part by part. -/
theorem keeps_iff {l : List Part} {s t : State} : Keeps l s t ↔
    (.lines ∈ l ∨ t.lines = s.lines) ∧ (.uptime ∈ l ∨ t.uptime = s.uptime) ∧ (.lamp ∈ l ∨ t.lamp = s.lamp) ∧
    (.inputs ∈ l ∨ t.inputs = s.inputs) ∧ (.timings ∈ l ∨ t.timings = s.timings) ∧
    (.timetable ∈ l ∨ t.timetable = s.timetable) ∧ (.settings ∈ l ∨ t.settings = s.settings) ∧
    (.lsq ∈ l ∨ t.lsq = s.lsq) ∧ (.sinceCommit ∈ l ∨ t.sinceCommit = s.sinceCommit) ∧ (.inm ∈ l ∨ t.inm = s.inm) ∧
    (.ssw ∈ l ∨ t.ssw = s.ssw) ∧ (.geo ∈ l ∨ t.geo = s.geo) ∧ (.lkc ∈ l ∨ t.lkc = s.lkc) ∧
    (.cal ∈ l ∨ t.cal = s.cal) ∧ (.ses ∈ l ∨ t.ses = s.ses) ∧ (.kpi ∈ l ∨ t.kpi = s.kpi) ∧
    (.ports ∈ l ∨ t.ptc = s.ptc) ∧ (.store ∈ l ∨ t.sto = s.sto) ∧ (.queue ∈ l ∨ t.pending = s.pending) := by
  simp only [or_iff_not_imp_left]
  constructor
  · intro h
    exact ⟨h .lines, h .uptime, h .lamp, h .inputs, h .timings, h .timetable, h .settings, h .lsq, h .sinceCommit,
      h .inm, h .ssw, h .geo, h .lkc, h .cal, h .ses, h .kpi, h .ports, h .store, h .queue⟩
  · rintro ⟨h₁, h₂, h₃, h₄, h₅, h₆, h₇, h₈, h₉, h₁₀, h₁₁, h₁₂, h₁₃, h₁₄, h₁₅, h₁₆, h₁₇, h₁₈, h₁₉⟩ x hx
    cases x <;> simp_all [Part.same]

/-! ### Notices and the dirty list -/

/-- PTC once notices have been raised in order: `g` holds the masks, `rst` is ENG_RST and `now` stamps them (R172, R173,
R177). -/
def Ptc.hear (g : Settings) (rst : Bool) (now : TimeOfDay) (ns : List Payload) (t : Ptc) : Ptc :=
  ns.foldl (fun t n =>
    let put (p : PortId) (q : Port) : Port :=
      if mayGo n p && maskHolds (g.mask p) n && !(p == .e && rst) then q.place ⟨n, now⟩ else q
    { t with e := put .e t.e, l := put .l t.l, f := put .f t.f }) t

/-- PTC once notices have been raised in this state. -/
@[simp] def State.heard (s : State) (ns : List Payload) : Ptc := s.ptc.hear s.settings s.lines.engRst s.cal.time ns

/-- STO with a record marked dirty (R179). -/
def dirtied (r : RecordName) (t : Sto) : Sto := if t.dirty.contains r then t else { t with dirty := t.dirty ++ [r] }

theorem raise_eq (n : Payload) (s : State) : raise n s = { s with ptc := s.heard [n] } := rfl

theorem markDirty_eq (r : RecordName) (s : State) : markDirty r s = { s with sto := dirtied r s.sto } := rfl

theorem markIf_eq (b : Bool) (r : RecordName) (s : State) :
    markIf b r s = { s with sto := if b then dirtied r s.sto else s.sto } := by
  cases b <;> rfl

@[simp] theorem Ptc.hear_nil (g : Settings) (b : Bool) (c : TimeOfDay) (t : Ptc) : t.hear g b c [] = t := rfl

@[simp] theorem Ptc.hear_hear (g : Settings) (b : Bool) (c : TimeOfDay) (ms ns : List Payload) (t : Ptc) :
    (t.hear g b c ms).hear g b c ns = t.hear g b c (ms ++ ns) := by
  simp [Ptc.hear, List.foldl_append]

theorem raiseAll_eq (ns : List Payload) (s : State) : raiseAll ns s = { s with ptc := s.heard ns } := by
  induction ns generalizing s with
  | nil => rfl
  | cons n ns ih => rw [raiseAll_cons, ih, raise_eq]; simp

theorem raised_iff {ns : List Payload} {s u : State} : Raised ns s u ↔ u.ptc = s.heard ns := by
  rw [Raised, raiseAll_eq]

theorem marked_iff {r : RecordName} {s u : State} : Marked r s u ↔ u.sto = dirtied r s.sto := Iff.rfl

theorem mem_dirtied (r : RecordName) (t : Sto) : r ∈ (dirtied r t).dirty := by
  unfold dirtied
  split
  next hm => simpa using hm
  next => simp

@[simp] theorem dirtied_dirtied (r : RecordName) (t : Sto) : dirtied r (dirtied r t) = dirtied r t := by
  rw [dirtied, if_pos (by simpa using mem_dirtied r t)]

/-! ### A change of lamp state (R23) -/

/-- The conditions of R80 but for the lamp's state. -/
def State.pictured (s : State) : Bool := s.locked && !s.ssw.userMute && s.ssw.ready

theorem showable_eq (s : State) :
    s.showable = ((s.lsq.state == .on || s.lsq.state == .offPending) && s.pictured) := by
  simp [State.showable, State.pictured, Bool.and_assoc]

theorem muteCheck_eq (s : State) :
    muteCheck s = { s with ssw := { s.ssw with mute := s.ssw.mute || !s.showable } } := by
  unfold muteCheck
  split
  next h => simp [h]
  next h => simp [h, assertMute, State.modSsw]

/-- In a state that is neither ON nor OFF_PENDING MUTE is asserted. -/
theorem muteCheck_unlit (s : State) (h : s.lsq.state ≠ .on ∧ s.lsq.state ≠ .offPending) :
    muteCheck s = assertMute s := by
  have hs : s.showable = false := by simp [State.showable, h.1, h.2]
  simp [muteCheck, hs]

/-- SSW told of a state that is not lit (R80 to R82). -/
theorem sswLamp_dark (n : LampState) (s : State) (h : litState n = false) (hs : s.lsq.state = n) :
    sswLamp n s = { s with ssw := darkened s.ssw } := by
  have hn : ¬(n = .warmup ∨ n = .on) := by rintro (rfl | rfl) <;> simp [litState] at h
  have hu : s.lsq.state ≠ .on ∧ s.lsq.state ≠ .offPending := by
    constructor <;> intro e <;> rw [e] at hs <;> subst hs <;> simp [litState] at h
  simp only [sswLamp, if_neg hn, h]
  exact muteCheck_unlit _ hu

/-- The lamp goes to a state that is not lit: the dim report and the count end and MUTE is asserted; reaching OFF from
COOLING, or FAULT, clears the lamp-hot flag; out of the driven states the confirm window closes. -/
theorem lampChange_dark (n : LampState) (c : LampCause) (s : State) (h : litState n = false) :
    lampChange n c s =
      { s with
        lsq := { s.lsq with state := n }
        lamp := if n = .fault ∨ n = .off ∧ s.lsq.state = .cooling then cold s.lamp else s.lamp
        sto := if n = .fault ∨ n = .off ∧ s.lsq.state = .cooling then dirtied .lamp s.sto else s.sto
        ssw := darkened s.ssw
        lkc := if drivenState n then s.lkc else windowClosed s.lkc
        ptc := s.heard [.lampState n s.lsq.state (attemptIn n s.lsq) c] } := by
  have hon : n ≠ .on := by rintro rfl; simp [litState] at h
  simp only [lampChange, tellSession, if_neg hon, tellLife, tellLockout]
  rw [sswLamp_dark _ _ h (by split <;> rfl)]
  by_cases h₁ : n = .fault ∨ n = .off ∧ s.lsq.state = .cooling
  · simp only [State.modLsq_lsq, if_pos h₁]
    cases hd : drivenState n <;> rfl
  · simp only [State.modLsq_lsq, if_neg h₁]
    cases hd : drivenState n <;> rfl

/-- The lamp goes to a lit state: MUTE stays released only in ON and OFF_PENDING with a picture to show, and ON ends the
session's power-deferred mark. -/
theorem lampChange_lit (n : LampState) (c : LampCause) (s : State) (h : litState n = true) :
    lampChange n c s =
      { s with
        lsq := { s.lsq with state := n }
        ssw := { s.ssw with
          powerOffSince := if n = .offPending then s.ssw.powerOffSince else false
          mute := s.ssw.mute || (decide (n = .warmup) || !s.pictured) }
        ses := if n = .on then s.ses.map fun r => { r with deferred := false } else s.ses
        ptc := s.heard [.lampState n s.lsq.state 0 c] } := by
  cases n
  case warmup | on | offPending =>
    simp [lampChange, tellSession, tellLife, tellLockout, drivenState, sswLamp, litState, muteCheck_eq, showable_eq,
      raise_eq, attemptIn, State.modLsq, State.modSsw, setDeferred, State.modSes, State.pictured, State.locked,
      State.selPath]
  all_goals simp [litState] at h

theorem goCooling_eq (c : LampCause) (s : State) : goCooling c s =
    { s with
      lsq := cooled .cooling s.settings.cool s.lsq
      ssw := darkened s.ssw
      lkc := windowClosed s.lkc
      ptc := s.heard [.lampState .cooling s.lsq.state 0 c] } := by
  rw [goCooling, lampChange_dark _ _ _ rfl]
  rfl

theorem goFaultCooling_eq (s : State) : goFaultCooling s =
    { s with
      lsq := cooled .faultCooling s.settings.cool s.lsq
      ssw := darkened s.ssw
      lkc := windowClosed s.lkc
      ptc := s.heard [.lampState .faultCooling s.lsq.state 0 .fault] } := by
  rw [goFaultCooling, lampChange_dark _ _ _ rfl]
  rfl

theorem goWarmup_eq (c : LampCause) (s : State) : goWarmup c s =
    { s with
      lsq := warmed s.settings.warmupTime s.lsq
      ssw := { s.ssw with powerOffSince := false, mute := true }
      ptc := s.heard [.lampState .warmup s.lsq.state 0 c] } := by
  rw [goWarmup, lampChange_lit _ _ _ rfl]
  simp [stopTimers, warmed]

/-! ### The held power-on (R5, R148) -/

theorem holdEnded_of_none (s : State) (h : s.lsq.held = none) : holdEnded s = s.ses := by simp [holdEnded, h]

theorem endHold_eq (s : State) :
    endHold s = { s with lsq := { s.lsq with held := none }, ses := holdEnded s } := by
  unfold endHold reportHoldEnd holdEnded
  split <;> rfl

theorem dropHold_eq (c : DropCause) (s : State) : dropHold c s =
    { s with
      lsq := { s.lsq with held := none }
      ses := holdEnded s
      ptc := s.heard (s.lsq.held.toList.map fun h => .strikeDropped h.origin c) } := by
  unfold dropHold
  split
  next h =>
    have e : s.lsq = { s.lsq with held := none } := by rw [← h]
    simp [h, holdEnded_of_none s h, ← e]
  next x h => rw [endHold_eq, h]; rfl

theorem hold_eq (o : Origin) (r : HeldReason) (s : State) : hold o r s =
    { s with
      lsq := { s.lsq with held := some ⟨o, r⟩ }
      ses := if o = .timetable then holdMade s else holdEnded s
      ptc := s.heard [.strikeHeld o r (s.openingTime r)] } := by
  unfold hold reportHoldEnd holdEnded
  split
  · rfl
  · split <;> rfl

/-! ### Faults and strikes -/

/-- The notice of a fault: none where the later-faults count stands at its ceiling (R19). -/
def faultNotices (k : FaultKind) (s : State) : List Payload :=
  match s.lamp.fault with
  | none => [.lampFault k s.lsq.state 0]
  | some f => if f.later < Config.laterFaultsMax then [.lampFault k s.lsq.state (f.later + 1)] else []

theorem recordFault_eq (k : FaultKind) (s : State) : recordFault k s =
    { s with
      lamp := faulted k s
      sto := if faultNotices k s = [] then s.sto else dirtied .lamp s.sto
      ptc := s.heard (faultNotices k s) } := by
  unfold recordFault
  split
  next h =>
    have hn : faultNotices k s = [.lampFault k s.lsq.state 0] := by simp [faultNotices, h]
    simp [hn, raise_eq, markDirty_eq, State.modLamp, faulted, faultAfter, firstFault, h]
  next f h =>
    split
    next hl =>
      have hn : faultNotices k s = [.lampFault k s.lsq.state (f.later + 1)] := by simp [faultNotices, h, hl]
      have hm : min (f.later + 1) (max f.later Config.laterFaultsMax) = f.later + 1 := by omega
      simp [hn, raise_eq, markDirty_eq, State.modLamp, faulted, faultAfter, h, hm]
    next hl =>
      have hn : faultNotices k s = [] := by simp [faultNotices, h, hl]
      have hm : min (f.later + 1) (max f.later Config.laterFaultsMax) = f.later := by omega
      have hf : faulted k s = { s.lamp with fault := s.lamp.fault } := by simp [faulted, faultAfter, h, hm]
      simp [hn, hf]

theorem faultNotices_first (k : FaultKind) (s : State) (h : s.lamp.fault = none) :
    faultNotices k s = [.lampFault k s.lsq.state 0] := by simp [faultNotices, h]

theorem chargeStrike_eq (s : State) : chargeStrike s =
    { s with
      lamp := charged s.lamp
      sto := dirtied .lamp s.sto
      ptc := s.heard (conditionNotices s (charged s.lamp)) } := by
  have hc : (s.modLamp (modCur fun c =>
      addUnits s.lamp.strikeWear { c with strikes := countUp Config.count16Max c.strikes, hot := true })) =
      { s with lamp := charged s.lamp } := rfl
  unfold chargeStrike evaluated conditionNotices
  simp only [hc]
  split
  next hn => simp [markDirty_eq, hn]
  next n hn => simp [markDirty_eq, raise_eq, hn]

/-- The first attempt of an ignition (R6, R13, R26). -/
theorem firstAttempt_eq (o : Origin) (s : State) : firstAttempt o s =
    { s with
      lsq := { struck s.settings s.uptime 1 s.lsq with ignOrigin := o }
      lamp := charged s.lamp
      sto := dirtied .lamp s.sto
      ssw := darkened s.ssw
      ptc := s.heard (.lampState .striking s.lsq.state 1 .request :: conditionNotices s (charged s.lamp)) } := by
  rw [firstAttempt, lampChange_dark _ _ _ rfl, chargeStrike_eq]
  simp [attemptBegun, drivenState, attemptIn, struck, stampLog, conditionNotices]

/-- A later attempt of an ignition (R13, R26). -/
theorem nextAttempt_eq (s : State) : nextAttempt s =
    { s with
      lsq := { struck s.settings s.uptime (s.lsq.attempt + 1) s.lsq with state := s.lsq.state }
      lamp := charged s.lamp
      sto := dirtied .lamp s.sto
      ptc := s.heard (conditionNotices s (charged s.lamp) ++
        [.lampState .striking .striking (s.lsq.attempt + 1) .timer]) } := by
  rw [nextAttempt, chargeStrike_eq, raise_eq]
  simp [attemptBegun, struck, stampLog, conditionNotices]

end Sys2Proof.Machine
end

section
/-! PROOFS. The power requests: what LSQ, SSW and SES leave at a POWER_ON and at a POWER_OFF. -/

namespace Sys2Proof.Machine

set_option Elab.async false

/-! ### The training of an UNTRAINED selection (R85) -/

/-- A training leaves SSW as its record opens it, whatever selection it leaves behind (R63, R65, R67). -/
theorem beginTraining_ssw (k : SwitchKind) (o : Origin) (i : Fin 6) (s : State) :
    (beginTraining k o i s).ssw = trainingSsw i o k s.settings.switchTimeout s.ssw := by
  have hs : (supersede s).ssw = s.ssw := supersede_keeps s .ssw (by decide)
  have hg : (supersede s).settings = s.settings := supersede_keeps s .settings (by decide)
  have hm : (moveSelection i (supersede s)).ssw = { s.ssw with selected := some i } := by
    unfold moveSelection
    rw [← hs]
    split
    · rfl
    · dsimp only
      split <;> rfl
  have hmg : (moveSelection i (supersede s)).settings = s.settings :=
    (moveSelection_keeps i _ .settings (by decide)).trans hg
  unfold beginTraining
  dsimp only
  have hr (r : Option SwitchRecord) (t : State) : (raiseSource r t).ssw = t.ssw :=
    raiseSource_keeps r t .ssw (by decide)
  rw [hr]
  simp [seek, modMon, setPath, openRecord, unready, hm, hmg, trainingSsw]

/-- A training of the input selected already moves no other path (R62). -/
theorem beginTraining_inm_of_selected (k : SwitchKind) (o : Origin) (i : Fin 6) (s : State)
    (h : s.ssw.selected = some i) : (beginTraining k o i s).inm = trainingInm i s.inm := by
  have hs : (supersede s).ssw = s.ssw := supersede_keeps s .ssw (by decide)
  have hn : (supersede s).inm = s.inm := supersede_keeps s .inm (by decide)
  have hm : (moveSelection i (supersede s)).inm = s.inm := by
    unfold moveSelection
    simp [hs, h, hn]
  unfold beginTraining
  dsimp only
  have hr (r : Option SwitchRecord) (t : State) : (raiseSource r t).inm = t.inm :=
    raiseSource_keeps r t .inm (by decide)
  rw [hr]
  simp [seek, modMon, setPath, openRecord, unready, hm, trainingInm, sought]

/-- A training that supersedes no record tells SES nothing. -/
theorem beginTraining_ses_of_none (k : SwitchKind) (o : Origin) (i : Fin 6) (s : State) (h : s.ssw.record = none) :
    (beginTraining k o i s).ses = s.ses := by
  have hs : supersede s = s := by simp [supersede, h]
  unfold beginTraining
  rw [hs]
  dsimp only
  have hr (r : Option SwitchRecord) (t : State) : (raiseSource r t).ses = t.ses :=
    raiseSource_keeps r t .ses (by decide)
  rw [hr]
  simp [seek, modMon, setPath, openRecord, unready]
  exact moveSelection_keeps i s .ses (by decide)

theorem firstPowerOn_trained (s : State) (h : s.ssw.trained = true) : firstPowerOn s = s := by
  unfold firstPowerOn
  split
  · rfl
  · rw [if_pos h]

/-- A training is told by the parts it can change. -/
theorem beginTraining_eq (k : SwitchKind) (o : Origin) (i : Fin 6) (s : State) :
    beginTraining k o i s =
      { s with
        inm := (beginTraining k o i s).inm
        ssw := (beginTraining k o i s).ssw
        ses := (beginTraining k o i s).ses
        ptc := (beginTraining k o i s).ptc } := by
  have hk := keeps_iff.mp (beginTraining_keeps k o i s)
  generalize beginTraining k o i s = t at hk ⊢
  simp at hk
  cases t
  simp_all

/-- The first POWER_ON that is not refused trains an UNTRAINED selection; of the ports only the notice is of interest. -/
theorem firstPowerOn_eq (s : State) (h : s.ssw.trained = false → s.ssw.record = none) :
    firstPowerOn s =
      { s with ssw := firstSsw s s.ssw, inm := firstInm s, ptc := (firstPowerOn s).ptc } := by
  unfold firstPowerOn firstSsw firstInm
  cases hi : s.ssw.selected with
  | none => rfl
  | some i =>
    cases ht : s.ssw.trained with
    | true => simp
    | false =>
      have hl : retrainSelected .part i s = beginTraining .retrain .part i s := by
        simp [retrainSelected, leftLocked, State.locked, ht]
      have he := beginTraining_eq .retrain .part i s
      rw [beginTraining_ssw, beginTraining_inm_of_selected _ _ _ _ hi, beginTraining_ses_of_none _ _ _ _ (h ht)] at he
      simpa [hl] using he

/-! ### A user POWER_ON -/

/-- What of the state a lamp's answer to a POWER_ON leaves for SSW, SES and LKC to act on. -/
structure SameRoom (s t : State) : Prop where
  settings : t.settings = s.settings
  cal : t.cal = s.cal
  lkc : t.lkc = s.lkc
  inm : t.inm = s.inm
  selected : t.ssw.selected = s.ssw.selected
  trained : t.ssw.trained = s.ssw.trained
  record : t.ssw.record = s.ssw.record
  ses : t.ses.isNone = s.ses.isNone

theorem takePowerOn_refused {o : Origin} {s t : State} {r : Reason} (h : lsqPowerOn o s = (t, .refused r)) :
    takePowerOn o s = (t, .refused r) := by simp [takePowerOn, h]

theorem takePowerOn_taken {o : Origin} {s t : State} {out : PowerOutcome} (h : lsqPowerOn o s = (t, out))
    (hout : ∀ r, out ≠ .refused r) : takePowerOn o s = (firstPowerOn t, out) := by
  unfold takePowerOn
  rw [h]
  cases out
  case refused r => exact absurd rfl (hout r)
  all_goals rfl

theorem userPowerOn_refused {o : Origin} {s t : State} {r : Reason} (h : lsqPowerOn o s = (t, .refused r)) :
    userPowerOn o s = (t, .refused r) := by simp [userPowerOn, takePowerOn_refused h]

/-- LKC's change is that of its inputs, with at most one notice (R110, R111). -/
theorem lkcChange_eq (c : LockCause) (f : State → State) (s : State) :
    lkcChange c f s = { f s with ptc := (lkcChange c f s).ptc } := by
  unfold lkcChange
  dsimp only
  split <;> rfl

theorem sessionLevel_eq (l : Option Level) (b : Bool) (s : State) :
    sessionLevel l b s =
      { s with
        lkc := { s.lkc with sessionLevel := l, hold := if b then false else s.lkc.hold }
        ptc := (sessionLevel l b s).ptc } := by
  unfold sessionLevel
  rw [lkcChange_eq]
  rfl

theorem openManual_eq (out : PowerOutcome) (s : State) :
    openManual out s =
      { s with
        ses := some (manualSession s)
        lkc := { s.lkc with sessionLevel := some s.settings.manualLevel }
        ptc := (openManual out s).ptc } := by
  unfold openManual
  dsimp only
  rw [sessionLevel_eq]
  rfl

/-- The power-on that a user's POWER_ON leaves: the lamp as LSQ answered, the picture as R85 says, and a manual session
where none is open and the service flag is clear (R85, R150). -/
theorem userPowerOn_taken {o : Origin} {s t : State} {out : PowerOutcome} (h : lsqPowerOn o s = (t, out))
    (hout : ∀ r, out ≠ .refused r) (hs : SameRoom s t) (hr : s.ssw.trained = false → s.ssw.record = none) :
    userPowerOn o s =
      ({ t with
          ssw := firstSsw s t.ssw, inm := firstInm s, ses := sesAfterOn s t.ses, lkc := lkcAfterOn s
          ptc := (userPowerOn o s).1.ptc }, out) ∧
    (s.ssw.trained = true → manualOpens s = false → (userPowerOn o s).1.ptc = t.ptc) := by
  have hf : firstPowerOn t =
      { t with ssw := firstSsw s t.ssw, inm := firstInm s, ptc := (firstPowerOn t).ptc } := by
    rw [firstPowerOn_eq t (by rw [hs.trained, hs.record]; exact hr)]
    simp [firstSsw, firstInm, hs.selected, hs.trained, hs.settings, hs.inm]
  have hu : userPowerOn o s =
      (if manualOpens s then openManual out (firstPowerOn t) else firstPowerOn t, out) := by
    have hm : ((firstPowerOn t).ses.isNone && !(firstPowerOn t).lkc.service) = manualOpens s := by
      rw [hf]
      simp [manualOpens, hs.ses, hs.lkc]
    unfold userPowerOn
    rw [takePowerOn_taken h hout]
    cases out
    case refused r => exact absurd rfl (hout r)
    all_goals simp [hm]
  constructor
  · rw [hu]
    cases hm : manualOpens s with
    | true =>
      simp only [if_true, Prod.mk.injEq, and_true]
      rw [openManual_eq]
      rw [hf]
      simp [sesAfterOn, lkcAfterOn, hm, manualSession, hs.cal, hs.settings, hs.lkc]
    | false =>
      simp only [Bool.false_eq_true, if_false, Prod.mk.injEq, and_true]
      rw [hf]
      simp [sesAfterOn, lkcAfterOn, hm, hs.lkc]
  · intro ht hm
    rw [hu, hm, firstPowerOn_trained t (hs.trained.trans ht)]
    rfl

/-! ### A POWER_ON in OFF, by the checks of R6 -/

section

variable (o : Origin) {s : State}

theorem powerOnInOff_expired (h : condition s.lamp = .expired) :
    powerOnInOff o s = (s, .refused .lampExpired) := if_pos h

theorem powerOnInOff_ballast (h : condition s.lamp ≠ .expired) (hb : s.lines.bfault = true) :
    powerOnInOff o s = (ballastAtPowerOn s, .refused .lampFault) := by
  simp [powerOnInOff, h, hb]

theorem powerOnInOff_lit (h : condition s.lamp ≠ .expired) (hb : s.lines.bfault = false) (hl : s.lines.lit = true) :
    powerOnInOff o s = (goWarmup .request (endHold s), .started) := by
  simp [powerOnInOff, h, hb, hl]

theorem powerOnInOff_full (h : condition s.lamp ≠ .expired) (hb : s.lines.bfault = false) (hl : s.lines.lit = false)
    (hw : s.windowFull = true) : powerOnInOff o s = (hold o .window s, .deferred) := by
  simp [powerOnInOff, h, hb, hl, hw]

theorem powerOnInOff_clear (h : condition s.lamp ≠ .expired) (hb : s.lines.bfault = false) (hl : s.lines.lit = false)
    (hw : s.windowFull = false) : powerOnInOff o s = (firstAttempt o (endHold s), .started) := by
  simp [powerOnInOff, h, hb, hl, hw]

end

/-- The fault found at a POWER_ON in OFF: recorded, the hold dropped, and the lamp in FAULT with a cold lamp (R6, R31). -/
theorem ballastAtPowerOn_eq (s : State) :
    ballastAtPowerOn s =
      { s with
        lsq := { s.lsq with state := .fault, held := none }
        lamp := cold (faulted .ballast s)
        sto := dirtied .lamp s.sto
        ssw := darkened s.ssw
        lkc := windowClosed s.lkc
        ses := holdEnded s
        ptc := (ballastAtPowerOn s).ptc } := by
  unfold ballastAtPowerOn
  rw [lampChange_dark _ _ _ rfl, dropHold_eq, recordFault_eq]
  simp [drivenState, holdEnded]
  split <;> simp

end Sys2Proof.Machine
end

section
/-! PROOFS. A POWER_OFF by the lamp state, and what a preset leaves. -/

namespace Sys2Proof.Machine

set_option Elab.async false

/-! ### A POWER_OFF (R10 to R12) -/

/-- SSW once a POWER_OFF has been reported to it, with MUTE as `m` (R79, R81, R82). -/
def sswOff (m : Bool) (w : Ssw) : Ssw :=
  { w with userMute := false, nosigCount := 0, autoOffTest := false, dimReport := false, powerOffSince := true, mute := m }

theorem sswPowerOff_eq (s : State) : sswPowerOff s = { s with ssw := sswOff s.ssw.mute s.ssw } := rfl

/-- A POWER_OFF in each state: LSQ and SSW as the rules say, a hold ended in OFF and COOLING, and an open confirm window
perhaps closed. -/
theorem takePowerOff_eq (s : State) : ∃ m c, (takePowerOff s).1 =
    { s with
      lsq := lsqAfterOff s
      ssw := sswOff m s.ssw
      lkc := { s.lkc with confirmOpen := c }
      ses := if s.lsq.state = .off ∨ s.lsq.state = .cooling then holdEnded s else s.ses
      ptc := (takePowerOff s).1.ptc } ∧ (c = true → s.lkc.confirmOpen = true) := by
  have hcool : sswPowerOff (goCooling .request s) =
      { s with
        lsq := cooled .cooling s.settings.cool s.lsq
        ssw := sswOff true s.ssw
        lkc := { s.lkc with confirmOpen := false }
        ptc := (sswPowerOff (goCooling .request s)).ptc } := by
    rw [goCooling_eq]
    rfl
  unfold takePowerOff lsqPowerOff lsqAfterOff
  cases hst : s.lsq.state
  case off | cooling => exact ⟨s.ssw.mute, s.lkc.confirmOpen, by simp [endHold_eq, sswPowerOff_eq], id⟩
  case striking => exact ⟨true, false, by simpa using hcool, by simp⟩
  case warmup | on =>
    by_cases hm : s.settings.minOn ≤ s.lsq.litTime
    · exact ⟨true, false, by simpa [hm] using hcool, by simp⟩
    · refine ⟨s.ssw.mute || !s.pictured, s.lkc.confirmOpen, ?_, id⟩
      simp [hm, lampChange_lit _ _ _ (rfl : litState .offPending = true), sswPowerOff_eq, sswOff, State.pictured,
        State.locked, State.selPath]
  case offPending | faultCooling | fault =>
    exact ⟨s.ssw.mute, s.lkc.confirmOpen, by simp [sswPowerOff_eq], id⟩

/-- LSQ's reply to a POWER_OFF (1.4). -/
theorem takePowerOff_answer (s : State) : (takePowerOff s).2 =
    if (s.lsq.state = .warmup ∨ s.lsq.state = .on) ∧ s.lsq.litTime < s.settings.minOn then .accepted else .done := by
  unfold takePowerOff lsqPowerOff
  cases hst : s.lsq.state <;> simp
  case warmup | on =>
    by_cases hm : s.settings.minOn ≤ s.lsq.litTime
    · simp [hm]
    · simp [hm, Nat.lt_of_not_le hm]

/-- LSQ has nothing left for a POWER_OFF: the lamp is out, cooling or in a fault state with nothing held, or on its way. -/
def offTaken (q : Lsq) : Prop :=
  (q.state = .off ∨ q.state = .cooling) ∧ q.held = none ∨ q.state = .offPending ∨ q.state = .faultCooling ∨ q.state = .fault

theorem lsqAfterOff_of_taken (s : State) (h : offTaken s.lsq) : lsqAfterOff s = s.lsq := by
  obtain ⟨hs, hn⟩ | hs | hs | hs := h
  · have e : lsqAfterOff s = { s.lsq with held := none } := by
      obtain hs | hs := hs <;> simp [lsqAfterOff, hs]
    rw [e, ← hn]
  all_goals simp [lsqAfterOff, hs]

theorem offTaken_lsqAfterOff (s : State) (h : heldFits s = true) : offTaken (lsqAfterOff s) := by
  have hn : s.lsq.state ≠ .off → s.lsq.state ≠ .cooling → s.lsq.held = none := by
    intro h₁ h₂
    simpa [heldFits, h₁, h₂] using h
  unfold lsqAfterOff offTaken
  cases hst : s.lsq.state
  case off | cooling | offPending | faultCooling | fault => simp [hst]
  case striking => simp [cooled, hn, hst]
  case warmup | on => by_cases hm : s.settings.minOn ≤ s.lsq.litTime <;> simp [hm, cooled, hn, hst]

/-! ### Closing a session at a user POWER_OFF (R156) -/

/-- The report of a take changes SSW's MUTE and picture-ready mark alone (R80, R101). -/
theorem takeReported_ssw (s : State) : ∃ m y, (takeReported s).ssw = { s.ssw with mute := m, ready := y } := by
  unfold takeReported releasePoint
  split
  · split
    · exact ⟨_, _, rfl⟩
    · exact ⟨_, _, rfl⟩
  · exact ⟨_, _, rfl⟩

theorem recompute_ssw (c : WarpCause) (s : State) : ∃ m y, (recompute c s).ssw = { s.ssw with mute := m, ready := y } := by
  unfold recompute
  split
  · exact ⟨_, _, rfl⟩
  · split
    · exact ⟨_, _, rfl⟩
    · exact takeReported_ssw _

theorem applyPreset_ssw (c : WarpCause) (s : State) : ∃ m y,
    (applyPreset c s).ssw = { s.ssw with mute := m, ready := y } := by
  unfold applyPreset
  split
  · exact ⟨_, _, rfl⟩
  · exact recompute_ssw _ _

/-- A preset applied is told by GEO, by SSW's MUTE and picture-ready mark, and by the ports. -/
theorem applyPreset_eq (c : WarpCause) (s : State) : ∃ m y, applyPreset c s =
    { s with
      ssw := { s.ssw with mute := m, ready := y }
      geo := (applyPreset c s).geo
      ptc := (applyPreset c s).ptc } := by
  have hk := keeps_iff.mp (applyPreset_keeps c s)
  obtain ⟨m, y, hw⟩ := applyPreset_ssw c s
  refine ⟨m, y, ?_⟩
  rw [← hw]
  generalize applyPreset c s = t at hk ⊢
  simp at hk
  cases t
  simp_all

end Sys2Proof.Machine
end

section
/-! PROOFS. A user POWER_OFF: the session it closes and the late start after it. -/

namespace Sys2Proof.Machine

set_option Elab.async false

/-! ### The late-start check (R151) -/

/-- A late start whose actions are suppressed: its session opens and hands its level, and nothing else follows. -/
theorem openScheduled_suppressed_eq (w : SessionWay) (f : Found) (d : Date) (s : State) : ∃ c,
    openScheduled w f d true true s =
      { s with
        ses := some (scheduledSession f d true s.cal)
        lkc := { s.lkc with sessionLevel := some f.entry.level }
        ptc := c } := by
  refine ⟨(openScheduled w f d true true s).ptc, ?_⟩
  unfold openScheduled startActions
  dsimp only
  rw [if_pos rfl, if_pos rfl, sessionLevel_eq, raise_eq]
  rfl

/-- The check with no session open, its actions to be suppressed. -/
theorem lateCheck_suppressed_eq (x : Option (Fin 48)) (s : State) (h : s.ses = none) : ∃ c,
    lateCheck x true s =
      { s with
        ses := (s.lateAnswer x s.cal.date (minuteOf s.cal.time)).map fun f => scheduledSession f s.cal.date true s.cal
        lkc := { s.lkc with sessionLevel :=
          ((s.lateAnswer x s.cal.date (minuteOf s.cal.time)).map fun f => f.entry.level).or s.lkc.sessionLevel }
        ptc := c } := by
  unfold lateCheck
  cases s.lateAnswer x s.cal.date (minuteOf s.cal.time) with
  | none => exact ⟨s.ptc, by simp [← h]⟩
  | some f => exact openScheduled_suppressed_eq _ _ _ _

theorem lateCheck_none {x : Option (Fin 48)} {b : Bool} {s : State}
    (h : s.lateAnswer x s.cal.date (minuteOf s.cal.time) = none) : lateCheck x b s = s := by
  simp [lateCheck, h]

/-! ### The close at a POWER_OFF (R156, R158) -/

/-- SSW after a power-off that SES may issue, with its MUTE and picture-ready marks. -/
def sswClosed (off m y : Bool) (w : Ssw) : Ssw := if off then { sswOff m w with ready := y } else { w with mute := m, ready := y }

/-- The first steps of a close that no successor follows: LKC is handed it and the live keystone goes to the preset. -/
theorem closeBegun_eq (s : State) : ∃ m y g c, applyPreset .session (sessionLevel none true s) =
    { s with
      ssw := { s.ssw with mute := m, ready := y }
      geo := g
      lkc := { s.lkc with sessionLevel := none, hold := false }
      ptc := c } := by
  obtain ⟨m, y, hp⟩ := applyPreset_eq .session (sessionLevel none true s)
  rw [hp, sessionLevel_eq]
  exact ⟨m, y, _, _, rfl⟩

theorem closeSession_powerOff {s : State} {r : Session} (h : s.ses = some r) : closeSession .powerOff none s =
    raise (.sessionClosed r.kind r.slot .powerOff r.used .notApplicable)
      ((if r.deferred then (takePowerOff (applyPreset .session (sessionLevel none true s))).1
        else applyPreset .session (sessionLevel none true s)).modSes fun _ => none) := by
  simp [closeSession, h, endFate, endAction, endDeferral, issuePowerOff]

/-- A session's close at a POWER_OFF: the live keystone goes to the preset, LKC is handed the close, a hold kept for the
session is ended by a POWER_OFF of its own, and the session is gone. -/
theorem closeSession_powerOff_eq {s : State} {r : Session} (h : s.ses = some r) : ∃ m y b g c,
    closeSession .powerOff none s =
      raise (.sessionClosed r.kind r.slot .powerOff r.used .notApplicable)
        { s with
          lsq := if r.deferred then lsqAfterOff s else s.lsq
          ssw := sswClosed r.deferred m y s.ssw
          geo := g
          lkc := { s.lkc with sessionLevel := none, hold := false, confirmOpen := b }
          ses := none
          ptc := c } ∧ (b = true → s.lkc.confirmOpen = true) := by
  obtain ⟨m₁, y, g, c, hp⟩ := closeBegun_eq s
  rw [closeSession_powerOff h]
  cases hd : r.deferred with
  | false =>
    rw [hp]
    exact ⟨m₁, y, s.lkc.confirmOpen, g, c, rfl, id⟩
  | true =>
    obtain ⟨m, b, he, hb⟩ := takePowerOff_eq (applyPreset .session (sessionLevel none true s))
    rw [if_pos rfl, he]
    rw [hp] at hb ⊢
    exact ⟨m, y, b, g, _, rfl, hb⟩

/-! ### The user POWER_OFF -/

/-- With no session open a user POWER_OFF is LSQ's and SSW's alone. -/
theorem userPowerOff_alone {s : State} (h : s.ses = none) : (userPowerOff s).1 = (takePowerOff s).1 := by
  obtain ⟨m, c, he, -⟩ := takePowerOff_eq s
  have hn : (takePowerOff s).1.ses = none := by
    rw [he]
    simp [holdEnded, h]
  simp [userPowerOff, closeThenLate, hn]

/-- LastTold of the notice just raised. -/
theorem lastTold_raise (n : Payload) (s : State) : LastTold [n] (raise n s) := by
  intro q
  rw [raise_port]
  have hr : receives (raise n s) (fun _ => true) n q = receives s (fun _ => true) n q := rfl
  simp only [List.filter_cons, hr, List.filter_nil]
  split
  next h =>
    unfold Port.place
    split
    · exact .inr ⟨_, rfl⟩
    · exact .inl rfl
  next h => exact .inr ⟨_, List.append_nil _⟩

/-- The hold's end leaves of a session all but its deferred mark. -/
theorem holdEnded_of_some {s : State} {r : Session} (h : s.ses = some r) :
    ∃ d, (if s.lsq.state = .off ∨ s.lsq.state = .cooling then holdEnded s else s.ses) = some { r with deferred := d } ∧
      (d = true → r.deferred = true) := by
  have hr : s.ses = some { r with deferred := r.deferred } := h
  unfold holdEnded
  split
  · split
    · exact ⟨false, by simp [h], by simp⟩
    · exact ⟨r.deferred, hr, id⟩
  · exact ⟨r.deferred, hr, id⟩

/-- What a user POWER_OFF leaves of an open session `r`: it closes, and what is open then is a late start of another entry, its
actions suppressed (R156, R151). -/
theorem userPowerOff_closing {s : State} {r : Session} (h : s.ses = some r) : ∃ d m y b g c,
    (userPowerOff s).1 =
      { s with
        lsq := if d then lsqAfterOff (takePowerOff s).1 else lsqAfterOff s
        ssw := { sswOff m s.ssw with ready := y }
        geo := g
        lkc := { s.lkc with
          sessionLevel := (s.lateAnswer r.slot s.cal.date (minuteOf s.cal.time)).map fun f => f.entry.level
          hold := false
          confirmOpen := b }
        ses := (s.lateAnswer r.slot s.cal.date (minuteOf s.cal.time)).map fun f => scheduledSession f s.cal.date true s.cal
        ptc := c } ∧
    (b = true → s.lkc.confirmOpen = true) ∧ (d = true → r.deferred = true) ∧
    (s.lateAnswer r.slot s.cal.date (minuteOf s.cal.time) = none →
      LastTold [.sessionClosed r.kind r.slot .powerOff r.used .notApplicable] (userPowerOff s).1) := by
  obtain ⟨m₀, b₀, ht, hb₀⟩ := takePowerOff_eq s
  obtain ⟨d, hr, hd⟩ := holdEnded_of_some h
  rw [hr] at ht
  have hses : (takePowerOff s).1.ses = some { r with deferred := d } := by rw [ht]
  obtain ⟨m, y, b, g, c, hc, hb⟩ := closeSession_powerOff_eq hses
  obtain ⟨c', hl⟩ := lateCheck_suppressed_eq r.slot (closeSession .powerOff none (takePowerOff s).1) (by rw [hc]; rfl)
  have hu : (userPowerOff s).1 = lateCheck r.slot true (closeSession .powerOff none (takePowerOff s).1) := by
    simp [userPowerOff, closeThenLate, hses]
  have ha : (closeSession .powerOff none (takePowerOff s).1).lateAnswer r.slot
      (closeSession .powerOff none (takePowerOff s).1).cal.date
        (minuteOf (closeSession .powerOff none (takePowerOff s).1).cal.time) =
      s.lateAnswer r.slot s.cal.date (minuteOf s.cal.time) := by
    rw [hc, ht]
    rfl
  have hw : sswClosed d m y (sswOff m₀ s.ssw) = { sswOff m s.ssw with ready := y } := by cases d <;> rfl
  have hk : (closeSession .powerOff none (takePowerOff s).1).lkc =
      { s.lkc with sessionLevel := none, hold := false, confirmOpen := b } := by rw [hc, ht]; rfl
  refine ⟨d, m, y, b, g, c', ?_, fun h => hb₀ (by rw [ht] at hb; exact hb h), hd, fun hn => ?_⟩
  · rw [hu, hl, ha, hk, Option.or_none, hc, ← hw]
    generalize (takePowerOff s).1.ptc = q at ht
    generalize (takePowerOff s).1 = t at ht ⊢
    subst ht
    rfl
  · rw [hu, lateCheck_none (ha.trans hn), hc]
    exact lastTold_raise _ _

end Sys2Proof.Machine
end

section
/-! PROOFS. What every command keeps of the lamp's laws and of the strike log's bounds. -/

namespace Sys2Proof.Machine

set_option Elab.async false

/-! ### The two laws together -/

theorem lampFits_iff (s : State) : lampFits s = true ↔
    timersFit s.lsq = true ∧
    (s.lamp.fault.isSome = true ↔ s.lsq.state = .faultCooling ∨ s.lsq.state = .fault) ∧
    (s.lsq.held = none ∨ s.lsq.state = .off ∨ s.lsq.state = .cooling) := by
  have hf : faultFits s = true ↔
      (s.lamp.fault.isSome = true ↔ s.lsq.state = .faultCooling ∨ s.lsq.state = .fault) := by
    rw [faultFits, beq_iff_eq, Bool.eq_iff_iff]
    simp
  simp [lampFits, heldFits, hf, and_assoc, or_assoc]

/-- The strike log's bounds, with a STRIKE_MAX that leaves room for a stamp. -/
def strikesBounded (s : State) : Prop := strikesFit s = true ∧ 1 ≤ s.settings.strikeMax

/-- What a command keeps of the lamp's laws and of the strike log's bounds. -/
structure KeepsLaws (s t : State) : Prop where
  lamp : lampFits s = true → lampFits t = true
  strikes : strikesBounded s → strikesBounded t

theorem KeepsLaws.refl (s : State) : KeepsLaws s s := ⟨id, id⟩

theorem KeepsLaws.trans {s t u : State} (h₁ : KeepsLaws s t) (h₂ : KeepsLaws t u) : KeepsLaws s u :=
  ⟨h₂.lamp ∘ h₁.lamp, h₂.strikes ∘ h₁.strikes⟩

theorem KeepsLaws.ite {s t u : State} {p : Prop} [Decidable p] (h₁ : p → KeepsLaws s t) (h₂ : ¬p → KeepsLaws s u) :
    KeepsLaws s (if p then t else u) := by
  split
  next h => exact h₁ h
  next h => exact h₂ h

/-- The laws speak of LSQ, the fault record, STRIKE_MAX and the uptime alone. -/
theorem KeepsLaws.of_same {s t : State} (hq : t.lsq = s.lsq) (hf : t.lamp.fault = s.lamp.fault)
    (hg : t.settings.strikeMax = s.settings.strikeMax) (hu : t.uptime = s.uptime) : KeepsLaws s t := by
  constructor
  · simp [lampFits_iff, hq, hf]
  · simp [strikesBounded, strikesFit, hq, hg, hu]

theorem KeepsLaws.of_keeps {l : List Part} {s t : State} (h : Keeps l s t)
    (hl : l.all (fun x => !([.lsq, .lamp, .settings, .uptime] : List Part).contains x) = true := by decide) :
    KeepsLaws s t := by
  have hn (x : Part) (hx : x ∈ ([.lsq, .lamp, .settings, .uptime] : List Part)) : x ∉ l := by
    intro hm
    have := List.all_eq_true.mp hl x hm
    simp_all
  exact .of_same (h .lsq (hn _ (by simp))) (congrArg _ (h .lamp (hn _ (by simp))))
    (congrArg _ (h .settings (hn _ (by simp)))) (h .uptime (hn _ (by simp)))

/-! ### The strike log (R4) -/

theorem strikesBounded_iff (s : State) : strikesBounded s ↔
    s.lsq.strikeLog.length ≤ s.settings.strikeMax ∧ (∀ n ∈ s.lsq.strikeLog, n ≤ s.uptime) ∧ 1 ≤ s.settings.strikeMax := by
  simp [strikesBounded, strikesFit, and_assoc]

/-- A stamp joins a log that keeps its bounds. -/
theorem stampLog_fits {max now : Nat} {log : List Nat} (hm : 1 ≤ max) (hn : ∀ n ∈ log, n ≤ now) :
    (stampLog max now log).length ≤ max ∧ ∀ n ∈ stampLog max now log, n ≤ now := by
  constructor
  · simp [stampLog]
    omega
  · intro n h
    obtain h | h := List.mem_append.mp h
    · exact hn n (List.mem_of_mem_drop h)
    · simp_all

/-- A change that leaves the strike log, STRIKE_MAX and the uptime. -/
theorem strikesBounded_of_log {s t : State} (hq : t.lsq.strikeLog = s.lsq.strikeLog) (hg : t.settings = s.settings)
    (hu : t.uptime = s.uptime) (h : strikesBounded s) : strikesBounded t := by
  simpa [strikesBounded, strikesFit, hq, hg, hu] using h

/-- A change that stamps the log. -/
theorem strikesBounded_of_stamp {s t : State}
    (hq : t.lsq.strikeLog = stampLog s.settings.strikeMax s.uptime s.lsq.strikeLog) (hg : t.settings = s.settings)
    (hu : t.uptime = s.uptime) (h : strikesBounded s) : strikesBounded t := by
  rw [strikesBounded_iff] at h ⊢
  obtain ⟨-, hn, hm⟩ := h
  obtain ⟨hl, ha⟩ := stampLog_fits hm hn
  simpa [hq, hg, hu] using ⟨hl, ha, hm⟩

/-! ### The lamp's changes of state -/

section

variable {s : State}

theorem goCooling_laws (c : LampCause) (hf : s.lsq.state ≠ .faultCooling ∧ s.lsq.state ≠ .fault) :
    KeepsLaws s (goCooling c s) := by
  rw [goCooling_eq]
  constructor
  · cases hst : s.lsq.state <;> simp_all [lampFits_iff, timersFit, cooled]
  · exact strikesBounded_of_log rfl rfl rfl

/-- A struck or lit lamp goes to FAULT_COOLING for a fault just recorded. -/
theorem goFaultCooling_laws (k : FaultKind) (h : drivenState s.lsq.state = true) :
    KeepsLaws s (goFaultCooling (recordFault k s)) := by
  rw [goFaultCooling_eq, recordFault_eq]
  constructor
  · cases hst : s.lsq.state <;> simp_all [lampFits_iff, timersFit, cooled, drivenState, faulted]
  · exact strikesBounded_of_log rfl rfl rfl

/-- A lamp in OFF or STRIKING, no cool timer running, goes to WARMUP. -/
theorem goWarmup_laws (c : LampCause) (h : s.lsq.state = .off ∨ s.lsq.state = .striking) :
    KeepsLaws s (goWarmup c (endHold s)) := by
  rw [goWarmup_eq, endHold_eq]
  constructor
  · obtain h | h := h <;> simp_all [lampFits_iff, timersFit, warmed]
  · exact strikesBounded_of_log rfl rfl rfl

theorem hold_laws (o : Origin) (r : HeldReason) (h : s.lsq.state = .off ∨ s.lsq.state = .cooling) :
    KeepsLaws s (hold o r s) := by
  rw [hold_eq]
  constructor
  · obtain h | h := h <;> simp_all [lampFits_iff, timersFit]
  · exact strikesBounded_of_log rfl rfl rfl

theorem endHold_laws : KeepsLaws s (endHold s) := by
  rw [endHold_eq]
  constructor
  · cases hst : s.lsq.state <;> simp +contextual [lampFits_iff, timersFit, hst]
  · exact strikesBounded_of_log rfl rfl rfl

theorem dropHold_laws (c : DropCause) : KeepsLaws s (dropHold c s) := by
  have h := endHold_laws (s := s)
  rw [endHold_eq] at h
  rw [dropHold_eq]
  exact h.trans (.of_same rfl rfl rfl rfl)

theorem firstAttempt_laws (o : Origin) (h : s.lsq.state = .off) : KeepsLaws s (firstAttempt o (endHold s)) := by
  rw [firstAttempt_eq, endHold_eq]
  constructor
  · simp_all [lampFits_iff, timersFit, struck, charged, Config.attempts]
  · exact strikesBounded_of_stamp rfl rfl rfl

/-- The faults found in OFF: the lamp goes to FAULT with its hold dropped. -/
theorem ballastAtPowerOn_laws (h : s.lsq.state = .off) : KeepsLaws s (ballastAtPowerOn s) := by
  rw [ballastAtPowerOn_eq]
  constructor
  · simp_all [lampFits_iff, timersFit, cold, faulted]
  · exact strikesBounded_of_log rfl rfl rfl

theorem lsqPowerOn_laws (o : Origin) : KeepsLaws s (lsqPowerOn o s).1 := by
  unfold lsqPowerOn
  split
  next h => 
    unfold powerOnInOff
    split
    · exact .refl s
    split
    · exact ballastAtPowerOn_laws h
    split
    · exact goWarmup_laws _ (.inl h)
    split
    · exact hold_laws _ _ (.inl h)
    · exact firstAttempt_laws _ h
  next h => exact .refl s
  next h => exact .refl s
  next h => exact .refl s
  next h => 
    simp only [lampChange_lit _ _ _ (rfl : litState .on = true)]
    constructor
    · simp_all [lampFits_iff, timersFit]
    · exact strikesBounded_of_log rfl rfl rfl
  next h => exact hold_laws _ _ (.inr h)
  next h => exact .refl s
  next h => exact .refl s

/-- The release of a power-on held in OFF (R9). -/
theorem releaseHeld_laws (h : s.lsq.state = .off) : KeepsLaws s (releaseHeld s) := by
  unfold releaseHeld
  split
  · exact .refl s
  split
  · exact dropHold_laws _
  split
  · rw [dropHold_eq, lampChange_dark _ _ _ rfl, recordFault_eq]
    constructor
    · simp_all [lampFits_iff, timersFit, cold, faulted]
    · exact strikesBounded_of_log rfl rfl rfl
  split
  · exact goWarmup_laws _ (.inl h)
  split
  · constructor
    · simp_all [lampFits_iff, timersFit, holdStays, raise_eq]
    · exact strikesBounded_of_log rfl rfl rfl
  · exact firstAttempt_laws _ h

theorem testHold_laws : KeepsLaws s (testHold s) :=
  .ite (fun h => releaseHeld_laws h.1) fun _ => .refl s

theorem minOnTest_laws (c : LampCause) : KeepsLaws s (minOnTest c s) :=
  .ite (fun h => goCooling_laws c (by simp [h.1])) fun _ => .refl s

theorem sswPowerOff_laws : KeepsLaws s (sswPowerOff s) := .of_keeps (sswPowerOff_keeps s)

theorem takePowerOff_laws : KeepsLaws s (takePowerOff s).1 := by
  refine .trans ?_ sswPowerOff_laws
  have hlit (h : s.lsq.state = .warmup ∨ s.lsq.state = .on) :
      KeepsLaws s (if s.settings.minOn ≤ s.lsq.litTime then (goCooling .request s, Answer.done)
        else (lampChange .offPending .request (s.modLsq fun q => { q with warmupTimer := none }), .accepted)).1 := by
    split
    · exact goCooling_laws _ (by obtain h | h := h <;> simp [h])
    · rw [lampChange_lit _ _ _ rfl]
      constructor
      · obtain h | h := h <;> simp_all [lampFits_iff, timersFit]
      · exact strikesBounded_of_log rfl rfl rfl
  unfold lsqPowerOff
  cases h : s.lsq.state
  case off | cooling => exact endHold_laws
  case striking => exact goCooling_laws _ (by simp [h])
  case warmup => exact hlit (.inl h)
  case on => exact hlit (.inr h)
  case offPending | faultCooling | fault => exact .refl s

theorem takePowerOn_laws (o : Origin) : KeepsLaws s (takePowerOn o s).1 := by
  have h := lsqPowerOn_laws o (s := s)
  unfold takePowerOn
  split
  next heq => rwa [heq] at h
  next heq =>
    rw [heq] at h
    exact h.trans (.of_keeps (firstPowerOn_keeps _))

/-! ### Lines, timers and lamp requests -/

theorem litRises_laws : KeepsLaws s (litRises s) := by
  unfold litRises
  dsimp only
  split
  next h =>
    rw [goWarmup_eq]
    constructor
    · simp at h
      simp_all [lampFits_iff, timersFit, warmed]
    · exact strikesBounded_of_log rfl rfl rfl
  · exact ⟨by cases hst : s.lsq.state <;> simp [lampFits_iff, timersFit, hst], strikesBounded_of_log rfl rfl rfl⟩

theorem litFalls_laws : KeepsLaws s (litFalls s) := by
  have h₁ : KeepsLaws s (s.modLsq fun q => { q with litTime := 0 }) :=
    ⟨by cases hst : s.lsq.state <;> simp [lampFits_iff, timersFit, hst], strikesBounded_of_log rfl rfl rfl⟩
  unfold litFalls
  refine .ite (fun h => h₁.trans (goFaultCooling_laws _ ?_)) fun _ => h₁
  cases hst : s.lsq.state <;> simp_all [litState, drivenState]

theorem recordFault_laws (k : FaultKind) (h : s.lsq.state = .faultCooling ∨ s.lsq.state = .fault) :
    KeepsLaws s (recordFault k s) := by
  rw [recordFault_eq]
  constructor
  · obtain h | h := h <;> simp_all [lampFits_iff, timersFit, faulted]
  · exact strikesBounded_of_log rfl rfl rfl

theorem bfaultRises_laws : KeepsLaws s (bfaultRises s) := by
  unfold bfaultRises
  cases h : s.lsq.state
  case striking | warmup | on | offPending => exact goFaultCooling_laws _ (by simp [h, drivenState])
  case faultCooling => exact recordFault_laws _ (.inl h)
  case fault => exact recordFault_laws _ (.inr h)
  case off | cooling =>
    simp only [dropHold_eq, lampChange_dark .fault _ _ rfl, lampChange_dark .faultCooling _ _ rfl, recordFault_eq]
    constructor
    · simp_all [lampFits_iff, timersFit, cold, faulted]
    · exact strikesBounded_of_log rfl rfl rfl

theorem lsqSecond_laws : KeepsLaws s (lsqSecond s) := by
  constructor
  · cases h : s.lsq.state <;> simp [lampFits_iff, timersFit, lsqSecond, h]
  · exact strikesBounded_of_log rfl rfl rfl

/-- The attempt timer runs in STRIKING alone. -/
theorem striking_of_attemptTimer (hs : lampFits s = true) (h : s.lsq.attemptTimer ≠ none) :
    s.lsq.state = .striking := by
  cases hst : s.lsq.state <;> simp_all [lampFits_iff, timersFit]

/-- The gap timer runs in STRIKING alone. -/
theorem striking_of_gapTimer (hs : lampFits s = true) (h : s.lsq.gapTimer ≠ none) : s.lsq.state = .striking := by
  cases hst : s.lsq.state <;> simp_all [lampFits_iff, timersFit]

theorem attemptExpires_laws (h : s.lsq.attemptTimer = some 0) : KeepsLaws s (attemptExpires s) := by
  constructor
  · intro hs
    have hst := striking_of_attemptTimer hs (by simp [h])
    unfold attemptExpires countFailed
    split
    · simp_all [lampFits_iff, timersFit, modCur]
    · rw [goFaultCooling_eq, recordFault_eq]
      simp_all [lampFits_iff, timersFit, cooled, faulted]
  · unfold attemptExpires
    split
    · exact strikesBounded_of_log rfl rfl rfl
    · rw [goFaultCooling_eq, recordFault_eq]
      exact strikesBounded_of_log rfl rfl rfl

theorem gapExpires_laws (h : s.lsq.gapTimer = some 0) : KeepsLaws s (gapExpires s) := by
  constructor
  · intro hs
    have hst := striking_of_gapTimer hs (by simp [h])
    unfold gapExpires
    split
    · exact (hold_laws _ _ (.inr (by simp [goCooling_eq, cooled]))).lamp ((goCooling_laws .timer (by simp [hst])).lamp hs)
    split
    · rw [goWarmup_eq]
      simp_all [lampFits_iff, timersFit, warmed]
    · rw [nextAttempt_eq]
      simp_all [lampFits_iff, timersFit, struck, charged]
  · unfold gapExpires
    split
    · rw [hold_eq, goCooling_eq]
      exact strikesBounded_of_log rfl rfl rfl
    split
    · rw [goWarmup_eq]
      exact strikesBounded_of_log rfl rfl rfl
    · rw [nextAttempt_eq]
      exact strikesBounded_of_stamp rfl rfl rfl

theorem warmupExpires_laws (h : s.lsq.warmupTimer = some 0) : KeepsLaws s (warmupExpires s) := by
  unfold warmupExpires
  rw [lampChange_lit _ _ _ rfl]
  constructor
  · cases hst : s.lsq.state <;> simp_all [lampFits_iff, timersFit]
  · exact strikesBounded_of_log rfl rfl rfl

theorem coolExpires_laws (h : s.lsq.coolTimer = some 0) : KeepsLaws s (coolExpires s) := by
  unfold coolExpires
  split
  next hst =>
    refine .trans (t := lampChange .off .timer (s.modLsq fun q => { q with coolTimer := none })) ?_
      (releaseHeld_laws ?_)
    · rw [lampChange_dark _ _ _ rfl]
      constructor
      · simp_all [lampFits_iff, timersFit, cold]
      · exact strikesBounded_of_log rfl rfl rfl
    · rw [lampChange_dark _ _ _ rfl]
  next hst =>
    rw [lampChange_dark _ _ _ rfl]
    constructor
    · simp_all [lampFits_iff, timersFit, cold]
    · exact strikesBounded_of_log rfl rfl rfl
  next h₁ h₂ =>
    constructor
    · cases hst : s.lsq.state <;> simp_all [lampFits_iff, timersFit]
    · exact strikesBounded_of_log rfl rfl rfl

theorem autoOff_laws : KeepsLaws s (autoOff s) := .ite (fun _ => takePowerOff_laws) fun _ => .refl s

theorem nosigOffTest_laws : KeepsLaws s (nosigOffTest s) :=
  .ite (fun _ => (KeepsLaws.of_keeps (modSsw_keeps _ s)).trans autoOff_laws) fun _ => .refl s

theorem nosigDim_laws : KeepsLaws s (nosigDim s) :=
  .ite (fun _ => .of_keeps (modSsw_keeps _ s)) fun _ => .refl s

theorem dueTest_laws (x : DueTest) : KeepsLaws s (dueTest x s) := by
  unfold dueTest atZero
  cases x
  case attempt => exact .ite attemptExpires_laws fun _ => .refl s
  case retryGap => exact .ite gapExpires_laws fun _ => .refl s
  case warmup => exact .ite warmupExpires_laws fun _ => .refl s
  case cool => exact .ite coolExpires_laws fun _ => .refl s
  case minOn => exact minOnTest_laws _
  case holdRelease => exact testHold_laws
  case nosigDim => exact nosigDim_laws
  case nosigOff => exact nosigOffTest_laws

theorem faultClearRequest_laws : KeepsLaws s (faultClearRequest s).1 := by
  unfold faultClearRequest leaveFault
  split
  · exact .refl s
  next hf =>
    have hfit : lampFits s = true → s.lsq.state = .faultCooling ∨ s.lsq.state = .fault := by
      simp +contextual [lampFits_iff, hf]
    simp only [markDirty_eq]
    split
    next hst =>
      rw [lampChange_dark _ _ _ rfl]
      constructor
      · simp_all [lampFits_iff, timersFit]
      · exact strikesBounded_of_log rfl rfl rfl
    next hst =>
      rw [lampChange_dark _ _ _ rfl]
      constructor
      · simp_all [lampFits_iff, timersFit]
      · exact strikesBounded_of_log rfl rfl rfl
    next h₁ h₂ =>
      constructor
      · intro hs
        obtain h | h := hfit hs
        · exact absurd h h₂
        · exact absurd h h₁
      · exact strikesBounded_of_log rfl rfl rfl

theorem lampReplaceRequest_laws : KeepsLaws s (lampReplaceRequest s).1 := by
  unfold lampReplaceRequest
  split
  next hst =>
    constructor
    · simp_all [lampFits_iff, timersFit, markDirty_eq, replaceLamp]
    · exact strikesBounded_of_log rfl rfl rfl
  next hst =>
    rw [lampChange_dark _ _ _ rfl]
    constructor
    · simp_all [lampFits_iff, timersFit, markDirty_eq, replaceLamp]
    · exact strikesBounded_of_log rfl rfl rfl
  · exact .refl s

end

end Sys2Proof.Machine
end

section
/-! PROOFS. The sessions and the requests keep the lamp's laws and the strike log's bounds. -/

namespace Sys2Proof.Machine

set_option Elab.async false

section

variable {s : State}

/-! ### Sessions and power requests -/

theorem startScan_laws : KeepsLaws s (startScan s) := .of_keeps (startScan_keeps s)

theorem closeSession_laws (c : CloseReason) (n : Option Entry) : KeepsLaws s (closeSession c n s) := by
  unfold closeSession
  split
  · exact .refl s
  next r _ =>
    refine .trans (t := endAction _ (endDeferral r _ _ (applyPreset .session (sessionLevel _ true s)))) ?_
      ((KeepsLaws.of_keeps (modSes_keeps _ _)).trans (.of_keeps (raise_keeps _ _)))
    refine .trans ?_ (.ite (fun _ => takePowerOff_laws) fun _ => .refl _)
    refine .trans ?_ (.ite (fun _ => takePowerOff_laws) fun _ => .refl _)
    exact (KeepsLaws.of_keeps (sessionLevel_keeps _ _ s)).trans (.of_keeps (applyPreset_keeps _ _))

theorem startActions_laws (e : Entry) (b : Bool) : KeepsLaws s (startActions e b s).1 := by
  unfold startActions
  split
  · exact .refl s
  · have h : KeepsLaws s (issueSelect e.source s) := .of_keeps (issueSelect_keeps _ s)
    dsimp only
    split
    · exact h.trans (takePowerOn_laws _)
    · exact h

theorem openScheduled_laws (w : SessionWay) (f : Found) (d : Date) (b c : Bool) :
    KeepsLaws s (openScheduled w f d b c s) := by
  unfold openScheduled
  refine .trans (.trans ?_ (startActions_laws f.entry b)) (.of_keeps (raise_keeps _ _))
  exact (KeepsLaws.of_keeps (modSes_keeps _ s)).trans (.ite (fun _ => .of_keeps (sessionLevel_keeps _ _ _)) fun _ => .refl _)

theorem lateCheck_laws (c : Option (Fin 48)) (b : Bool) : KeepsLaws s (lateCheck c b s) := by
  unfold lateCheck
  split
  · exact .refl s
  · exact openScheduled_laws _ _ _ _ _

theorem closeThenLate_laws (r : CloseReason) : KeepsLaws s (closeThenLate r s) := by
  unfold closeThenLate
  split
  · exact .refl s
  · exact (closeSession_laws _ _).trans (lateCheck_laws _ _)

theorem userPowerOn_laws (o : Origin) : KeepsLaws s (userPowerOn o s).1 := by
  have h := takePowerOn_laws o (s := s)
  unfold userPowerOn
  dsimp only
  split
  · exact h
  · exact h.trans (.ite (fun _ => .of_keeps (openManual_keeps _ _)) fun _ => .refl _)

theorem userPowerOff_laws : KeepsLaws s (userPowerOff s).1 := takePowerOff_laws.trans (closeThenLate_laws _)

theorem powerPress_laws : KeepsLaws s (powerPress s) := by
  have hc (b : Bool) (t : State) : KeepsLaws t (setConfirm b t) := .of_keeps (setConfirm_keeps b t)
  unfold powerPress powerPressAllowed
  refine .ite (fun _ => .ite (fun _ => .ite (fun _ => ?_) fun _ => ?_) fun _ => userPowerOn_laws _) fun _ => ?_
  · exact (hc _ _).trans userPowerOff_laws
  · exact (hc _ _).trans (.of_keeps (raise_keeps _ _))
  · exact .trans (.of_keeps (raise_keeps _ _)) (hc _ _)

theorem handover_laws (w : SessionWay) (f : Found) (d : Date) : KeepsLaws s (handover w f d s) :=
  (closeSession_laws _ _).trans (openScheduled_laws _ _ _ _ _)

theorem minuteFinding_laws (d : Date) (m : Nat) (f : Option Found) : KeepsLaws s (minuteFinding d m f s) := by
  unfold minuteFinding
  split
  · exact .refl s
  · exact openScheduled_laws _ _ _ _ _
  · exact handover_laws _ _ _
  · refine .ite (fun _ => ?_) fun _ => .refl s
    split
    · exact handover_laws _ _ _
    · exact closeSession_laws _ _

theorem warnTest_laws (d : Date) (m : Nat) : KeepsLaws s (warnTest d m s) := by
  unfold warnTest
  split
  · exact .refl s
  · exact .ite (fun _ => (KeepsLaws.of_keeps (modSes_keeps _ s)).trans (.of_keeps (raise_keeps _ _))) fun _ => .refl s

theorem minuteEvent_laws (d : Date) (m : Nat) : KeepsLaws s (minuteEvent d m s) :=
  (minuteFinding_laws _ _ _).trans (warnTest_laws _ _)

theorem purge_laws (d : Date) : KeepsLaws s (purge d s) :=
  .ite (fun _ => (KeepsLaws.of_keeps (modTimetable_keeps _ s)).trans (.of_keeps (markDirty_keeps _ _))) fun _ => .refl s

theorem calendarEvents_laws (d : Date) : KeepsLaws s (calendarEvents d s) := by
  unfold calendarEvents midnightEvents
  exact .ite (fun _ => ((minuteEvent_laws _ _).trans (purge_laws _)).trans (minuteEvent_laws _ _)) fun _ =>
    .ite (fun _ => minuteEvent_laws _ _) fun _ => .refl s

theorem calendarTick_laws : KeepsLaws s (calendarTick s) := by
  unfold calendarTick
  refine .trans ?_ (calendarEvents_laws _)
  have h : KeepsLaws s (s.modCal Cal.next) := .of_keeps (modCal_keeps _ s)
  exact .ite (fun _ => h.trans (.of_keeps (raise_keeps _ _))) fun _ => h

theorem timeSetReport_laws (m : Nat) : KeepsLaws s (timeSetReport m s) := by
  unfold timeSetReport
  split
  · exact lateCheck_laws _ _
  · dsimp only
    exact (KeepsLaws.of_keeps (modSes_keeps _ s)).trans (warnTest_laws _ _)

theorem timeSetRequest_laws (d : RawDate) (t : RawTime) : KeepsLaws s (timeSetRequest d t s).1 := by
  unfold timeSetRequest
  split
  · exact .trans (t := s.modCal fun c => { c with date := dateOf d, time := timeOf t, valid := true })
      (.of_keeps (modCal_keeps _ s)) (timeSetReport_laws _)
  · exact .refl s

/-! ### GUARD_SET -/

/-- A clamped value lies within its range. -/
theorem clamp_bounds (r : Config.Range) (n : Nat) (h : r.lo ≤ r.hi) : r.lo ≤ r.clamp n ∧ r.clamp n ≤ r.hi := by
  unfold Config.Range.clamp
  split
  · omega
  · split <;> omega

/-- A log trimmed to a new STRIKE_MAX keeps its stamps. -/
theorem trimLog_fits {max now : Nat} {log : List Nat} (hn : ∀ n ∈ log, n ≤ now) :
    (trimLog max log).length ≤ max ∧ ∀ n ∈ trimLog max log, n ≤ now := by
  constructor
  · simp [trimLog]
    omega
  · intro n h
    exact hn n (List.mem_of_mem_drop h)

/-- The values written (R3): SETTINGS, STRIKE_WEAR and two fields of INPUTS, with their records marked. -/
theorem guardWrite_eq (g : RawGuard) (s : State) : guardWrite g s =
    { s with
      settings := guardSettings g s.settings
      lamp := { s.lamp with strikeWear := newNat Config.strikeWear g.strikeWear s.lamp.strikeWear }
      inputs := { s.inputs with
        autoscan := newCode boolOf g.autoscan s.inputs.autoscan
        powerOnInput := newCode (indexOf 6) g.powerOnInput s.inputs.powerOnInput }
      sto := (guardWrite g s).sto } := by
  simp only [guardWrite, markIf_eq]
  rfl

/-- The values written, with the log trimmed where STRIKE_MAX is among them (R4). -/
theorem guardTrimmed_laws (g : RawGuard) : KeepsLaws s (doIf g.strikeMax.isSome trimStrikes (guardWrite g s)) := by
  unfold doIf
  rw [guardWrite_eq]
  cases hm : g.strikeMax with
  | none => exact .of_same rfl rfl (by simp [guardSettings, hm, newNat]) rfl
  | some n =>
    constructor
    · cases hst : s.lsq.state <;> simp [lampFits_iff, timersFit, trimStrikes, hst]
    · intro h
      rw [strikesBounded_iff] at h ⊢
      obtain ⟨-, hn, -⟩ := h
      obtain ⟨hl, ha⟩ := trimLog_fits (max := (guardSettings g s.settings).strikeMax) hn
      refine ⟨hl, ha, ?_⟩
      have hb := (clamp_bounds Config.strikeMax n.toNat (by decide)).1
      simpa [guardSettings, hm, newNat, trimStrikes] using Nat.le_trans (by decide) hb

theorem KeepsLaws.doIf {t : State} {b : Bool} {f : State → State} (h : b = true → KeepsLaws t (f t)) :
    KeepsLaws t (doIf b f t) := .ite (fun hb => h hb) fun _ => .refl t

theorem nosigDimWritten_laws : KeepsLaws s (nosigDimWritten s) :=
  .ite (fun _ => .of_keeps (modSsw_keeps _ s)) fun _ => nosigDim_laws

theorem autoscanWritten_laws : KeepsLaws s (autoscanWritten s) := .ite (fun _ => .refl s) fun _ => .of_keeps (endScan_keeps s)

theorem guardSetRequest_laws (g : RawGuard) : KeepsLaws s (guardSetRequest g s).1 := by
  unfold guardSetRequest
  split
  · exact .refl s
  · unfold guardEffects
    exact (guardTrimmed_laws g).trans <| .trans (.doIf fun _ => minOnTest_laws _) <| .trans (.doIf fun _ => testHold_laws) <|
      .trans (.doIf fun _ => nosigDimWritten_laws) <| .trans (.doIf fun _ => autoscanWritten_laws) <|
      .doIf fun _ => autoOff_laws

/-! ### The requests of the other blocks -/

theorem markDirty_laws (r : RecordName) : KeepsLaws s (markDirty r s) := .of_keeps (markDirty_keeps r s)

theorem markIf_laws (b : Bool) (r : RecordName) : KeepsLaws s (markIf b r s) := .of_keeps (markIf_keeps b r s)

/-- SETTINGS written with its STRIKE_MAX as it stood. -/
theorem modSettings_laws (f : Settings → Settings) (h : (f s.settings).strikeMax = s.settings.strikeMax) :
    KeepsLaws s (s.modSettings f) := .of_same rfl rfl h rfl

theorem lampModeRequest_laws (m : Byte) : KeepsLaws s (lampModeRequest m s).1 := by
  unfold lampModeRequest
  split
  · exact .refl s
  · exact (modSettings_laws _ rfl).trans (markIf_laws _ _)

theorem lampCeilingRequest_laws (l : Byte) : KeepsLaws s (lampCeilingRequest l s).1 := by
  unfold lampCeilingRequest
  split
  · exact .refl s
  · exact (modSettings_laws _ rfl).trans (markIf_laws _ _)

theorem subscribeRequest_laws (p : PortId) (m : BitVec 24) : KeepsLaws s (subscribeRequest p m s).1 := by
  unfold subscribeRequest
  split
  · exact (modSettings_laws _ (by cases p <;> rfl)).trans (markDirty_laws _)
  · exact .refl s

theorem evaluated_laws (f : LampRecord → LampRecord) (h : (f s.lamp).fault = s.lamp.fault) :
    KeepsLaws s (evaluated f s) := by
  have hm : KeepsLaws s (s.modLamp f) := .of_same rfl h rfl rfl
  unfold evaluated
  dsimp only
  split
  · exact hm
  · exact hm.trans (.of_keeps (raise_keeps _ _))

theorem lampLimitsRequest_laws (w : RawLimits) : KeepsLaws s (lampLimitsRequest w s).1 := by
  unfold lampLimitsRequest
  split
  · exact .refl s
  · exact (evaluated_laws _ rfl).trans (markDirty_laws _)

theorem selectRequest_laws (o : Origin) (i : Byte) : KeepsLaws s (selectRequest o i s).1 := by
  unfold selectRequest
  split
  · exact .refl s
  · exact .of_keeps (sswSelect_keeps _ _ s)

theorem retrainRequest_laws (o : Origin) (i : Byte) : KeepsLaws s (retrainRequest o i s).1 := by
  unfold retrainRequest
  split
  · exact .refl s
  split
  · exact (KeepsLaws.of_keeps (endScan_keeps s)).trans (.of_keeps (retrainSelected_keeps _ _ _))
  · exact .refl s

theorem muteSetRequest_laws (v : Byte) : KeepsLaws s (muteSetRequest v s).1 := by
  unfold muteSetRequest
  split
  · exact .refl s
  · exact (KeepsLaws.of_keeps (modSsw_keeps _ s)).trans (.of_keeps (muteCheck_keeps _))

theorem keystoneRequest_laws (k : RawKeystone) : KeepsLaws s (keystoneRequest k s).1 := by
  unfold keystoneRequest
  split
  · exact .refl s
  split
  · exact .refl s
  · exact (KeepsLaws.of_keeps (modGeo_keeps _ s)).trans (.of_keeps (recompute_keeps _ _))

theorem presetStoreRequest_laws : KeepsLaws s (presetStoreRequest s).1 := by
  unfold presetStoreRequest
  split
  · exact .refl s
  · exact (KeepsLaws.of_keeps (modInputs_keeps _ s)).trans (markDirty_laws _)

theorem panelSetRequest_laws (w h : Half) : KeepsLaws s (panelSetRequest w h s).1 :=
  ((KeepsLaws.of_keeps (modInputs_keeps _ s)).trans (markDirty_laws _)).trans (.of_keeps (recompute_keeps _ _))

theorem extendRequest_laws : KeepsLaws s (extendRequest s).1 := by
  unfold extendRequest
  split
  · exact .refl s
  split
  · exact .refl s
  split
  · exact .refl s
  · exact .of_keeps (modSes_keeps _ s)

theorem endSessionRequest_laws : KeepsLaws s (endSessionRequest s).1 := by
  unfold endSessionRequest
  split
  · exact closeThenLate_laws _
  · exact .refl s

theorem modTimetable_laws (f : TimetableRecord → TimetableRecord) :
    KeepsLaws s (markDirty .timetable (s.modTimetable f)) :=
  (KeepsLaws.of_keeps (modTimetable_keeps f s)).trans (markDirty_laws _)

theorem placeEntry_laws (i : Fin 48) (e : Entry) (b : Bool) : KeepsLaws s (placeEntry i e b s).1 := by
  unfold placeEntry
  split
  · exact .refl s
  · exact modTimetable_laws _

theorem entryWriteRequest_laws (w : RawEntryWrite) : KeepsLaws s (entryWriteRequest w s).1 := by
  unfold entryWriteRequest
  split
  · exact .refl s
  split
  · exact placeEntry_laws _ _ _
  · split
    · exact .refl s
    · exact placeEntry_laws _ _ _
  · exact .refl s

theorem entryDeleteRequest_laws (i : Byte) : KeepsLaws s (entryDeleteRequest i s).1 := by
  unfold entryDeleteRequest
  split
  · exact .refl s
  split
  · exact modTimetable_laws _
  · exact .refl s

theorem holidayAddRequest_laws (d : RawDate) : KeepsLaws s (holidayAddRequest d s).1 := by
  unfold holidayAddRequest
  dsimp only
  split
  · exact .refl s
  split
  · exact .refl s
  split
  · exact .refl s
  · exact modTimetable_laws _

theorem holidayRemoveRequest_laws (d : RawDate) : KeepsLaws s (holidayRemoveRequest d s).1 := by
  unfold holidayRemoveRequest
  dsimp only
  split
  · exact .refl s
  split
  · exact modTimetable_laws _
  · exact .refl s

theorem restPathOf_laws (i : Fin 6) : KeepsLaws s (restPathOf i s) :=
  .ite (fun _ => (KeepsLaws.of_keeps (restInput_keeps i s)).trans (.of_keeps (raiseSource_keeps _ _))) fun _ =>
    .of_keeps (restInput_keeps i s)

theorem risesElsewhere_laws (i : Fin 6) : KeepsLaws s (risesElsewhere i s) := by
  unfold risesElsewhere
  split
  · exact .ite (fun _ => .refl s) fun _ => .of_keeps (modSsw_keeps _ s)
  · exact .ite (fun _ => .refl s) fun _ => .of_keeps (modSsw_keeps _ s)
  · exact .ite (fun _ => startScan_laws) fun _ => .refl s

theorem sswRise_laws (i : Fin 6) : KeepsLaws s (sswRise i s) :=
  .ite (fun _ => .ite (fun _ => .of_keeps (retrainSelected_keeps _ _ s)) fun _ => .refl s) fun _ =>
    .ite (fun _ => risesElsewhere_laws i) fun _ => .refl s

theorem geometryWritten_laws (i : Fin 6) (c : RawInputConfig) : KeepsLaws s (geometryWritten i c s) :=
  .ite (fun _ => .ite (fun _ => .of_keeps (applyPreset_keeps _ s)) fun _ =>
    .ite (fun _ => .of_keeps (recompute_keeps _ s)) fun _ => .refl s) fun _ => .refl s

theorem enabledWritten_laws (i : Fin 6) (b : Bool) : KeepsLaws s (enabledWritten i b s) :=
  .ite (fun _ => .refl s) fun _ => .ite (fun _ => .refl s) fun _ =>
    .ite (fun _ => (restPathOf_laws i).trans (sswRise_laws i)) fun _ => restPathOf_laws i

theorem inputConfigRequest_laws (i : Byte) (c : RawInputConfig) : KeepsLaws s (inputConfigRequest i c s).1 := by
  unfold inputConfigRequest
  split
  · exact .refl s
  split
  · exact .refl s
  split
  · exact .refl s
  · exact (((KeepsLaws.of_keeps (modInputs_keeps _ s)).trans (markDirty_laws _)).trans (geometryWritten_laws _ _)).trans
      (enabledWritten_laws _ _)

theorem reclassified_laws (k : Fin 24) (r : Option (Fin 24)) : KeepsLaws s (reclassified k r s) := by
  unfold reclassified
  split
  · exact .refl s
  split
  · exact .ite (fun _ => .ite (fun _ => .of_keeps (recompute_keeps _ s)) fun _ => .refl s) fun _ =>
      .of_keeps (lockAt_keeps _ s)
  · exact .of_keeps (reach_keeps _ s)
  · exact .of_keeps (lockAt_keeps _ s)
  · exact .refl s

theorem timingChanged_laws (k : Fin 24) : KeepsLaws s (timingChanged k s) := by
  have h : KeepsLaws s (if s.timings[k].inUse then s else forgetTimings (· == k) s) :=
    .ite (fun _ => .refl s) fun _ => .of_keeps (forgetTimings_keeps _ s)
  unfold timingChanged
  dsimp only
  generalize (if s.timings[k].inUse then s else forgetTimings (· == k) s) = u at h
  refine h.trans (.ite (fun _ => ?_) fun _ => .refl u)
  split
  · exact .refl u
  · exact (KeepsLaws.of_keeps (modMon_keeps _ _)).trans (reclassified_laws _ _)

theorem writeTiming_laws (k : Fin 24) (e : TimingEntry) : KeepsLaws s (writeTiming k e s) := by
  have h : KeepsLaws s (markDirty .timings (s.modTimings fun t => t.set k e)) :=
    (KeepsLaws.of_keeps (modTimings_keeps _ s)).trans (markDirty_laws _)
  exact .ite (fun _ => h.trans (timingChanged_laws k)) fun _ => h

theorem timingWriteRequest_laws (i : Byte) (t : RawTiming) : KeepsLaws s (timingWriteRequest i t s).1 := by
  unfold timingWriteRequest
  split
  · exact writeTiming_laws _ _
  · exact .refl s

theorem timingOutRequest_laws (i : Byte) : KeepsLaws s (timingOutRequest i s).1 := by
  unfold timingOutRequest
  split
  · exact .refl s
  · exact writeTiming_laws _ _

theorem lkcChange_laws (c : LockCause) (f : State → State) (h : KeepsLaws s (f s)) : KeepsLaws s (lkcChange c f s) := by
  rw [lkcChange_eq]
  exact h.trans (.of_same rfl rfl rfl rfl)

theorem lockoutBaseRequest_laws (l : Byte) : KeepsLaws s (lockoutBaseRequest l s).1 := by
  unfold lockoutBaseRequest
  split
  · exact .refl s
  · dsimp only
    refine lkcChange_laws _ _ ?_
    exact (modSettings_laws _ rfl).trans (markDirty_laws _)

theorem presenterHoldRequest_laws (a : Byte) : KeepsLaws s (presenterHoldRequest a s).1 := by
  have h (b : Bool) : KeepsLaws s (setPresenter b s) := .of_keeps (modLkc_keeps _ s)
  unfold presenterHoldRequest presenterSet presenterClear
  split
  · split
    · exact lkcChange_laws _ _ (h _)
    · exact .refl s
  split
  · exact lkcChange_laws _ _ (h _)
  · exact .refl s

theorem serviceRequest_laws (a : Byte) : KeepsLaws s (serviceRequest a s).1 := by
  have h (b : Bool) : KeepsLaws s (setService b s) := .of_keeps (modLkc_keeps _ s)
  unfold serviceRequest serviceIn serviceOut
  split
  · split
    · exact .refl s
    split
    · exact lkcChange_laws _ _ (h _)
    · exact .refl s
  split
  · exact lkcChange_laws _ _ (h _)
  · exact .refl s

/-- The requests whose owner acts on nothing: the reads, and a TIMING_LOAD of an unknown action. -/
theorem historyReadRequest_state (i : Byte) : (historyReadRequest i s).1 = s := by
  unfold historyReadRequest
  split <;> rfl

theorem inputReadRequest_state (i : Byte) : (inputReadRequest i s).1 = s := by
  unfold inputReadRequest
  split <;> rfl

theorem timingReadRequest_state (i : Byte) : (timingReadRequest i s).1 = s := by
  unfold timingReadRequest
  split <;> rfl

theorem entryReadRequest_state (i : Byte) : (entryReadRequest i s).1 = s := by
  unfold entryReadRequest
  split <;> rfl

/-- Every owning block keeps the laws. -/
theorem ownerAct_laws (p : PortId) (o : Origin) (r : Request) : KeepsLaws s (ownerAct p o r s).1 := by
  cases r
  case powerOn => exact userPowerOn_laws o
  case powerOff => exact userPowerOff_laws
  case lampMode m => exact lampModeRequest_laws m
  case select i => exact selectRequest_laws o i
  case retrain i => exact retrainRequest_laws o i
  case muteSet v => exact muteSetRequest_laws v
  case keystone k => exact keystoneRequest_laws k
  case presetStore => exact presetStoreRequest_laws
  case extendEnd => exact extendRequest_laws
  case endSession => exact endSessionRequest_laws
  case timeSet d t => exact timeSetRequest_laws d t
  case entryWrite w => exact entryWriteRequest_laws w
  case entryDelete i => exact entryDeleteRequest_laws i
  case holidayAdd d => exact holidayAddRequest_laws d
  case holidayRemove d => exact holidayRemoveRequest_laws d
  case lampReplace => exact lampReplaceRequest_laws
  case lampLimits w => exact lampLimitsRequest_laws w
  case lampCeiling l => exact lampCeilingRequest_laws l
  case faultClear => exact faultClearRequest_laws
  case inputConfig i c => exact inputConfigRequest_laws i c
  case timingWrite i t => exact timingWriteRequest_laws i t
  case timingOut i => exact timingOutRequest_laws i
  case panelSet w h => exact panelSetRequest_laws w h
  case guardSet g => exact guardSetRequest_laws g
  case subscribe m => exact subscribeRequest_laws p m
  case lockoutBase l => exact lockoutBaseRequest_laws l
  case presenterHold a => exact presenterHoldRequest_laws a
  case service a => exact serviceRequest_laws a
  case noticesRead => exact .of_keeps (modPort_keeps p _ s)
  case historyRead i => exact (historyReadRequest_state i (s := s)).symm ▸ .refl s
  case inputRead i => exact (inputReadRequest_state i (s := s)).symm ▸ .refl s
  case timingRead i => exact (timingReadRequest_state i (s := s)).symm ▸ .refl s
  case entryRead i => exact (entryReadRequest_state i (s := s)).symm ▸ .refl s
  all_goals exact .refl s

end

end Sys2Proof.Machine
end

section
/-! PROOFS. Every step keeps the lamp's laws and the strike log's bounds (O8, O13). -/

open Sys2Proof Sys2Proof.Machine

namespace Sys2Proof.Machine

set_option Elab.async false

section

variable {s : State}

/-! ### What stands at the end of every command, and the ports -/

theorem settle_laws : KeepsLaws s (settle s) := .of_keeps (settle_keeps_parts s)

theorem whenOperating_laws (f : State → State) (h : KeepsLaws s (f s)) : KeepsLaws s (whenOperating f s) :=
  .ite (fun _ => h.trans settle_laws) fun _ => .refl s

theorem hasReply_laws (p : PortId) (c : Byte) (a : Answer) : KeepsLaws s (hasReply p c a s) := .of_keeps (hasReply_keeps p c a s)

theorem modPort_laws (p : PortId) (g : Port → Port) : KeepsLaws s (s.modPort p g) := .of_keeps (modPort_keeps p g s)

theorem modPtc_laws (f : Ptc → Ptc) : KeepsLaws s (s.modPtc f) := .of_keeps (modPtc_keeps f s)

theorem takeRequest_laws (p : PortId) (o : Byte) (r : Request) : KeepsLaws s (takeRequest p o r s) := by
  unfold takeRequest
  split
  · exact hasReply_laws _ _ _
  · exact .ite (fun _ => (ownerAct_laws p _ r).trans (hasReply_laws _ _ _)) fun _ => hasReply_laws _ _ _

theorem takeFrame_laws (p : PortId) (b : List Byte) : KeepsLaws s (takeFrame p b s) := by
  unfold takeFrame
  split
  · exact .refl s
  · exact hasReply_laws _ _ _
  · exact hasReply_laws _ _ _
  · exact takeRequest_laws _ _ _

theorem takeWaiting_laws (p : PortId) (n : Nat) : ∀ s, KeepsLaws s (takeWaiting p n s) := by
  induction n with
  | zero => exact .refl
  | succ n ih =>
    intro s
    refine .ite (fun _ => .refl s) fun _ => ?_
    split
    · exact .refl s
    · exact ((modPort_laws p _).trans (takeFrame_laws p _)).trans (ih _)

theorem takeAll_laws (p : PortId) : KeepsLaws s (takeAll p s) :=
  .ite (fun _ => takeWaiting_laws _ _ _) fun _ => .refl s

theorem frameArrives_laws (p : PortId) (b : List Byte) (f : State → State) (h : KeepsLaws s (f s)) :
    KeepsLaws s (frameArrives p b f s) :=
  .ite (fun _ => .trans (.ite (fun _ => h) fun _ => .ite (fun _ => modPort_laws _ _) fun _ => .refl s) settle_laws)
    fun _ => .refl s

theorem requestArrives_laws (p : PortId) (o : Byte) (r : Request) : KeepsLaws s (requestArrives p o r s) :=
  frameArrives_laws _ _ _ (takeRequest_laws _ _ _)

theorem bodyArrives_laws (p : PortId) (b : List Byte) : KeepsLaws s (bodyArrives p b s) :=
  .ite (fun _ => frameArrives_laws _ _ _ (takeFrame_laws _ _)) fun _ => .refl s

theorem uartByte_laws (u : UartId) (b : Byte) : KeepsLaws s (uartByte u b s) := (modPort_laws _ _).trans (takeAll_laws _)

theorem setTxn_laws (t : Transaction) (l : List Byte) : KeepsLaws s (setTxn t l s) := modPtc_laws _

theorem moreBytes_laws (l : List Byte) : KeepsLaws s (moreBytes l s) := by
  unfold moreBytes writeBytes
  split
  · exact .ite (fun _ => ((setTxn_laws _ _).trans (modPtc_laws _)).trans (takeAll_laws _)) fun _ => setTxn_laws _ _
  · exact setTxn_laws _ _
  · exact setTxn_laws _ _
  · exact setTxn_laws _ _

theorem startRead_laws : KeepsLaws s (startRead s) := by
  unfold startRead
  split
  · exact .ite (fun _ => setTxn_laws _ _) fun _ => setTxn_laws _ _
  · exact setTxn_laws _ _

theorem sdiBytes_laws (l : List Byte) : KeepsLaws s (sdiBytes l s) := by
  have h (t : Transaction) (l : List Byte) : KeepsLaws s (moreBytes l (startTxn t s)) :=
    (setTxn_laws _ _).trans (moreBytes_laws l)
  unfold sdiBytes
  split
  · exact .refl s
  · exact .ite (fun _ => h _ _) fun _ => .ite (fun _ => h _ _) fun _ =>
      .ite (fun _ => startRead_laws.trans (moreBytes_laws _)) fun _ => h _ _
  · exact moreBytes_laws _

theorem txnEnds_laws : KeepsLaws s (txnEnds s) := by
  unfold txnEnds
  dsimp only
  split
  · exact .ite (fun _ => ((modPtc_laws _).trans (modPort_laws _ _)).trans (takeAll_laws _)) fun _ => modPtc_laws _
  · exact modPtc_laws _

theorem transaction_laws (l : List Byte) (b : Bool) : KeepsLaws s (transaction l b s) :=
  .ite (fun _ => (sdiBytes_laws l).trans txnEnds_laws) fun _ => sdiBytes_laws l

theorem startTx_laws (u : UartId) : KeepsLaws s (startTx u s) := .of_keeps (startTx_keeps u s)

theorem sent_laws (u : UartId) (b : Bool) : KeepsLaws s (sent u b s) := by
  unfold sent chooseFirst
  dsimp only
  split
  · exact .trans (.trans ((modPtc_laws _).trans (modPort_laws _ _)) (.ite (fun _ => startTx_laws u) fun _ => .refl _))
      (takeAll_laws _)
  · exact modPtc_laws _
  · exact modPtc_laws _

theorem whenSupplied_laws (f : State → State) (h : KeepsLaws s (f s)) : KeepsLaws s (whenSupplied f s) :=
  .ite (fun _ => h.trans settle_laws) fun _ => .refl s

/-! ### The second event -/

theorem modSinceCommit_laws (f : Nat → Nat) : KeepsLaws s (s.modSinceCommit f) := .of_same rfl rfl rfl rfl

theorem litSecond_laws : KeepsLaws s (litSecond s) := by
  unfold litSecond
  exact ((evaluated_laws _ rfl).trans (modSinceCommit_laws _)).trans (markIf_laws _ _)

theorem llcSecond_laws : KeepsLaws s (llcSecond s) := .ite (fun _ => litSecond_laws) fun _ => .refl s

theorem sswSecond_laws : KeepsLaws s (sswSecond s) := .of_keeps (modSsw_keeps _ s)

theorem dueTests_laws (l : List DueTest) : ∀ s, KeepsLaws s (l.foldl (fun s x => dueTest x s) s) := by
  induction l with
  | nil => exact .refl
  | cons x l ih => exact fun s => (dueTest_laws x).trans (ih _)

theorem secondTaken_laws (l : List DueTest) : KeepsLaws s (secondTaken l s) :=
  ((lsqSecond_laws.trans sswSecond_laws).trans (dueTests_laws l _)).trans llcSecond_laws

/-- The uptime moves on: no stamp is later than it. -/
theorem modUptime_laws : KeepsLaws s (s.modUptime (· + 1)) := by
  constructor
  · exact id
  · intro h
    rw [strikesBounded_iff] at h ⊢
    obtain ⟨hl, hn, hm⟩ := h
    exact ⟨hl, fun n hn' => Nat.le_succ_of_le (hn n hn'), hm⟩

/-! ### The picture's and the keypad's events -/

theorem modLines_laws (f : Lines → Lines) : KeepsLaws s (s.modLines f) := .of_same rfl rfl rfl rfl

theorem modKpi_laws (f : Kpi → Kpi) : KeepsLaws s (s.modKpi f) := .of_same rfl rfl rfl rfl

theorem presenceChange_laws (i : Fin 6) (b : Bool) : KeepsLaws s (presenceChange i b s) := by
  refine .trans (t := setPresence i b s) (.of_keeps (setPresence_keeps i b s)) ?_
  refine .ite (fun _ => .ite (fun _ => sswRise_laws i) fun _ => .ite (fun _ => .refl _) fun _ => .of_keeps (reach_keeps _ _))
    fun _ => .ite (fun _ => (restPathOf_laws i).trans (sswRise_laws i)) fun _ => restPathOf_laws i

theorem debounceExpiry_laws (i : Fin 6) : KeepsLaws s (debounceExpiry i s) := by
  unfold debounceExpiry
  split
  · exact .refl s
  · exact .ite (fun _ => presenceChange_laws i _) fun _ => .of_keeps (setPresence_keeps _ _ s)

theorem stableResult_laws (e : Option (Fin 24)) : KeepsLaws s (stableResult e s) := by
  have h : KeepsLaws s (unsupportedAt s) := (KeepsLaws.of_keeps (track_keeps s)).trans (.of_keeps (reach_keeps _ _))
  unfold stableResult
  split
  · exact .refl s
  refine .ite (fun _ => ?_) fun _ => .refl s
  split
  · cases e with
    | none => exact h
    | some k => exact .of_keeps (lockAt_keeps k s)
  · cases e with
    | none => exact h
    | some k => exact .of_keeps (lockAt_keeps k s)
  · cases e with
    | none => exact h
    | some k => exact .of_keeps (lockAt_keeps k s)
  · exact .refl s

theorem lockLoss_laws : KeepsLaws s (lockLoss s) := by
  unfold lockLoss
  split
  · exact .refl s
  next i _ =>
  refine .ite (fun _ => ?_) fun _ => .refl s
  refine .trans (t := setPath i .recovery s) (.of_keeps (setPath_keeps _ _ s)) ?_
  refine .trans (.of_keeps (unready_keeps _)) ?_
  dsimp only
  refine .trans (.of_keeps (openRecord_keeps .recovery .part i _)) ?_
  exact (KeepsLaws.of_keeps (raiseSource_keeps _ _)).trans (.of_keeps (leftLocked_keeps _ _))

theorem takeMonitor_laws (e : Option MonitorEvent) : KeepsLaws s (takeMonitor e s) := by
  unfold takeMonitor
  split
  · exact .refl s
  · exact stableResult_laws _
  · exact lockLoss_laws

theorem framePulseAll_laws (n : Nat) (b : Bool) : KeepsLaws s (framePulseAll n b s) := by
  have hi (t : State) : KeepsLaws t (inmFrame n t) := (KeepsLaws.of_keeps (monitorFrame_keeps n t)).trans (takeMonitor_laws _)
  have hg (t : State) : KeepsLaws t (geoFrame t) := .of_keeps (geoFrame_keeps t)
  exact .trans (.ite (fun _ => (hg s).trans (hi _)) fun _ => (hi s).trans (hg _)) (.of_keeps (releasePoint_keeps _))

theorem watchdogAll_laws : KeepsLaws s (watchdogAll s) :=
  (KeepsLaws.of_keeps (monitorWatchdog_keeps s)).trans (takeMonitor_laws _)

theorem switchTimeout_laws : KeepsLaws s (switchTimeout s) := by
  unfold switchTimeout
  split
  · exact .ite (fun _ => .of_keeps (reach_keeps _ s)) fun _ => .refl s
  · exact .refl s

theorem dialCounted_laws (n : Int) : KeepsLaws s (dialCounted n s) := by
  have hg (f : Geo → Geo) (t : State) : KeepsLaws t (t.modGeo f) := .of_keeps (modGeo_keeps f t)
  unfold dialCounted dialAllowed dialDenied dialStep raiseDenied
  refine .ite (fun _ => .ite (fun _ => ?_) fun _ => hg _ s) fun _ => .ite (fun _ => hg _ s) fun _ => ?_
  · exact ((hg _ s).trans (hg _ _)).trans (.of_keeps (recompute_keeps _ _))
  · exact (hg _ s).trans (.of_keeps (raise_keeps _ _))

theorem handCount_laws (n : Option Int) : KeepsLaws s (handCount n s) := by
  unfold handCount
  split
  · exact .refl s
  · exact .ite (fun _ => dialCounted_laws _) fun _ => .refl s

theorem dialMoved_laws (a b : Bool) : KeepsLaws s (dialMoved a b s) := by
  unfold dialMoved
  dsimp only
  exact .ite (fun _ => ((modLines_laws _).trans (modKpi_laws _)).trans (handCount_laws _)) fun _ => modLines_laws _

theorem sourcePress_laws : KeepsLaws s (sourcePress s) := by
  unfold sourcePress
  split
  · exact .refl s
  · exact .of_keeps (sswSelect_keeps _ _ s)

theorem axisPress_laws : KeepsLaws s (axisPress s) :=
  .ite (fun _ => .of_keeps (modGeo_keeps _ s)) fun _ => .of_keeps (raise_keeps _ s)

/-! ### The store, reset and start-up -/

theorem commitDone_laws : KeepsLaws s (commitDone s) := by
  unfold commitDone
  split
  · exact .refl s
  · exact .of_keeps (modSto_keeps _ s)

theorem powerFails_laws : KeepsLaws s (powerFails s) := (KeepsLaws.of_keeps (modSto_keeps _ s)).trans (markDirty_laws _)

theorem engineReturns_laws : KeepsLaws s (engineReturns s) := by
  unfold engineReturns
  split
  · exact .refl s
  · exact .of_keeps (raise_keeps _ s)

/-- After power-on reset both laws hold. -/
theorem resetBlocks_laws (s t : State) : KeepsLaws s (resetBlocks t) :=
  ⟨fun _ => rfl, fun _ => ⟨rfl, (by decide : 1 ≤ defaultSettings.strikeMax)⟩⟩

/-- A loaded STRIKE_MAX leaves room for a stamp. -/
theorem strikeMax_pos_of_settingsOk {g : Settings} (h : settingsOk g = true) : 1 ≤ g.strikeMax := by
  have hs : Config.strikeMax.holds g.strikeMax = true := by
    simp only [settingsOk, Bool.and_eq_true] at h
    tauto
  simp only [Config.Range.holds, Bool.and_eq_true, decide_eq_true_eq] at hs
  exact hs.1

theorem reportLost_keeps (r : RecordName) (l : Option LostCause) (s : State) : Keeps [.store, .ports] s (reportLost r l s) := by
  unfold reportLost
  split
  · exact .refl _ s
  · exact (markDirty_keeps r s).seq (raise_keeps _ _)

/-- SETTINGS after loading keeps its ranges. -/
theorem loadRecords_settings (s : State) : settingsOk (loadRecords s).settings = true := by
  have hl (x : Option LostCause) (f : LampRecord → LampRecord) (t : State) :
      (reportLost .lamp x (t.modLamp f)).settings = t.settings := reportLost_keeps _ _ _ .settings (by decide)
  have hi (x : Option LostCause) (f : InputsRecord → InputsRecord) (t : State) :
      (reportLost .inputs x (t.modInputs f)).settings = t.settings := reportLost_keeps _ _ _ .settings (by decide)
  have ht (x : Option LostCause) (f : TimingsRecord → TimingsRecord) (t : State) :
      (reportLost .timings x (t.modTimings f)).settings = t.settings := reportLost_keeps _ _ _ .settings (by decide)
  have hd (x : Option LostCause) (f : TimetableRecord → TimetableRecord) (t : State) :
      (reportLost .timetable x (t.modTimetable f)).settings = t.settings := reportLost_keeps _ _ _ .settings (by decide)
  have hs (x : Option LostCause) (t : State) : (reportLost .settings x t).settings = t.settings :=
    reportLost_keeps _ _ _ .settings (by decide)
  simp only [loadRecords, loadTimetable, loadTimings, loadInputs, loadLamp, loadSettings, hl, hi, ht, hd, hs,
    State.modSettings_settings]
  cases h : lostOf s.sto.images.settings.intact (settingsOk s.sto.images.settings.content) with
  | some c => rfl
  | none =>
    simp only [loaded]
    simp only [lostOf] at h
    split at h
    · cases h
    · split at h
      · cases h
      · simpa using ‹¬(!settingsOk _) = true›

/-- From step 1 of settling on both laws hold: the lamp stands as its record has it and the strike log is empty. -/
theorem settleLamp_laws (h : settingsOk s.settings = true) :
    lampFits (settleLamp s) = true ∧ strikesBounded (settleLamp s) := by
  constructor
  · rw [lampFits_iff]
    cases hh : s.lamp.cur.hot <;> cases hf : s.lamp.fault <;>
      simp [settleLamp, raise_eq, timersFit, startLamp, startTimer, resetLsq, hh, hf]
  · exact ⟨rfl, strikeMax_pos_of_settingsOk h⟩

theorem settlingEvent_laws (k : Nat) (e : SettlingEvent) : KeepsLaws s (settlingEvent k s e) := by
  cases e with
  | second =>
    have h : KeepsLaws s (lsqSecond (s.modUptime (· + 1))) := modUptime_laws.trans lsqSecond_laws
    exact .ite (fun _ => h.trans sswSecond_laws) fun _ => h
  | calendar =>
    have h : KeepsLaws s (s.modCal Cal.next) := .of_keeps (modCal_keeps _ s)
    have ht : KeepsLaws s (if s.cal.valid && !(s.modCal Cal.next).cal.valid then raiseTimeInvalid (s.modCal Cal.next)
        else s.modCal Cal.next) := .ite (fun _ => h.trans (.of_keeps (raise_keeps _ _))) fun _ => h
    exact .ite (fun _ => .ite (fun _ => ht.trans (purge_laws _)) fun _ => ht) fun _ => h

theorem settlingEvents_laws (k : Nat) (l : List SettlingEvent) : ∀ s, KeepsLaws s (settlingEvents k l s) := by
  induction l with
  | nil => exact .refl
  | cons e l ih => exact fun s => (settlingEvent_laws k e).trans (ih _)

theorem settleInputs_laws : KeepsLaws s (settleInputs s) :=
  (KeepsLaws.of_keeps (forgetTimings_keeps _ s)).trans (.of_keeps (modInm_keeps _ _))

theorem settleSource_laws : KeepsLaws s (settleSource s) :=
  (KeepsLaws.of_keeps (modSsw_keeps _ s)).trans (.of_keeps (raiseSource_keeps _ _))

theorem settleGeometry_laws : KeepsLaws s (settleGeometry s) := by
  unfold settleGeometry
  dsimp only
  exact ((KeepsLaws.of_keeps (modGeo_keeps _ s)).trans (.of_keeps (modGeo_keeps _ _))).trans (.of_keeps (raise_keeps _ _))

theorem settleTimetable_laws : KeepsLaws s (settleTimetable s) :=
  (purge_laws s.cal.date).trans (.ite (fun _ => .refl _) fun _ => .of_keeps (raise_keeps _ _))

theorem setPhase_laws (x : StartPhase) : KeepsLaws s (setPhase x s) := .of_keeps (modSto_keeps _ s)

/-- After start-up both laws hold. -/
theorem startUp_laws (f : Vector (List SettlingEvent) 5) : KeepsLaws s (startUp f s) := by
  have hs : settingsOk (setPhase .settling (loadRecords s)).settings = true := loadRecords_settings s
  obtain ⟨hl, hb⟩ := settleLamp_laws hs
  have h : KeepsLaws (settleLamp (setPhase .settling (loadRecords s))) (startUp f s) := by
    unfold startUp
    dsimp only
    refine (settlingEvents_laws 1 f[0] _).trans ?_
    refine (settleInputs_laws.trans (settlingEvents_laws 2 f[1] _)).trans ?_
    refine (settleSource_laws.trans (settlingEvents_laws 3 f[2] _)).trans ?_
    refine (settleGeometry_laws.trans (settlingEvents_laws 4 f[3] _)).trans ?_
    refine (settleTimetable_laws.trans (settlingEvents_laws 5 f[4] _)).trans ?_
    exact (lateCheck_laws _ _).trans (setPhase_laws _)
  exact ⟨fun _ => h.lamp hl, fun _ => h.strikes hb⟩

/-! ### The commands -/

/-- Every command answers a next state that keeps both laws. -/
theorem exec_laws (c : Instr) {s t : State} (h : exec c s = .next t) : KeepsLaws s t := by
  have hl (f : Lines → Lines) : KeepsLaws s (s.modLines f) := modLines_laws f
  cases c <;> cases h
  case unknownRequestCode p b | nonRequestFrame p b => exact bodyArrives_laws p b
  case uartByteReceived u b e => exact .ite (fun _ => .refl s) fun _ => whenOperating_laws _ (uartByte_laws u b)
  case eWriteTransaction | eReadTransaction => exact whenSupplied_laws _ (transaction_laws _ _)
  case sselNegated => exact whenSupplied_laws _ txnEnds_laws
  case gapTimerExpiry p => exact whenOperating_laws _ (modPort_laws p _)
  case transmissionEnd u b => exact whenOperating_laws _ (sent_laws u b)
  case litRise => exact (hl _).trans (whenOperating_laws _ litRises_laws)
  case litFall => exact (hl _).trans (whenOperating_laws _ litFalls_laws)
  case bfaultRise => exact (hl _).trans (whenOperating_laws _ bfaultRises_laws)
  case bfaultFall => exact hl _
  case secondEvent l =>
    exact .ite (fun _ => modUptime_laws.trans (whenOperating_laws _ (secondTaken_laws l))) fun _ => .refl s
  case attemptTimerExpiry | retryGapExpiry | warmupTimerExpiry | coolTimerExpiry | minOnReached | holdReleaseWindow |
      nosigDimReached | nosigOffReached => exact whenOperating_laws _ (dueTest_laws _)
  case litCommitCountReached => exact whenOperating_laws _ (markIf_laws _ _)
  case presLineChange i b =>
    exact .ite (fun _ => (hl _).trans (.of_keeps (modInm_keeps _ _))) fun _ => hl _
  case presenceDebounceExpiry i => exact .ite (fun _ => (debounceExpiry_laws i).trans settle_laws) fun _ => .refl s
  case framePulse n b => exact whenOperating_laws _ (framePulseAll_laws n b)
  case linePulse => exact whenOperating_laws _ (.of_keeps (monitorLine_keeps s))
  case frameWatchdogExpiry => exact whenOperating_laws _ watchdogAll_laws
  case switchTimerExpiry => exact whenOperating_laws _ switchTimeout_laws
  case dialEdge a b => exact (dialMoved_laws a b).trans settle_laws
  case kpPowerPress => exact (modKpi_laws _).trans (whenOperating_laws _ powerPress_laws)
  case kpSourcePress =>
    exact (modKpi_laws _).trans (whenOperating_laws _ (.ite (fun _ => sourcePress_laws) fun _ => .of_keeps (raise_keeps _ _)))
  case kpAxisPress => exact (modKpi_laws _).trans (whenOperating_laws _ axisPress_laws)
  case keylockChange => exact (hl _).trans (.of_keeps (modLkc_keeps _ _))
  case confirmWindowExpiry => exact whenOperating_laws _ (.of_keeps (setConfirm_keeps _ s))
  case calendarSecond =>
    exact .ite (fun _ => .refl s) fun _ => .ite (fun _ => calendarTick_laws.trans settle_laws) fun _ =>
      .of_keeps (modCal_keeps _ s)
  case commitComplete => exact .ite (fun _ => commitDone_laws.trans settle_laws) fun _ => .refl s
  case pfailAsserted => exact .ite (fun _ => ((hl _).trans powerFails_laws).trans settle_laws) fun _ => hl _
  case pfailNegated => exact .ite (fun _ => ((hl _).trans (.of_keeps (modSto_keeps _ _))).trans settle_laws) fun _ => hl _
  case supplyFall => exact (hl _).trans (.of_keeps (modSto_keeps _ _))
  case powerOnReset x =>
    cases x with
    | resetLine => exact .ite (fun _ => resetBlocks_laws _ _) fun _ => hl _
    | supplyRise => exact resetBlocks_laws _ _
  case resetRelease => exact hl _
  case startupLoadComplete f => exact .ite (fun _ => (startUp_laws f).trans settle_laws) fun _ => .refl s
  case engRstAsserted => exact .ite (fun _ => ((hl _).trans (modPtc_laws _)).trans settle_laws) fun _ => hl _
  case engRstReleased => exact .ite (fun _ => ((hl _).trans engineReturns_laws).trans settle_laws) fun _ => hl _
  case backupDomainLoss => exact .ite (fun _ => .refl s) fun _ => .of_keeps (modCal_keeps _ s)
  all_goals exact requestArrives_laws _ _ _

theorem step_laws {s t : State} (h : step s = .next t) : KeepsLaws s t := by
  unfold step at h
  split at h
  · cases h
    exact .refl s
  next c rest _ => exact .trans (t := { s with pending := rest }) (.of_same rfl rfl rfl rfl) (exec_laws c h)

end

end Sys2Proof.Machine

/-- Settles O8: every command's shared operations keep the lamp's laws, and after a reset or a start-up they hold. -/
theorem lampLawsKept : Obligations.LampLawsKept := by
  unfold Obligations.LampLawsKept
  intro s t h hs
  exact (step_laws hs).lamp h

/-- Settles O13: a stamp joins a log trimmed to make room for it, and the uptime only grows until a reset empties the log. -/
theorem strikeLogKept : Obligations.StrikeLogKept := by
  unfold Obligations.StrikeLogKept
  rintro s t ⟨h, hg⟩ hs
  exact ((step_laws hs).strikes ⟨h, strikeMax_pos_of_settingsOk hg⟩).1

end

section
/-! PROOFS. A claim about a command, from what its operation leaves; the power-on requests (O15 to O17). -/

namespace Sys2Proof.Machine

set_option Elab.async false

/-! ### Commands and what settles -/

/-- An allowed request settles as its owner acts, with its answer in the port. -/
theorem settles_request {c : Instr} {p : PortId} {o : Byte} {a : Origin} {r : Request} {s : State} {P : State → Prop}
    (ht : Taken p o a r s) (hc : exec c s = .next (requestArrives p o r s))
    (h : P (hasReply p (kindCode (requestKind r)) (ownerAct p a r s).2 (ownerAct p a r s).1)) : Settles c s P :=
  settles_of_eq (hc.trans (by rw [requestArrives_taken ht])) h

/-- A command that acts while the part runs settles as it acts. -/
theorem settles_operating {c : Instr} {f : State → State} {s t : State} {P : State → Prop} (ho : t.operating = true)
    (hc : exec c s = .next (whenOperating f t)) (h : P (f t)) : Settles c s P :=
  settles_of_eq (hc.trans (by rw [whenOperating, if_pos ho])) h

theorem Taken.operating {p : PortId} {o : Byte} {a : Origin} {r : Request} {s : State} (h : Taken p o a r s) :
    s.operating = true := by
  have ho := h.1.1
  simp only [State.portOpen, Bool.and_eq_true] at ho
  exact ho.1

/-- The part runs: main supply is present, RESET is not asserted and start-up is complete. -/
theorem operating_iff (s : State) :
    s.operating = true ↔ s.lines.supply = true ∧ s.lines.reset = false ∧ s.sto.phase = .complete := by
  simp [State.operating, State.powered, and_assoc]

/-- A request's origin is never TIMETABLE (R106). -/
theorem Taken.user {p : PortId} {o : Byte} {a : Origin} {r : Request} {s : State} (h : Taken p o a r s) :
    a ≠ .timetable := by
  have ha := h.2.1
  rintro rfl
  cases p
  case e =>
    simp only [originOn, eOriginOf] at ha
    split at ha <;> simp at ha
  all_goals simp [originOn] at ha

theorem hasReply_ptc (p : PortId) (c : Byte) (a : Answer) (s : State) :
    (hasReply p c a s).ptc = s.ptc.mod p fun q => { q with reply := some ⟨c, a.status, a.fields⟩ } := rfl

/-- What a reply leaves at the ports, the notices raised before it named. -/
theorem told_hasReply {p : PortId} {c : Byte} {a : Answer} {ns : List Payload} {s u : State} (h : u.ptc = s.heard ns) :
    Told p c a.status a.fields ns s (hasReply p c a u) := by
  rw [Told, raiseAll_eq, hasReply_ptc, h]

/-- A reply alone. -/
theorem onlyReplied_hasReply (p : PortId) (c : Byte) (a : Answer) (s : State) :
    OnlyReplied p c a.status a.fields s (hasReply p c a s) := ⟨told_hasReply rfl, hasReply_keeps p c a s⟩

theorem answers_hasReply {p : PortId} {c : Byte} {a : Answer} {st : Status} {l : List Byte} {s : State}
    (hs : a.status = st) (hl : a.fields = l) : Answers p c st l (hasReply p c a s) := by
  subst hs hl
  exact hasReply_answers p c a s

@[simp] theorem dirtied_phase (r : RecordName) (t : Sto) : (dirtied r t).phase = t.phase := by
  unfold dirtied
  split <;> rfl

/-! ### POWER_ON -/

theorem recordFits_untrained {s : State} (h : pictureFits s = true) : s.ssw.trained = false → s.ssw.record = none := by
  intro ht
  simp [pictureFits, recordFits, ht] at h
  tauto

/-- The command POWER_ON settles as the user POWER_ON does. -/
theorem settles_powerOn {p : PortId} {o : Byte} {a : Origin} {s t : State} {out : PowerOutcome} {P : State → Prop}
    (ht : Taken p o a .powerOn s) (h : userPowerOn a s = (t, out))
    (hp : P (hasReply p 0x10 (powerOnAnswer out) t)) : Settles (.powerOn p o) s P := by
  refine settles_request ht rfl ?_
  simpa [ownerAct, powerOnRequest, h, requestKind, kindCode] using hp

/-- What the first attempt of an ignition leaves, a power-on held before ended (R6, R13, R26). -/
theorem firstAttempt_endHold_eq (o : Origin) (s : State) : firstAttempt o (endHold s) =
    { s with
      lsq := { struck s.settings s.uptime 1 s.lsq with ignOrigin := o, held := none }
      lamp := charged s.lamp
      sto := dirtied .lamp s.sto
      ssw := darkened s.ssw
      ses := holdEnded s
      ptc := s.heard (.lampState .striking s.lsq.state 1 .request :: conditionNotices s (charged s.lamp)) } := by
  rw [firstAttempt_eq, endHold_eq]
  rfl

/-- What a lamp found lit leaves, a power-on held before ended (R6). -/
theorem goWarmup_endHold_eq (c : LampCause) (s : State) : goWarmup c (endHold s) =
    { s with
      lsq := { warmed s.settings.warmupTime s.lsq with held := none }
      ssw := { s.ssw with powerOffSince := false, mute := true }
      ses := holdEnded s
      ptc := s.heard [.lampState .warmup s.lsq.state 0 c] } := by
  rw [goWarmup_eq, endHold_eq]
  rfl

/-- The hold ended or not, a session stands open as it did. -/
@[simp] theorem holdEnded_isNone (s : State) : (holdEnded s).isNone = s.ses.isNone := by
  unfold holdEnded
  split <;> simp

theorem lsqPowerOn_off (o : Origin) {s : State} (h : s.lsq.state = .off) : lsqPowerOn o s = powerOnInOff o s := by
  simp [lsqPowerOn, h]

theorem lsqPowerOn_lit (o : Origin) {s : State} (h : s.lsq.state = .striking ∨ s.lsq.state = .warmup ∨ s.lsq.state = .on) :
    lsqPowerOn o s = (s, .alreadyLit) := by
  obtain h | h | h := h <;> simp [lsqPowerOn, h]

theorem lsqPowerOn_offPending (o : Origin) {s : State} (h : s.lsq.state = .offPending) :
    lsqPowerOn o s = (lampChange .on .request s, .alreadyLit) := by simp [lsqPowerOn, h]

theorem lsqPowerOn_cooling (o : Origin) {s : State} (h : s.lsq.state = .cooling) :
    lsqPowerOn o s = (hold o s.coolingReason s, .deferred) := by simp [lsqPowerOn, h]

/-- A hold made for a user (R5, R148). -/
theorem hold_user_eq {o : Origin} (h : o ≠ .timetable) (r : HeldReason) (s : State) : hold o r s =
    { s with
      lsq := { s.lsq with held := some ⟨o, r⟩ }
      ses := holdEnded s
      ptc := s.heard [.strikeHeld o r (s.openingTime r)] } := by
  rw [hold_eq, if_neg h]

/-- A lamp back in ON shows the picture that it showed in OFF_PENDING (R12, R80). -/
theorem lampChange_on_eq {s : State} (c : LampCause) (h : muteFits s = true) : lampChange .on c s =
    { s with
      lsq := { s.lsq with state := .on }
      ssw := { s.ssw with powerOffSince := false }
      ses := s.ses.map fun r => { r with deferred := false }
      ptc := s.heard [.lampState .on s.lsq.state 0 c] } := by
  have hm : (s.ssw.mute || !s.pictured) = s.ssw.mute := by
    cases hm : s.ssw.mute
    · have hp : s.pictured = true := by
        simp only [muteFits, hm, showable_eq, Bool.false_or, Bool.and_eq_true] at h
        exact h.2.2
      simp [hp]
    · rfl
  simp [lampChange_lit .on c s rfl, hm]

end Sys2Proof.Machine

open Sys2Proof Sys2Proof.Machine

/-- Settles O15: LSQ finds the way clear and begins the first attempt; SSW and SES follow. -/
theorem powerOnStrikes : Obligations.PowerOnStrikes := by
  unfold Obligations.PowerOnStrikes
  intro p o a s ht hp hst hc hb hl hw
  obtain ⟨hs, hr, hd⟩ := (operating_iff s).mp ht.operating
  have hon : lsqPowerOn a s = (firstAttempt a (endHold s), .started) := by
    rw [lsqPowerOn_off a hst, powerOnInOff_clear a hc hb hl hw]
  rw [firstAttempt_endHold_eq, hst] at hon
  obtain ⟨he, hn⟩ := userPowerOn_taken hon (by simp)
    ⟨rfl, rfl, rfl, rfl, rfl, rfl, rfl, holdEnded_isNone s⟩ (recordFits_untrained hp)
  refine settles_powerOn ht he ⟨rfl, ?_, ?_, ?_, rfl, rfl, hasReply_answers _ _ _ _, rfl, rfl, rfl, rfl, ?_, ?_⟩
  · simp [State.ignite, operating_iff, hasReply, State.modPort, struck, hl, hs, hr, hd]
  · simp [State.plev, operating_iff, hasReply, State.modPort, struck, State.powerLevel, drivenState, hs, hr, hd]
  · simp [State.fan, hasReply, State.modPort, struck, hs]
  · exact fun h₁ h₂ => told_hasReply (hn h₁ h₂)
  · simp [keeps_iff, hasReply, State.modPort]

/-- Settles O16: LSQ refuses, and BFAULT found in OFF is a fault of its own. -/
theorem powerOnRefused : Obligations.PowerOnRefused := by
  unfold Obligations.PowerOnRefused
  intro p o a s ht
  have hset {t : State} {r : Reason} {P : State → Prop} (hon : lsqPowerOn a s = (t, .refused r))
      (h : P (hasReply p 0x10 (.refused r) t)) : Settles (.powerOn p o) s P :=
    settles_powerOn ht (userPowerOn_refused hon) h
  cases hst : s.lsq.state
  case off =>
    by_cases hc : condition s.lamp = .expired
    · refine hset (t := s) (r := .lampExpired) (by simp [lsqPowerOn, hst, powerOnInOff_expired a hc]) ?_
      exact ⟨fun _ _ => onlyReplied_hasReply _ _ _ _, by simp, fun _ h => absurd hc h⟩
    cases hb : s.lines.bfault
    case false =>
      refine settles_request ht rfl ⟨fun _ h => absurd h hc, by simp, by simp⟩
    · refine hset (t := ballastAtPowerOn s) (r := .lampFault) (by simp [lsqPowerOn, hst, powerOnInOff_ballast a hc hb]) ?_
      refine ⟨fun _ h => absurd h hc, by simp, fun _ _ _ => ?_⟩
      rw [ballastAtPowerOn_eq]
      exact ⟨rfl, rfl, rfl, rfl, rfl, rfl, hasReply_answers _ _ _ _, by simp [keeps_iff, hasReply, State.modPort]⟩
  case faultCooling | fault =>
    refine hset (t := s) (r := .lampFault) (by simp [lsqPowerOn, hst]) ?_
    exact ⟨by simp, fun _ => onlyReplied_hasReply _ _ _ _, by simp⟩
  all_goals exact settles_request ht rfl ⟨by simp, by simp, by simp⟩

/-- Settles O17: LSQ holds the power-on, or finds the lamp lit; SSW and SES follow as at every power-on not refused. -/
theorem powerOnElsewhere : Obligations.PowerOnElsewhere := by
  unfold Obligations.PowerOnElsewhere
  intro p o a s ht hp hfc hf hoff
  have hset {t : State} {out : PowerOutcome} {P : State → Prop} (hon : lsqPowerOn a s = (t, out))
      (hout : ∀ r, out ≠ .refused r) (hroom : SameRoom s t)
      (h : ∀ c, P (hasReply p 0x10 (powerOnAnswer out)
        { t with ssw := firstSsw s t.ssw, inm := firstInm s, ses := sesAfterOn s t.ses, lkc := lkcAfterOn s, ptc := c })) :
      Settles (.powerOn p o) s P :=
    settles_powerOn ht (userPowerOn_taken hon hout hroom (recordFits_untrained hp)).1 (h _)
  cases hst : s.lsq.state
  case off =>
    obtain ⟨hc, hb, hw⟩ := hoff hst
    cases hl : s.lines.lit
    case true =>
      have hon := (lsqPowerOn_off a hst).trans (powerOnInOff_lit a hc hb hl)
      rw [goWarmup_endHold_eq] at hon
      refine hset hon (by simp) ⟨rfl, rfl, rfl, rfl, rfl, rfl, rfl, holdEnded_isNone s⟩ fun c => ?_
      refine ⟨fun _ _ => ⟨rfl, hasReply_answers _ _ _ _, rfl, rfl⟩, by simp, by simp, by simp, by simp, by simp, rfl, rfl, ?_⟩
      simp [keeps_iff, hasReply, State.modPort]
    case false =>
      have hw : s.windowFull = true := by simpa [hl] using hw
      have hon := (lsqPowerOn_off a hst).trans (powerOnInOff_full a hc hb hl hw)
      rw [hold_user_eq ht.user] at hon
      refine hset hon (by simp) ⟨rfl, rfl, rfl, rfl, rfl, rfl, rfl, holdEnded_isNone s⟩ fun c => ?_
      refine ⟨by simp, fun _ _ => ⟨rfl, hasReply_answers _ _ _ _, rfl, rfl⟩, by simp, by simp, by simp, by simp, rfl, rfl, ?_⟩
      simp [keeps_iff, hasReply, State.modPort]
  case striking | warmup | on =>
    refine hset (lsqPowerOn_lit a (by simp [hst])) (by simp) ⟨rfl, rfl, rfl, rfl, rfl, rfl, rfl, rfl⟩ fun c => ?_
    refine ⟨by simp, by simp, fun _ => ⟨rfl, hasReply_answers _ _ _ _, rfl, rfl⟩, by simp, by simp, by simp, rfl, rfl, ?_⟩
    simp [keeps_iff, hasReply, State.modPort]
  case offPending =>
    have hm : muteFits s = true := by simp_all [pictureFits]
    have hon := lsqPowerOn_offPending a hst
    rw [lampChange_on_eq .request hm] at hon
    refine hset hon (by simp) ⟨rfl, rfl, rfl, rfl, rfl, rfl, rfl, by simp⟩ fun c => ?_
    refine ⟨by simp, by simp, by simp, fun _ => ⟨rfl, hasReply_answers _ _ _ _, rfl⟩, fun _ _ => rfl, by simp, rfl, rfl, ?_⟩
    simp [keeps_iff, hasReply, State.modPort]
  case cooling =>
    have hon := lsqPowerOn_cooling a hst
    rw [hold_user_eq ht.user] at hon
    refine hset hon (by simp) ⟨rfl, rfl, rfl, rfl, rfl, rfl, rfl, holdEnded_isNone s⟩ fun c => ?_
    refine ⟨by simp, by simp, by simp, by simp, by simp, fun _ => ⟨rfl, hasReply_answers _ _ _ _, rfl, rfl⟩, rfl, rfl, ?_⟩
    simp [keeps_iff, hasReply, State.modPort]
  case faultCooling => exact absurd hst hfc
  case fault => exact absurd hst hf

end

section
/-! PROOFS. POWER_OFF, the power modes, and the lamp-service requests (O18, O19, O33, O35). -/

namespace Sys2Proof.Machine

set_option Elab.async false

/-- The command POWER_OFF settles as the user POWER_OFF does, with LSQ's answer. -/
theorem settles_powerOff {p : PortId} {o : Byte} {a : Origin} {s : State} {P : State → Prop}
    (ht : Taken p o a .powerOff s) (h : P (hasReply p 0x11 (takePowerOff s).2 (userPowerOff s).1)) :
    Settles (.powerOff p o) s P := settles_request ht rfl h

/-- A frame that leaves out the ports has room for the reply. -/
theorem Keeps.replied {l : List Part} {s u : State} (h : Keeps l s u) (p : PortId) (c : Byte) (a : Answer)
    (hl : .ports ∈ l) : Keeps l s (hasReply p c a u) := by
  intro x hx
  cases x
  case ports => exact absurd hl hx
  all_goals exact h _ hx

/-- What a user POWER_OFF leaves of LSQ and SSW, and of the other blocks with a session open or not. -/
theorem userPowerOff_leaves {s : State} (hh : heldFits s = true) :
    (userPowerOff s).1.lsq = lsqAfterOff s ∧
    (∃ m y, (userPowerOff s).1.ssw = { sswOff m s.ssw with ready := y }) ∧
    (s.ses = none → Keeps [.lsq, .ssw, .lkc, .ports] s (userPowerOff s).1) ∧
    (s.ses ≠ none → (∀ r ∈ (userPowerOff s).1.ses, r.kind = .scheduled ∧ r.suppressed = true) ∧
      (userPowerOff s).1.lkc.hold = false ∧ Keeps [.lsq, .ssw, .geo, .lkc, .ses, .ports] s (userPowerOff s).1) := by
  obtain ⟨m₀, c₀, ht, -⟩ := takePowerOff_eq s
  cases hs : s.ses with
  | none =>
    rw [userPowerOff_alone hs, ht]
    refine ⟨rfl, ⟨m₀, s.ssw.ready, rfl⟩, fun _ => ?_, by simp⟩
    simp [keeps_iff, holdEnded, hs]
  | some r =>
    obtain ⟨d, m, y, b, g, c, hu, -, -, -⟩ := userPowerOff_closing hs
    have hl : (if d then lsqAfterOff (takePowerOff s).1 else lsqAfterOff s) = lsqAfterOff s := by
      have hq : (takePowerOff s).1.lsq = lsqAfterOff s := by rw [ht]
      rw [lsqAfterOff_of_taken _ (hq ▸ offTaken_lsqAfterOff s hh), hq, ite_self]
    rw [hu, hl]
    refine ⟨rfl, ⟨m, y, rfl⟩, by simp, fun _ => ⟨?_, rfl, by simp [keeps_iff]⟩⟩
    simp +contextual [scheduledSession]

/-- The history keeps its newest eight (R40). -/
theorem fileClosed_eq (h : List ClosedLamp) (r : ClosedLamp) : fileClosed h r = h.drop (h.length + 1 - 8) ++ [r] := by
  unfold fileClosed
  split
  next hl =>
    have h0 : h.length + 1 - 8 = 0 := Nat.sub_eq_zero_of_le (Nat.succ_le_of_lt hl)
    rw [h0, List.drop_zero]
  · rfl

/-- A lamp that leaves FAULT for OFF or FAULT_COOLING for COOLING keeps its record as it is (R20, R31). -/
theorem lampChange_clear_eq (n : LampState) (s : State) (hn : n = .off ∨ n = .cooling) (h : s.lsq.state ≠ .cooling) :
    lampChange n .clear s =
      { s with
        lsq := { s.lsq with state := n }
        ssw := darkened s.ssw
        lkc := windowClosed s.lkc
        ptc := s.heard [.lampState n s.lsq.state 0 .clear] } := by
  rw [lampChange_dark n .clear s (by obtain rfl | rfl := hn <;> rfl)]
  obtain rfl | rfl := hn <;> simp [h, drivenState, attemptIn]

theorem leaveFault_fault {s : State} (h : s.lsq.state = .fault) : leaveFault s =
    { s with
      lsq := { s.lsq with state := .off }
      ssw := darkened s.ssw
      lkc := windowClosed s.lkc
      ptc := s.heard [.lampState .off .fault 0 .clear] } := by
  simp [leaveFault, h, lampChange_clear_eq]

theorem leaveFault_faultCooling {s : State} (h : s.lsq.state = .faultCooling) : leaveFault s =
    { s with
      lsq := { s.lsq with state := .cooling }
      ssw := darkened s.ssw
      lkc := windowClosed s.lkc
      ptc := s.heard [.lampState .cooling .faultCooling 0 .clear] } := by
  simp [leaveFault, h, lampChange_clear_eq]

theorem leaveFault_other {s : State} (h₁ : s.lsq.state ≠ .fault) (h₂ : s.lsq.state ≠ .faultCooling) :
    leaveFault s = s := by
  unfold leaveFault
  split
  next h => exact absurd h h₁
  next h => exact absurd h h₂
  next => rfl

end Sys2Proof.Machine

open Sys2Proof Sys2Proof.Machine

/-- Settles O18: LSQ and SSW take the POWER_OFF; a session's close may take a second, which finds nothing left to do. -/
theorem powerOffByState : Obligations.PowerOffByState := by
  unfold Obligations.PowerOffByState
  intro p o a s ht hh
  obtain ⟨hq, ⟨m, y, hw⟩, hn, hs⟩ := userPowerOff_leaves hh
  have ha := takePowerOff_answer s
  refine settles_powerOff ht ?_
  generalize (userPowerOff s).1 = u at hq hw hn hs ⊢
  have hans {st : Status} (he : (takePowerOff s).2 = ⟨st, []⟩) :
      Answers p 0x11 st [] (hasReply p 0x11 (takePowerOff s).2 u) := by
    rw [he]
    exact hasReply_answers _ _ _ _
  have hsw : (hasReply p 0x11 (takePowerOff s).2 u).ssw = { sswOff m s.ssw with ready := y } := hw
  refine ⟨fun h => ⟨hq.trans ?_, hans ?_⟩, fun h => ⟨hq.trans ?_, hans ?_⟩, fun h hm => ⟨hq.trans ?_, hans ?_⟩,
    fun h hm => ⟨hq.trans ?_, hans ?_⟩, fun h => ⟨hq.trans ?_, hans ?_⟩, ?_, ?_, ?_, ?_,
    fun h => (hn h).replied _ _ _ (by simp), fun h => ?_⟩
  · obtain h | h := h <;> simp [lsqAfterOff, h]
  · obtain h | h := h <;> simp [ha, h, Answer.done]
  · simp [lsqAfterOff, h]
  · simp [ha, h, Answer.done]
  · obtain h | h := h <;> simp [lsqAfterOff, h, hm]
  · simp [ha, Nat.not_lt.mpr hm, Answer.done]
  · obtain h | h := h <;> simp [lsqAfterOff, h, Nat.not_le.mpr hm]
  · simp [ha, h, hm, Answer.accepted]
  · obtain h | h | h := h <;> simp [lsqAfterOff, h]
  · obtain h | h | h := h <;> simp [ha, h, Answer.done]
  · rw [hsw]; rfl
  · rw [hsw]; rfl
  · rw [hsw]; rfl
  · rw [hsw]; rfl
  · obtain ⟨hr, hhold, hkeep⟩ := hs h
    exact ⟨hr, hhold, hkeep.replied _ _ _ (by simp)⟩

/-- Settles O19: the byte is checked against its two codes, and the setting written. -/
theorem powerModesWritten : Obligations.PowerModesWritten := by
  unfold Obligations.PowerModesWritten
  intro p o a m s
  have hno (h₂ : m ≠ 2) (h₃ : m ≠ 3) : modeOf m = none := by rw [modeOf, if_neg h₂, if_neg h₃]
  have hyes (h : m = 2 ∨ m = 3) : modeOf m = some (if m = 2 then .eco else .full) := by
    obtain rfl | rfl := h <;> rfl
  refine ⟨fun ht h₂ h₃ => ?_, fun ht h => ?_, fun ht h₂ h₃ => ?_, fun ht h => ?_⟩
  · refine settles_request ht rfl ?_
    have he : ownerAct p a (.lampMode m) s = (s, .invalid) := by simp [ownerAct, lampModeRequest, hno h₂ h₃]
    rw [he]
    exact onlyReplied_hasReply _ _ _ _
  · refine settles_request ht rfl ?_
    simp only [ownerAct, lampModeRequest, hyes h, markIf_eq]
    exact ⟨rfl, rfl, told_hasReply rfl, by simp [keeps_iff, hasReply, State.modPort]⟩
  · refine settles_request ht rfl ?_
    have he : ownerAct p a (.lampCeiling m) s = (s, .invalid) := by simp [ownerAct, lampCeilingRequest, hno h₂ h₃]
    rw [he]
    exact onlyReplied_hasReply _ _ _ _
  · refine settles_request ht rfl ?_
    simp only [ownerAct, lampCeilingRequest, hyes h, markIf_eq]
    exact ⟨rfl, rfl, told_hasReply rfl, by simp [keeps_iff, hasReply, State.modPort]⟩

/-- Settles O33: the account is filed by LLC, and a lamp in FAULT goes to OFF. -/
theorem lampReplaced : Obligations.LampReplaced := by
  unfold Obligations.LampReplaced
  intro p o a s ht
  refine settles_request ht rfl ?_
  simp only [ownerAct, lampReplaceRequest, markDirty_eq]
  cases hst : s.lsq.state
  case off =>
    refine ⟨by simp, fun _ => ⟨?_, rfl⟩, fun _ => ⟨told_hasReply rfl, by simp [keeps_iff, hasReply, State.modPort]⟩, by simp⟩
    simp [hasReply, State.modPort, replaceLamp, closedLamp, fileClosed_eq]
  case fault =>
    rw [lampChange_clear_eq .off _ (.inl rfl) (by simp [hst])]
    refine ⟨by simp, fun _ => ⟨?_, rfl⟩, by simp, fun _ => ⟨rfl, rfl, rfl, told_hasReply ?_, ?_⟩⟩
    · simp [hasReply, State.modPort, replaceLamp, closedLamp, fileClosed_eq]
    · simp [hst]
    · simp [keeps_iff, hasReply, State.modPort]
  all_goals exact ⟨fun _ _ => onlyReplied_hasReply _ _ _ _, by simp, by simp, by simp⟩

/-- Settles O35: with a record held LSQ leaves its fault state for the one beside it. -/
theorem faultCleared : Obligations.FaultCleared := by
  unfold Obligations.FaultCleared
  intro p o a s ht
  refine settles_request ht rfl ?_
  simp only [ownerAct, faultClearRequest, markDirty_eq]
  cases hf : s.lamp.fault with
  | none => exact ⟨fun _ => onlyReplied_hasReply _ _ _ _, by simp, by simp, by simp⟩
  | some f =>
    by_cases h₁ : s.lsq.state = .fault
    · rw [leaveFault_fault (by exact h₁)]
      refine ⟨by simp, fun _ => ⟨rfl, rfl, ?_⟩, fun _ _ => ⟨rfl, rfl, rfl, told_hasReply rfl⟩, by simp [h₁]⟩
      simp [keeps_iff, hasReply, State.modPort]
    by_cases h₂ : s.lsq.state = .faultCooling
    · rw [leaveFault_faultCooling (by exact h₂)]
      refine ⟨by simp, fun _ => ⟨rfl, rfl, ?_⟩, by simp [h₂], fun _ _ => ⟨rfl, rfl, rfl, told_hasReply rfl⟩⟩
      simp [keeps_iff, hasReply, State.modPort]
    · rw [leaveFault_other (by exact h₁) (by exact h₂)]
      refine ⟨by simp, fun _ => ⟨rfl, rfl, ?_⟩, fun _ h => absurd h h₁, fun _ h => absurd h h₂⟩
      simp [keeps_iff, hasReply, State.modPort]

end

section
/-! PROOFS. The lines LIT and BFAULT (O48). -/

namespace Sys2Proof.Machine

set_option Elab.async false

/-! ### Commands of a part that runs or does not -/

/-- A part that does not run begins nothing. -/
theorem settle_idle {s : State} (h : s.operating = false) : settle s = s := by
  simp [settle, startTx, beginCommit, h]

/-- A command that acts while the part runs leaves what it acted on, and otherwise what it found. -/
theorem settles_whenOperating {c : Instr} {f : State → State} {s t : State} {P : State → Prop}
    (hc : exec c s = .next (whenOperating f t)) (h₁ : t.operating = true → P (f t)) (h₀ : t.operating = false → P t) :
    Settles c s P := by
  cases ho : t.operating with
  | true => exact settles_operating ho hc (h₁ ho)
  | false => exact ⟨t, by rw [hc, whenOperating, if_neg (by simp [ho]), settle_idle ho], h₀ ho⟩

/-! ### Faults that move the lamp -/

/-- The dirty list after a fault: LAMP marked, but for a count that stands at its ceiling. -/
def faultSto (k : FaultKind) (s : State) : Sto := if faultNotices k s = [] then s.sto else dirtied .lamp s.sto

theorem faultSto_first (k : FaultKind) {s : State} (h : s.lamp.fault = none) : faultSto k s = dirtied .lamp s.sto := by
  simp [faultSto, faultNotices_first k s h]

@[simp] theorem dirtied_faultSto (k : FaultKind) (s : State) : dirtied .lamp (faultSto k s) = dirtied .lamp s.sto := by
  unfold faultSto
  split
  · rfl
  · simp

theorem recordFault_leaves (k : FaultKind) (s : State) : recordFault k s =
    { s with lamp := faulted k s, sto := faultSto k s, ptc := s.heard (faultNotices k s) } := recordFault_eq k s

/-- A fault of a struck or lit lamp: recorded, and the lamp in FAULT_COOLING with a full COOL (R15, R17, R18). -/
theorem faultCooling_eq (k : FaultKind) (s : State) : goFaultCooling (recordFault k s) =
    { s with
      lsq := cooled .faultCooling s.settings.cool s.lsq
      lamp := faulted k s
      sto := faultSto k s
      ssw := darkened s.ssw
      lkc := windowClosed s.lkc
      ptc := s.heard (faultNotices k s ++ [.lampState .faultCooling s.lsq.state 0 .fault]) } := by
  rw [goFaultCooling_eq, recordFault_leaves]
  simp

/-- BFAULT in OFF: the fault, the lamp in FAULT and cold, and the power-on held dropped (R17, R31). -/
theorem bfaultRises_off {s : State} (h : s.lsq.state = .off) : ∃ c, bfaultRises s =
    { s with
      lsq := { s.lsq with state := .fault, held := none }
      lamp := cold (faulted .ballast s)
      sto := dirtied .lamp s.sto
      ssw := darkened s.ssw
      lkc := windowClosed s.lkc
      ses := holdEnded s
      ptc := c } := by
  simp only [bfaultRises, h]
  rw [dropHold_eq, lampChange_dark .fault _ _ rfl, if_pos (.inl rfl), recordFault_leaves,
    dirtied_faultSto]
  exact ⟨_, rfl⟩

/-- BFAULT in COOLING: the fault, the lamp in FAULT_COOLING with its timer running on, and the power-on held dropped (R17). -/
theorem bfaultRises_cooling {s : State} (h : s.lsq.state = .cooling) : ∃ c, bfaultRises s =
    { s with
      lsq := { s.lsq with state := .faultCooling, held := none }
      lamp := faulted .ballast s
      sto := faultSto .ballast s
      ssw := darkened s.ssw
      lkc := windowClosed s.lkc
      ses := holdEnded s
      ptc := c } := by
  simp only [bfaultRises, h]
  rw [dropHold_eq, lampChange_dark .faultCooling _ _ rfl, recordFault_leaves]
  exact ⟨_, rfl⟩

theorem bfaultRises_driven {s : State} (h : s.lsq.state = .striking ∨ (s.lsq.state = .warmup ∨ s.lsq.state = .on ∨
    s.lsq.state = .offPending)) : bfaultRises s = goFaultCooling (recordFault .ballast s) := by
  obtain h | h | h | h := h <;> simp [bfaultRises, h]

theorem bfaultRises_faulted {s : State} (h : s.lsq.state = .faultCooling ∨ s.lsq.state = .fault) :
    bfaultRises s = recordFault .ballast s := by
  obtain h | h := h <;> simp [bfaultRises, h]

theorem litRises_striking {s : State} (h : s.lsq.state = .striking) : litRises s =
    { s with
      lsq := { warmed s.settings.warmupTime s.lsq with litTime := 0, litCounting := true }
      ssw := { s.ssw with powerOffSince := false, mute := true }
      ptc := s.heard [.lampState .warmup .striking 0 .line] } := by
  simp [litRises, h, goWarmup_eq, warmed, State.modLsq]

theorem litRises_other {s : State} (h : s.lsq.state ≠ .striking) :
    litRises s = s.modLsq fun q => { q with litTime := 0, litCounting := true } := by
  simp [litRises, h]

theorem litState_iff (x : LampState) : litState x = true ↔ x = .warmup ∨ x = .on ∨ x = .offPending := by
  cases x <;> simp [litState]

theorem litFalls_lit {s : State} (h : litState s.lsq.state = true) : litFalls s =
    { s with
      lsq := { cooled .faultCooling s.settings.cool s.lsq with litTime := 0 }
      lamp := faulted .litLost s
      sto := faultSto .litLost s
      ssw := darkened s.ssw
      lkc := windowClosed s.lkc
      ptc := s.heard (faultNotices .litLost s ++ [.lampState .faultCooling s.lsq.state 0 .fault]) } := by
  simp only [litFalls, State.modLsq_lsq, h, if_true]
  rw [faultCooling_eq]
  rfl

theorem litFalls_other {s : State} (h : litState s.lsq.state = false) :
    litFalls s = s.modLsq fun q => { q with litTime := 0 } := by
  simp [litFalls, h]

end Sys2Proof.Machine

open Sys2Proof Sys2Proof.Machine

/-- Settles O48: the line moves, and a running part acts on it by the state of its lamp. -/
theorem ballastLines : Obligations.BallastLines := by
  unfold Obligations.BallastLines
  intro s
  refine ⟨?_, ?_, ?_, rfl⟩
  · refine settles_whenOperating rfl (fun ho => ?_) fun ho => ?_
    · have ho : s.operating = true := ho
      by_cases hst : s.lsq.state = .striking
      · rw [litRises_striking (by exact hst)]
        refine ⟨rfl, by simp [ho], fun _ h => absurd hst h, fun _ _ => ⟨rfl, rfl, raised_iff.mpr rfl, by simp [keeps_iff]⟩⟩
      · rw [litRises_other (by exact hst)]
        exact ⟨rfl, by simp [ho], fun _ _ => ⟨rfl, by simp [keeps_iff]⟩, fun _ h => absurd h hst⟩
    · have ho : s.operating = false := ho
      exact ⟨rfl, fun _ => ⟨rfl, by simp [keeps_iff]⟩, by simp [ho], by simp [ho]⟩
  · refine settles_whenOperating rfl (fun ho => ?_) fun ho => ?_
    · have ho : s.operating = true := ho
      cases hl : litState s.lsq.state with
      | true =>
        have hs := (litState_iff _).mp hl
        rw [litFalls_lit (by exact hl)]
        refine ⟨rfl, by simp [ho], fun _ h => absurd hs h, fun _ _ => ⟨rfl, rfl, fun hf => ?_, rfl, rfl, by simp [keeps_iff]⟩⟩
        exact ⟨faultSto_first .litLost hf, raised_iff.mpr (congrArg (fun l => s.heard (l ++ _)) (faultNotices_first .litLost s hf))⟩
      | false =>
        have hs := mt (litState_iff s.lsq.state).mpr (by simp [hl])
        rw [litFalls_other (by exact hl)]
        exact ⟨rfl, by simp [ho], fun _ _ => ⟨rfl, by simp [keeps_iff]⟩, fun _ h => absurd h hs⟩
    · have ho : s.operating = false := ho
      exact ⟨rfl, by simp [keeps_iff], by simp [ho], by simp [ho]⟩
  · refine settles_whenOperating rfl (fun ho => ?_) fun ho => ?_
    · have ho : s.operating = true := ho
      cases hst : s.lsq.state
      case off =>
        obtain ⟨c, he⟩ := bfaultRises_off (s := s.modLines fun l => { l with bfault := true }) hst
        rw [he]
        exact ⟨rfl, by simp [ho], fun _ => ⟨rfl, by simp [keeps_iff], fun _ => rfl⟩, by simp, by simp,
          fun _ _ => ⟨rfl, rfl, rfl, rfl⟩, by simp⟩
      case cooling =>
        obtain ⟨c, he⟩ := bfaultRises_cooling (s := s.modLines fun l => { l with bfault := true }) hst
        rw [he]
        exact ⟨rfl, by simp [ho], fun _ => ⟨rfl, by simp [keeps_iff], fun hf => faultSto_first .ballast hf⟩, by simp,
          fun _ _ => ⟨rfl, rfl, rfl, rfl⟩, by simp, by simp⟩
      case striking | warmup | on | offPending =>
        rw [bfaultRises_driven (by simp [hst]), faultCooling_eq]
        exact ⟨rfl, by simp [ho], fun _ => ⟨rfl, by simp [keeps_iff], fun hf => faultSto_first .ballast hf⟩,
          fun _ _ => ⟨rfl, rfl, rfl, rfl⟩, by simp, by simp, by simp⟩
      case faultCooling | fault =>
        rw [bfaultRises_faulted (by simp [hst]), recordFault_leaves]
        exact ⟨rfl, by simp [ho], fun _ => ⟨rfl, by simp [keeps_iff], fun hf => faultSto_first .ballast hf⟩, by simp,
          by simp, by simp, fun _ _ => ⟨rfl, by simp [keeps_iff]⟩⟩
    · have ho : s.operating = false := ho
      exact ⟨rfl, by simp [keeps_iff], by simp [ho], by simp [ho], by simp [ho], by simp [ho], by simp [ho]⟩

end

section
/-! PROOFS. The ends of the guard timers, the release of a held power-on, and the counts (O50 to O52). -/

namespace Sys2Proof.Machine

set_option Elab.async false

/-! ### The attempt timer and the retry gap (R15) -/

theorem attemptExpires_early {s : State} (h : s.lsq.attempt < 3) : attemptExpires s =
    { s with
      lsq := { s.lsq with attemptTimer := none, gapTimer := some 5 }
      lamp := { s.lamp with cur := { s.lamp.cur with failed := countUp 65535 s.lamp.cur.failed } } } := by
  unfold attemptExpires
  rw [if_pos (by exact h)]
  rfl

/-- The third attempt has failed: the failure counted, and an IGNITION fault. -/
theorem attemptExpires_last {s : State} (h : 3 ≤ s.lsq.attempt) : ∃ c, attemptExpires s =
    { s with
      lsq := cooled .faultCooling s.settings.cool s.lsq
      lamp := { faulted .ignition s with cur := { s.lamp.cur with failed := countUp 65535 s.lamp.cur.failed } }
      sto := faultSto .ignition s
      ssw := darkened s.ssw
      lkc := windowClosed s.lkc
      ptc := c } := by
  unfold attemptExpires
  rw [if_neg (by exact Nat.not_lt.mpr h), faultCooling_eq]
  exact ⟨_, rfl⟩

theorem gapExpires_full {s : State} (h : s.windowFull = true) : ∃ c, gapExpires s =
    { s with
      lsq := { cooled .cooling s.settings.cool s.lsq with held := some ⟨s.lsq.ignOrigin, .coolingWindow⟩ }
      ssw := darkened s.ssw
      lkc := windowClosed s.lkc
      ses := if s.lsq.ignOrigin = .timetable then holdMade s else holdEnded s
      ptc := c } := by
  unfold gapExpires
  rw [if_pos h, hold_eq, goCooling_eq]
  exact ⟨_, rfl⟩

theorem gapExpires_lit {s : State} (h : s.windowFull = false) (hl : s.lines.lit = true) :
    gapExpires s = goWarmup .timer s := by
  simp [gapExpires, h, hl]

theorem gapExpires_dark {s : State} (h : s.windowFull = false) (hl : s.lines.lit = false) :
    gapExpires s = nextAttempt s := by
  simp [gapExpires, h, hl]

theorem atZero_of_eq {t : Option Nat} (h : t = some 0) (f : State → State) (s : State) : atZero t f s = f s := if_pos h

/-! ### The cool timer and the release of a held power-on (R9, R16) -/

section

variable {s : State} {h : Held}

theorem releaseHeld_none (hh : s.lsq.held = none) : releaseHeld s = s := by simp [releaseHeld, hh]

theorem releaseHeld_expired (hh : s.lsq.held = some h) (hc : condition s.lamp = .expired) : releaseHeld s =
    { s with
      lsq := { s.lsq with held := none }
      ses := holdEnded s
      ptc := s.heard [.strikeDropped h.origin .expired] } := by
  simp [releaseHeld, hh, hc, dropHold_eq]

theorem releaseHeld_ballast (hh : s.lsq.held = some h) (hc : condition s.lamp ≠ .expired) (hb : s.lines.bfault = true) :
    ∃ c, releaseHeld s =
      { s with
        lsq := { s.lsq with state := .fault, held := none }
        lamp := cold (faulted .ballast s)
        sto := dirtied .lamp s.sto
        ssw := darkened s.ssw
        lkc := windowClosed s.lkc
        ses := holdEnded s
        ptc := c } := by
  simp only [releaseHeld, hh, hc, hb, if_true, if_false]
  rw [dropHold_eq, lampChange_dark .fault _ _ rfl, if_pos (.inl rfl), recordFault_leaves, dirtied_faultSto]
  exact ⟨_, rfl⟩

theorem releaseHeld_lit (hh : s.lsq.held = some h) (hc : condition s.lamp ≠ .expired) (hb : s.lines.bfault = false)
    (hl : s.lines.lit = true) : releaseHeld s = goWarmup .request (endHold s) := by
  simp [releaseHeld, hh, hc, hb, hl]

theorem releaseHeld_full (hh : s.lsq.held = some h) (hc : condition s.lamp ≠ .expired) (hb : s.lines.bfault = false)
    (hl : s.lines.lit = false) (hw : s.windowFull = true) : releaseHeld s =
    { s with
      lsq := { s.lsq with held := some ⟨h.origin, .window⟩ }
      ptc := s.heard [.strikeHeld h.origin .window (s.openingTime .window)] } := by
  simp [releaseHeld, hh, hc, hb, hl, hw, holdStays, raise_eq, State.openingTime, State.windowWait, State.modLsq]

theorem releaseHeld_clear (hh : s.lsq.held = some h) (hc : condition s.lamp ≠ .expired) (hb : s.lines.bfault = false)
    (hl : s.lines.lit = false) (hw : s.windowFull = false) : releaseHeld s = firstAttempt h.origin (endHold s) := by
  simp [releaseHeld, hh, hc, hb, hl, hw]

/-- The lamp at the end of its cool: OFF, cold, with the window's confirm closed (R16, R31). -/
def cooledDown (c : Ptc) (s : State) : State :=
  { s with
    lsq := { s.lsq with state := .off, coolTimer := none }
    lamp := cold s.lamp
    sto := dirtied .lamp s.sto
    ssw := darkened s.ssw
    lkc := windowClosed s.lkc
    ptc := c }

theorem coolExpires_cooling (hs : s.lsq.state = .cooling) : coolExpires s =
    releaseHeld (cooledDown (s.heard [.lampState .off .cooling 0 .timer]) s) := by
  simp only [coolExpires, hs]
  rw [lampChange_dark .off _ _ rfl]
  simp [hs, cooledDown, drivenState, attemptIn]

theorem coolExpires_faultCooling (hs : s.lsq.state = .faultCooling) : coolExpires s =
    { s with
      lsq := { s.lsq with state := .fault, coolTimer := none }
      lamp := cold s.lamp
      sto := dirtied .lamp s.sto
      ssw := darkened s.ssw
      lkc := windowClosed s.lkc
      ptc := s.heard [.lampState .fault .faultCooling 0 .timer] } := by
  simp only [coolExpires, hs]
  rw [lampChange_dark .fault _ _ rfl]
  simp [hs, drivenState, attemptIn]

theorem minOnTest_reached (c : LampCause) (hs : s.lsq.state = .offPending) (hm : s.settings.minOn ≤ s.lsq.litTime) :
    minOnTest c s = goCooling c s := by
  simp [minOnTest, hs, hm]

theorem testHold_released (hs : s.lsq.state = .off) (hh : s.lsq.held ≠ none) (hw : s.windowFull = false) :
    testHold s = releaseHeld s := by
  simp [testHold, hs, hh, hw]

end

/-! ### The counts (R42, R82, R83) -/

theorem nosigOffTest_spent {s : State} (ht : s.ssw.autoOffTest = true) (hd : s.autoOffDue = true) :
    nosigOffTest s = autoOff { s with ssw := { s.ssw with autoOffTest := false } } := by
  simp [nosigOffTest, ht, hd, State.modSsw]

theorem autoOffDue_iff (s : State) : s.autoOffDue = true ↔
    s.nosigRunning = true ∧ s.settings.nosigOff ≠ 0 ∧ s.settings.nosigOff ≤ s.ssw.nosigCount := by
  simp [State.autoOffDue, and_assoc]

end Sys2Proof.Machine

open Sys2Proof Sys2Proof.Machine

/-- Settles O52: each test marks, reports or switches off where its count stands, and otherwise changes nothing. -/
theorem countsReached : Obligations.CountsReached := by
  unfold Obligations.CountsReached
  intro s ho
  refine ⟨?_, ?_, fun h => ?_, fun h₁ h₂ h₃ ht hs => ?_, fun h₁ h₂ h₃ ht hs => ?_⟩
  · exact settles_operating ho rfl ⟨rfl, (markIf_keeps _ _ _).weaken⟩
  · refine settles_operating ho rfl ?_
    simp only [dueTest, nosigDim]
    split
    next h => exact ⟨by simp [h], rfl, (modSsw_keeps _ s).weaken⟩
    next h => exact ⟨by simp [Bool.eq_false_iff.mpr h], rfl, .refl _ s⟩
  · refine settles_operating ho rfl ?_
    have hn : ¬((s.ssw.autoOffTest && s.autoOffDue) = true) := by
      rw [Bool.and_eq_true, autoOffDue_iff]
      rintro ⟨ht, hd⟩
      obtain h | h := h
      · exact h hd
      · simp [h] at ht
    exact if_neg hn
  · refine settles_operating ho rfl ?_
    simp only [dueTest, nosigOffTest_spent ht ((autoOffDue_iff s).mpr ⟨h₁, h₂, h₃⟩)]
    exact if_neg (by simpa using hs)
  · refine settles_operating ho rfl ?_
    simp only [dueTest, nosigOffTest_spent ht ((autoOffDue_iff s).mpr ⟨h₁, h₂, h₃⟩)]
    obtain ⟨m, c, he, -⟩ := takePowerOff_eq { s with ssw := { s.ssw with autoOffTest := false } }
    rw [autoOff, if_pos (by simp [hs]), he]
    refine ⟨rfl, rfl, rfl, rfl, fun h => ?_, by simp [keeps_iff, holdEnded, hs]⟩
    obtain h | h := h <;> simp [lsqAfterOff, h]

/-- Settles O50: an attempt fails, or the gap ends; neither acts before its timer stands at 0. -/
theorem ignitionTimersEnd : Obligations.IgnitionTimersEnd := by
  unfold Obligations.IgnitionTimersEnd
  intro s ho
  constructor
  · refine settles_operating ho rfl ?_
    simp only [dueTest]
    by_cases h0 : s.lsq.attemptTimer = some 0
    case neg =>
      rw [atZero_of_ne h0]
      exact ⟨fun _ => rfl, fun h => absurd h h0, fun h => absurd h h0⟩
    rw [atZero_of_eq h0]
    refine ⟨fun h => absurd h0 h, fun _ ha => ?_, fun _ ha => ?_⟩
    · rw [attemptExpires_early ha]
      exact ⟨rfl, rfl, by simp [keeps_iff]⟩
    · obtain ⟨c, he⟩ := attemptExpires_last ha
      rw [he]
      exact ⟨rfl, rfl, fun hf => faultSto_first .ignition hf, rfl, rfl, by simp [keeps_iff]⟩
  · refine settles_operating ho rfl ?_
    simp only [dueTest]
    by_cases h0 : s.lsq.gapTimer = some 0
    case neg =>
      rw [atZero_of_ne h0]
      exact ⟨fun _ => rfl, fun h => absurd h h0, fun h => absurd h h0, fun h => absurd h h0⟩
    rw [atZero_of_eq h0]
    refine ⟨fun h => absurd h0 h, fun _ hw => ?_, fun _ hw hl => ?_, fun _ hw hl => ?_⟩
    · obtain ⟨c, he⟩ := gapExpires_full hw
      rw [he]
      exact ⟨rfl, rfl, rfl, rfl, by simp [keeps_iff]⟩
    · rw [gapExpires_lit hw hl, goWarmup_eq]
      exact ⟨rfl, rfl, by simp [keeps_iff]⟩
    · rw [gapExpires_dark hw hl, nextAttempt_eq]
      exact ⟨rfl, rfl, rfl, rfl, raised_iff.mpr rfl, by simp [keeps_iff]⟩

/-- Settles O51: each end moves the lamp, and a power-on held then is released by the checks of R6. -/
theorem lampTimersEnd : Obligations.LampTimersEnd := by
  unfold Obligations.LampTimersEnd
  intro h s ho
  refine ⟨?_, ?_, ?_, fun hh h0 hst => ?_, ?_, fun hh hst hw => ?_⟩
  · refine settles_operating ho rfl ?_
    simp only [dueTest]
    by_cases h0 : s.lsq.warmupTimer = some 0
    case neg =>
      rw [atZero_of_ne h0]
      exact ⟨fun _ => rfl, fun h => absurd h h0⟩
    rw [atZero_of_eq h0, warmupExpires, lampChange_lit .on _ _ rfl]
    exact ⟨fun h => absurd h0 h, fun _ => ⟨rfl, rfl, rfl, by simp [keeps_iff]⟩⟩
  · refine settles_operating ho rfl ?_
    simp only [dueTest]
    refine ⟨fun hn => if_neg hn, fun hst hm => ?_⟩
    rw [minOnTest_reached _ hst hm, goCooling_eq, hst]
    exact ⟨rfl, rfl, rfl, raised_iff.mpr rfl, by simp [keeps_iff]⟩
  · refine settles_operating ho rfl ?_
    simp only [dueTest]
    by_cases h0 : s.lsq.coolTimer = some 0
    case neg =>
      rw [atZero_of_ne h0]
      exact ⟨fun _ => rfl, fun h => absurd h h0, fun h => absurd h h0⟩
    rw [atZero_of_eq h0]
    refine ⟨fun h => absurd h0 h, fun _ hst hn => ?_, fun _ hst => ?_⟩
    · rw [coolExpires_cooling hst, releaseHeld_none (by exact hn)]
      exact ⟨rfl, rfl, rfl, raised_iff.mpr rfl, by simp [keeps_iff, cooledDown]⟩
    · rw [coolExpires_faultCooling hst]
      exact ⟨rfl, rfl, rfl, raised_iff.mpr rfl, by simp [keeps_iff]⟩
  · refine settles_operating ho rfl ?_
    simp only [dueTest, atZero_of_eq h0, coolExpires_cooling hst]
    generalize s.heard _ = c
    by_cases hc : condition s.lamp = .expired
    · rw [releaseHeld_expired (h := h) (by exact hh) (by exact hc)]
      refine ⟨by simp [keeps_iff, cooledDown], fun _ => ⟨rfl, rfl, rfl⟩, ?_, ?_, ?_, ?_⟩ <;> exact fun h => absurd hc h
    cases hb : s.lines.bfault
    case true =>
      obtain ⟨c', he⟩ := releaseHeld_ballast (s := cooledDown c s) (h := h) (by exact hh) (by exact hc) (by exact hb)
      rw [he]
      exact ⟨by simp [keeps_iff, cooledDown], fun h => absurd h hc, fun _ _ => ⟨rfl, by simp [cold, faulted], rfl⟩,
        by simp, by simp, by simp⟩
    cases hl : s.lines.lit
    case true =>
      rw [releaseHeld_lit (h := h) (by exact hh) (by exact hc) (by exact hb) (by exact hl), goWarmup_endHold_eq]
      exact ⟨by simp [keeps_iff, cooledDown], fun h => absurd h hc, by simp, fun _ _ _ => ⟨rfl, rfl, rfl⟩, by simp,
        by simp⟩
    cases hw : s.windowFull
    case true =>
      rw [releaseHeld_full (h := h) (by exact hh) (by exact hc) (by exact hb) (by exact hl) (by exact hw)]
      exact ⟨by simp [keeps_iff, cooledDown], fun h => absurd h hc, by simp, by simp, fun _ _ _ _ => ⟨rfl, rfl, rfl⟩,
        by simp⟩
    case false =>
      rw [releaseHeld_clear (h := h) (by exact hh) (by exact hc) (by exact hb) (by exact hl) (by exact hw),
        firstAttempt_endHold_eq]
      exact ⟨by simp [keeps_iff, cooledDown], fun h => absurd h hc, by simp, by simp, by simp,
        fun _ _ _ _ => ⟨rfl, rfl, (dirtied_dirtied _ _ : _), rfl⟩⟩
  · refine settles_operating ho rfl fun hn => ?_
    exact if_neg hn
  · refine settles_operating ho rfl ?_
    simp only [dueTest, testHold_released hst (by simp [hh]) hw]
    by_cases hc : condition s.lamp = .expired
    · rw [releaseHeld_expired hh hc]
      refine ⟨rfl, fun _ => ⟨rfl, raised_iff.mpr rfl, by simp [keeps_iff]⟩, ?_, ?_, ?_⟩ <;> exact fun h => absurd hc h
    cases hb : s.lines.bfault
    case true =>
      obtain ⟨c', he⟩ := releaseHeld_ballast hh hc hb
      rw [he]
      exact ⟨rfl, fun h => absurd h hc, fun _ _ => ⟨rfl, rfl, rfl⟩, by simp, by simp⟩
    cases hl : s.lines.lit
    case true =>
      rw [releaseHeld_lit hh hc hb hl, goWarmup_endHold_eq]
      exact ⟨rfl, fun h => absurd h hc, by simp, fun _ _ _ => ⟨rfl, by simp [keeps_iff]⟩, by simp⟩
    case false =>
      rw [releaseHeld_clear hh hc hb hl hw, firstAttempt_endHold_eq]
      exact ⟨rfl, fun h => absurd h hc, by simp, by simp, fun _ _ _ => ⟨rfl, rfl, rfl, by simp [keeps_iff]⟩⟩

end

section
/-! PROOFS. The second event (O49). -/

namespace Sys2Proof.Machine

set_option Elab.async false

/-! ### What each block counts -/

/-- LAMP after a lit second of `n` units (R25, R28, R29, R31). -/
def litLamp (n : Nat) (r : LampRecord) : LampRecord :=
  { r with cur := addUnits n { r.cur with litSeconds := countUp 4294967295 r.cur.litSeconds, hot := true } }

/-- LSQ's timers and lit time a second on (R2). -/
def lsqCounted (s : State) : Lsq :=
  { s.lsq with
    attemptTimer := s.lsq.attemptTimer.map (· - 1)
    gapTimer := s.lsq.gapTimer.map (· - 1)
    warmupTimer := s.lsq.warmupTimer.map (· - 1)
    coolTimer := s.lsq.coolTimer.map (· - 1)
    litTime := if s.lines.lit = true ∧ s.lsq.litCounting = true then s.lsq.litTime + 1 else s.lsq.litTime }

/-- The no-signal count a second on (R81). -/
def nosigCounted (s : State) : Nat := if s.nosigRunning then countUp 3600 s.ssw.nosigCount else s.ssw.nosigCount

theorem lsqSecond_eq (s : State) : lsqSecond s = { s with lsq := lsqCounted s } := by
  simp [lsqSecond, lsqCounted, State.modLsq]

theorem sswSecond_eq (s : State) : ∃ b, sswSecond s =
    { s with ssw := { s.ssw with
        nosigCount := nosigCounted s, autoOffTest := b, timer := s.ssw.timer.map (· - 1) } } := ⟨_, rfl⟩

theorem litSecond_eq (s : State) : litSecond s =
    { s with
      lamp := litLamp (levelUnits s.powerLevel) s.lamp
      sinceCommit := countUp 360 s.sinceCommit
      sto := if !s.lamp.cur.hot then dirtied .lamp s.sto else s.sto
      ptc := s.heard (conditionNotices s (litLamp (levelUnits s.powerLevel) s.lamp)) } := by
  have hl : (s.modLamp (modCur fun c => addUnits (levelUnits s.powerLevel)
      { c with litSeconds := countUp Config.litSecondsMax c.litSeconds, hot := true })) =
      { s with lamp := litLamp (levelUnits s.powerLevel) s.lamp } := rfl
  unfold litSecond evaluated conditionNotices
  simp only [hl, markIf_eq]
  split
  next hn => rw [hn]; rfl
  next n hn => rw [hn]; rfl

/-- The counts of a second, nothing taken before LLC. -/
theorem counted_eq (s : State) : ∃ b, sswSecond (lsqSecond s) =
    { s with
      lsq := lsqCounted s
      ssw := { s.ssw with nosigCount := nosigCounted s, autoOffTest := b, timer := s.ssw.timer.map (· - 1) } } := by
  obtain ⟨b, h⟩ := sswSecond_eq (lsqSecond s)
  exact ⟨b, by rw [h, lsqSecond_eq]; rfl⟩

theorem llcSecond_lit {s : State} (h : s.lines.lit = true) : llcSecond s = litSecond s := if_pos h

theorem llcSecond_dark {s : State} (h : s.lines.lit = false) : llcSecond s = s := if_neg (by simp [h])

/-! ### What no end of a timer changes -/

/-- The lines, the uptime, the lit seconds and the lit seconds since commit stand. -/
structure KeepsCounts (s t : State) : Prop where
  lines : t.lines = s.lines
  uptime : t.uptime = s.uptime
  sinceCommit : t.sinceCommit = s.sinceCommit
  litSeconds : t.lamp.cur.litSeconds = s.lamp.cur.litSeconds

theorem KeepsCounts.refl (s : State) : KeepsCounts s s := ⟨rfl, rfl, rfl, rfl⟩

theorem KeepsCounts.trans {s t u : State} (h₁ : KeepsCounts s t) (h₂ : KeepsCounts t u) : KeepsCounts s u :=
  ⟨h₂.lines.trans h₁.lines, h₂.uptime.trans h₁.uptime, h₂.sinceCommit.trans h₁.sinceCommit,
    h₂.litSeconds.trans h₁.litSeconds⟩

@[simp] theorem addUnits_litSeconds (n : Nat) (c : CurrentLamp) : (addUnits n c).litSeconds = c.litSeconds := by
  unfold addUnits
  split
  · rfl
  · split <;> rfl

@[simp] theorem addUnits_hot (n : Nat) (c : CurrentLamp) : (addUnits n c).hot = c.hot := by
  unfold addUnits
  split
  · rfl
  · split <;> rfl

theorem litLamp_hot (n : Nat) (r : LampRecord) : (litLamp n r).cur.hot = true := addUnits_hot _ _

theorem charged_litSeconds (r : LampRecord) : (charged r).cur.litSeconds = r.cur.litSeconds := addUnits_litSeconds _ _

section

variable {s : State}

theorem goCooling_counts (c : LampCause) : KeepsCounts s (goCooling c s) := by
  rw [goCooling_eq]
  exact ⟨rfl, rfl, rfl, rfl⟩

theorem goWarmup_counts (c : LampCause) : KeepsCounts s (goWarmup c (endHold s)) := by
  rw [goWarmup_endHold_eq]
  exact ⟨rfl, rfl, rfl, rfl⟩

theorem firstAttempt_counts (o : Origin) : KeepsCounts s (firstAttempt o (endHold s)) := by
  rw [firstAttempt_endHold_eq]
  exact ⟨rfl, rfl, rfl, charged_litSeconds _⟩

theorem releaseHeld_counts : KeepsCounts s (releaseHeld s) := by
  cases hh : s.lsq.held with
  | none =>
    rw [releaseHeld_none hh]
    exact .refl s
  | some h =>
    by_cases hc : condition s.lamp = .expired
    · rw [releaseHeld_expired hh hc]
      exact ⟨rfl, rfl, rfl, rfl⟩
    cases hb : s.lines.bfault
    case true =>
      obtain ⟨c, he⟩ := releaseHeld_ballast hh hc hb
      rw [he]
      exact ⟨rfl, rfl, rfl, rfl⟩
    cases hl : s.lines.lit
    case true =>
      rw [releaseHeld_lit hh hc hb hl]
      exact goWarmup_counts _
    cases hw : s.windowFull
    case true =>
      rw [releaseHeld_full hh hc hb hl hw]
      exact ⟨rfl, rfl, rfl, rfl⟩
    case false =>
      rw [releaseHeld_clear hh hc hb hl hw]
      exact firstAttempt_counts _

theorem attemptExpires_counts : KeepsCounts s (attemptExpires s) := by
  by_cases h : s.lsq.attempt < 3
  · rw [attemptExpires_early h]
    exact ⟨rfl, rfl, rfl, rfl⟩
  · obtain ⟨c, he⟩ := attemptExpires_last (Nat.le_of_not_lt h)
    rw [he]
    exact ⟨rfl, rfl, rfl, rfl⟩

theorem gapExpires_counts : KeepsCounts s (gapExpires s) := by
  cases hw : s.windowFull
  case true =>
    obtain ⟨c, he⟩ := gapExpires_full hw
    rw [he]
    exact ⟨rfl, rfl, rfl, rfl⟩
  cases hl : s.lines.lit
  case true =>
    rw [gapExpires_lit hw hl, goWarmup_eq]
    exact ⟨rfl, rfl, rfl, rfl⟩
  case false =>
    rw [gapExpires_dark hw hl, nextAttempt_eq]
    exact ⟨rfl, rfl, rfl, charged_litSeconds _⟩

theorem coolExpires_counts : KeepsCounts s (coolExpires s) := by
  by_cases h₁ : s.lsq.state = .cooling
  · rw [coolExpires_cooling h₁]
    exact .trans (t := cooledDown _ s) ⟨rfl, rfl, rfl, rfl⟩ releaseHeld_counts
  by_cases h₂ : s.lsq.state = .faultCooling
  · rw [coolExpires_faultCooling h₂]
    exact ⟨rfl, rfl, rfl, rfl⟩
  · unfold coolExpires
    split
    next h => exact absurd h h₁
    next h => exact absurd h h₂
    next => exact ⟨rfl, rfl, rfl, rfl⟩

theorem autoOff_counts : KeepsCounts s (autoOff s) := by
  unfold autoOff
  split
  · obtain ⟨m, c, he, -⟩ := takePowerOff_eq s
    rw [he]
    exact ⟨rfl, rfl, rfl, rfl⟩
  · exact .refl s

theorem dueTest_counts (x : DueTest) : KeepsCounts s (dueTest x s) := by
  have hz {t : Option Nat} {f : State → State} (h : KeepsCounts s (f s)) : KeepsCounts s (atZero t f s) := by
    unfold atZero
    split
    · exact h
    · exact .refl s
  cases x
  case attempt => exact hz attemptExpires_counts
  case retryGap => exact hz gapExpires_counts
  case warmup =>
    refine hz ?_
    rw [warmupExpires, lampChange_lit .on _ _ rfl]
    exact ⟨rfl, rfl, rfl, rfl⟩
  case cool => exact hz coolExpires_counts
  case minOn =>
    simp only [dueTest, minOnTest]
    split
    · exact goCooling_counts _
    · exact .refl s
  case holdRelease =>
    simp only [dueTest, testHold]
    split
    · exact releaseHeld_counts
    · exact .refl s
  case nosigDim =>
    simp only [dueTest, nosigDim]
    split
    · exact ⟨rfl, rfl, rfl, rfl⟩
    · exact .refl s
  case nosigOff =>
    simp only [dueTest, nosigOffTest]
    split
    · exact .trans (t := s.modSsw _) ⟨rfl, rfl, rfl, rfl⟩ autoOff_counts
    · exact .refl s

theorem dueTests_counts (l : List DueTest) (s : State) : KeepsCounts s (l.foldl (fun s x => dueTest x s) s) := by
  induction l generalizing s with
  | nil => exact .refl s
  | cons x l ih => exact (dueTest_counts x).trans (ih _)

end

/-- Whatever ends before LLC counts, the lit seconds count alike. -/
theorem secondTaken_counts (l : List DueTest) (s : State) :
    (secondTaken l s).uptime = s.uptime ∧
    (secondTaken l s).lamp.cur.litSeconds =
      (if s.lines.lit = true then countUp 4294967295 s.lamp.cur.litSeconds else s.lamp.cur.litSeconds) ∧
    (secondTaken l s).sinceCommit = (if s.lines.lit = true then countUp 360 s.sinceCommit else s.sinceCommit) := by
  obtain ⟨b, hc⟩ := counted_eq s
  obtain ⟨hl, hu, hs, hn⟩ := dueTests_counts l (sswSecond (lsqSecond s))
  unfold secondTaken
  generalize l.foldl (fun s x => dueTest x s) (sswSecond (lsqSecond s)) = t at hl hu hs hn ⊢
  rw [hc] at hl hu hs hn
  have hl : t.lines.lit = s.lines.lit := congrArg _ hl
  cases h : s.lines.lit with
  | true =>
    rw [llcSecond_lit (hl.trans h), litSecond_eq]
    simp [litLamp, hu, hs, hn]
  | false =>
    rw [llcSecond_dark (hl.trans h)]
    simp [hu, hs, hn]

theorem exec_secondEvent (l : List DueTest) (s : State) : exec (.secondEvent l) s =
    .next (if s.powered then whenOperating (secondTaken l) (s.modUptime (· + 1)) else s) := rfl

/-- A second event in the running part settles as the blocks take it. -/
theorem settles_second {l : List DueTest} {s : State} {P : State → Prop} (ho : s.operating = true)
    (h : P (secondTaken l (s.modUptime (· + 1)))) : Settles (.secondEvent l) s P := by
  have hp : s.powered = true := by
    simp only [State.operating, Bool.and_eq_true] at ho
    exact ho.1
  refine settles_operating (t := s.modUptime (· + 1)) ho ?_ h
  rw [exec_secondEvent, if_pos hp]

/-- One end of a timer, or a test, taken early. -/
theorem secondTaken_early (x : DueTest) (s : State) : ∃ b, secondTaken [x] s = llcSecond (dueTest x
    { s with
      lsq := lsqCounted s
      ssw := { s.ssw with nosigCount := nosigCounted s, autoOffTest := b, timer := s.ssw.timer.map (· - 1) } }) := by
  obtain ⟨b, hc⟩ := counted_eq s
  exact ⟨b, by rw [secondTaken_one, hc]⟩

theorem levelUnits_eq (l : PowerLevel) : levelUnits l = if l = .full then 8 else if l = .eco then 5 else 4 := by
  cases l <;> rfl

theorem nosigDim_reached {s : State} (hr : s.nosigRunning = true) (h0 : s.settings.nosigDim ≠ 0)
    (hn : s.settings.nosigDim ≤ s.ssw.nosigCount) : nosigDim s = { s with ssw := { s.ssw with dimReport := true } } := by
  simp [nosigDim, hr, h0, hn, State.modSsw]

/-- The units of the level in force, the lamp neither STRIKING nor in WARMUP (R21, R25). -/
theorem levelUnits_lit {s : State} (h₁ : s.lsq.state ≠ .striking) (h₂ : s.lsq.state ≠ .warmup) :
    levelUnits s.powerLevel =
      (if s.ssw.dimReport = true ∧ s.settings.autoDim = true then 4
       else if s.settings.mode = .full ∧ s.settings.ceiling = .full then 8 else 5) := by
  unfold State.powerLevel
  split
  next h => exact absurd h h₁
  next h => exact absurd h h₂
  next =>
    cases hd : s.ssw.dimReport && s.settings.autoDim with
    | true => simp_all [levelUnits]
    | false =>
      have hn : ¬(s.ssw.dimReport = true ∧ s.settings.autoDim = true) := by simpa using hd
      rw [if_neg (by simp), if_neg hn]
      cases s.settings.mode <;> cases s.settings.ceiling <;> rfl

end Sys2Proof.Machine

open Sys2Proof Sys2Proof.Machine

/-- Settles O49: the blocks count, and LLC weighs the second with what an early end has left. -/
theorem secondEventCounts : Obligations.SecondEventCounts := by
  unfold Obligations.SecondEventCounts
  intro d s
  refine ⟨fun hp => ?_, fun hp ho => ?_, fun ho => ?_, fun ho => ?_, fun ho hl hst ha hr h0 hn => ?_,
    fun ho hl hst hw => ?_, fun ho hl hc hst => ?_⟩
  · rw [exec_secondEvent, if_neg (by simp [hp])]
  · rw [exec_secondEvent, if_pos hp, whenOperating, if_neg (by simpa [State.operating, State.powered] using ho)]
    rfl
  · refine settles_second ho ?_
    obtain ⟨b, hc⟩ := counted_eq (s.modUptime (· + 1))
    rw [secondTaken_nil, hc]
    cases hl : s.lines.lit
    case false =>
      rw [llcSecond_dark (by exact hl)]
      exact ⟨rfl, by simp [lsqCounted, hl], rfl, rfl, rfl, fun _ => by simp [keeps_iff], by simp⟩
    case true =>
      rw [llcSecond_lit (by exact hl), litSecond_eq]
      refine ⟨rfl, by simp [lsqCounted, hl], rfl, rfl, rfl, by simp, fun _ =>
        ⟨?_, rfl, ?_, raised_iff.mpr rfl, by simp [keeps_iff]⟩⟩
      · change litLamp (levelUnits s.powerLevel) s.lamp = _
        rw [levelUnits_eq]
        rfl
      · rw [markIf_eq]
        rfl
  · exact settles_second ho (secondTaken_counts d (s.modUptime (· + 1)))
  · refine settles_second ho ?_
    obtain ⟨b, hc⟩ := secondTaken_early .nosigDim (s.modUptime (· + 1))
    have hn' : s.settings.nosigDim ≤ nosigCounted (s.modUptime (· + 1)) := by
      rw [nosigCounted, if_pos (by exact hr)]
      exact hn
    simp only [hc, dueTest]
    rw [nosigDim_reached (by exact hr) (by exact h0) (by exact hn'), llcSecond_lit (by exact hl), litSecond_eq]
    refine ⟨rfl, ?_⟩
    rw [levelUnits_lit, if_pos ⟨rfl, ha⟩]
    · rfl
    · obtain h | h := hst <;> simp [lsqCounted, h]
    · obtain h | h := hst <;> simp [lsqCounted, h]
  · refine settles_second ho ?_
    obtain ⟨b, hc⟩ := secondTaken_early .warmup (s.modUptime (· + 1))
    simp only [hc, dueTest]
    rw [atZero_of_eq (by simp [lsqCounted, hw]), warmupExpires, lampChange_lit .on _ _ rfl, llcSecond_lit (by exact hl),
      litSecond_eq]
    refine ⟨rfl, rfl, ?_⟩
    rw [levelUnits_lit (by simp) (by simp)]
    rfl
  · refine settles_second ho ?_
    obtain ⟨b, hx⟩ := secondTaken_early .cool (s.modUptime (· + 1))
    simp only [hx, dueTest]
    rw [atZero_of_eq (by simp [lsqCounted, hc])]
    obtain ⟨hs, hh⟩ | hs := hst
    · rw [coolExpires_cooling (by exact hs), releaseHeld_none (by exact hh), llcSecond_lit (by exact hl), litSecond_eq]
      exact ⟨by simp [hs, cooledDown], rfl, litLamp_hot _ _, by simp [cooledDown, cold, mem_dirtied]⟩
    · rw [coolExpires_faultCooling (by exact hs), llcSecond_lit (by exact hl), litSecond_eq]
      exact ⟨by simp [hs], rfl, litLamp_hot _ _, by simp [cold, mem_dirtied]⟩

end

section
/-! PROOFS. The reads (O43). -/

namespace Sys2Proof.Machine

set_option Elab.async false

/-- A request of class READ passes the check whatever the effective level (R107). -/
theorem taken_read {p : PortId} {o : Byte} {a : Origin} {r : Request} {s : State} (hf : Free p s)
    (ha : originOn p o = some a) (hk : kindClass (requestKind r) = .read) (hn : narrowed r a = true) :
    Taken p o a r s := by
  have hu : userOrigin a = true := by
    cases p
    case e =>
      simp only [originOn, eOriginOf] at ha
      split at ha
      · cases ha; rfl
      split at ha
      · cases ha; rfl
      · cases ha
    all_goals cases ha; rfl
  refine ⟨hf, ha, ?_⟩
  rw [checkPasses, hk, hn]
  cases a <;> simp [userOrigin] at hu <;> rfl

/-- A read whose owner answers without acting. -/
theorem settles_read {c : Instr} {p : PortId} {o : Byte} {a : Origin} {r : Request} {s : State} {st : Status}
    {l : List Byte} (hf : Free p s) (ha : originOn p o = some a) (hk : kindClass (requestKind r) = .read)
    (hn : narrowed r a = true) (hc : exec c s = .next (requestArrives p o r s)) (he : ownerAct p a r s = (s, ⟨st, l⟩)) :
    Settles c s fun u => OnlyReplied p (kindCode (requestKind r)) st l s u := by
  refine settles_request (taken_read hf ha hk hn) hc ?_
  rw [he]
  exact onlyReplied_hasReply _ _ _ _

/-- An absent value reads as FFh (R189). -/
theorem optByte_eq {α : Type} (f : α → Byte) (x : Option α) : optByte f x = (x.map f).getD 0xFF := by
  cases x <;> rfl

theorem optHalf_eq (x : Option Nat) : optHalf x = (x.map byte2).getD [0xFF, 0xFF] := by
  cases x <;> rfl

theorem optHalf_length (x : Option Nat) : (optHalf x).length = 2 := by
  cases x <;> rfl

/-- The bytes that name an index carry it. -/
theorem finByte_of_toNat {n : Nat} {b : Byte} {i : Fin n} (h : b.toNat = i.val) : finByte i = b := by
  apply BitVec.eq_of_toNat_eq
  simp [finByte, byte1, ← h]

end Sys2Proof.Machine

open Sys2Proof Sys2Proof.Machine

/-- Settles O43: each read's owner answers from the state as it stands, field by field. -/
theorem readsChangeNothing : Obligations.ReadsChangeNothing := by
  unfold Obligations.ReadsChangeNothing
  intro p o a b i k j s hf ha
  refine ⟨?_, ?_, fun hb => ?_, fun hb => ?_, ?_, fun hb => ?_, fun hb => ?_, ?_, fun hb => ?_, ?_, ?_, ?_, fun hb => ?_,
    fun hb => ?_, fun hb => ?_, ?_⟩
  · refine settles_read (r := .statusRead) hf ha rfl rfl rfl ?_
    simp only [ownerAct, statusReadRequest, statusLamp, statusPicture, statusRoom, Answer.doneWith, optByte_eq, optHalf_eq,
      State.storeBusy, Option.map_map, Function.comp_def]
    cases s.lsq.held <;> cases s.ssw.record <;> cases s.ses <;> rfl
  · exact settles_read (r := .lampRead) hf ha rfl rfl rfl rfl
  · refine settles_read (r := .historyRead b) hf ha rfl rfl rfl ?_
    rw [ownerAct, historyReadRequest, if_pos (by exact hb)]
    rfl
  · refine settles_read (r := .historyRead b) hf ha rfl rfl rfl ?_
    rw [ownerAct, historyReadRequest, if_neg (by exact Nat.not_le.mpr (Nat.lt_succ_of_le hb))]
    cases s.lamp.history[b.toNat]? <;> rfl
  · exact settles_read (r := .faultRead) hf ha rfl rfl rfl rfl
  · refine settles_read (r := .inputRead b) hf ha rfl rfl rfl ?_
    rw [ownerAct, inputReadRequest, (indexOf_eq_none 6 b).mpr hb]
    rfl
  · refine settles_read (r := .timingRead b) hf ha rfl rfl rfl ?_
    rw [ownerAct, timingReadRequest, (indexOf_eq_none 24 b).mpr hb]
    rfl
  · refine settles_read (r := .geometryRead) hf ha rfl rfl rfl ?_
    rw [ownerAct, geometryReadRequest]
    cases s.geo.active <;> rfl
  · refine settles_read (r := .entryRead b) hf ha rfl rfl rfl ?_
    rw [ownerAct, entryReadRequest, (indexOf_eq_none 48 b).mpr hb]
    rfl
  · exact settles_read (r := .holidayRead) hf ha rfl rfl rfl rfl
  · exact settles_read (r := .sessionRead) hf ha rfl rfl rfl rfl
  · exact settles_read (r := .timeRead) hf ha rfl rfl rfl rfl
  · refine settles_read (r := .inputRead b) hf ha rfl rfl rfl ?_
    rw [ownerAct, inputReadRequest, (indexOf_eq_some 6 b i).mpr hb]
    dsimp only
    rw [finByte_of_toNat hb]
    simp only [Answer.doneWith, beq_iff_eq]
    rfl
  · refine settles_read (r := .timingRead b) hf ha rfl rfl rfl ?_
    rw [ownerAct, timingReadRequest, (indexOf_eq_some 24 b k).mpr hb]
    dsimp only
    rw [finByte_of_toNat hb]
    rfl
  · refine settles_read (r := .entryRead b) hf ha rfl rfl rfl ?_
    rw [ownerAct, entryReadRequest, (indexOf_eq_some 48 b j).mpr hb]
    dsimp only
    rw [finByte_of_toNat hb, TimetableRecord.occupied, ← List.countP_eq_length_filter]
    cases s.timetable.slots[j] <;> rfl
  · simp [statusLamp, statusPicture, statusRoom, byte2, optHalf_length]

end

section
/-! PROOFS. The state after reset (O2, O3) and the lines every state drives. -/

namespace Sys2Proof.Machine

set_option Elab.async false

/-! ### The output lines of every state (R1, R21, R62, R170) -/

theorem ignite_iff (s : State) :
    s.ignite = true ↔
      s.operating = true ∧ s.lsq.state = .striking ∧ s.lsq.attemptTimer ≠ none ∧ s.lines.lit = false := by
  simp [State.ignite, and_assoc, Option.isSome_iff_ne_none]

theorem powerLevel_driven {s : State} (h : s.lsq.state = .striking ∨ s.lsq.state = .warmup) : s.powerLevel = .full := by
  obtain h | h := h <;> simp [State.powerLevel, h]

theorem powerLevel_otherwise {s : State} (hs : s.lsq.state ≠ .striking) (hw : s.lsq.state ≠ .warmup) :
    s.powerLevel =
      (if s.ssw.dimReport = true ∧ s.settings.autoDim = true then .dim
         else if s.settings.mode = .full ∧ s.settings.ceiling = .full then .full else .eco) := by
  have hm : lowerMode s.settings.mode s.settings.ceiling
      = if s.settings.mode = .full ∧ s.settings.ceiling = .full then .full else .eco := by
    cases s.settings.mode <;> cases s.settings.ceiling <;> rfl
  unfold State.powerLevel
  split
  · exact absurd ‹_› hs
  · exact absurd ‹_› hw
  · simp [hm]

theorem drivenState_iff (x : LampState) :
    drivenState x = true ↔ x = .striking ∨ x = .warmup ∨ x = .on ∨ x = .offPending := by
  cases x <;> decide

theorem plev_driven {s : State} (ho : s.operating = true) (hd : drivenState s.lsq.state = true) :
    s.plev = (if s.powerLevel = .full then 3 else if s.powerLevel = .eco then 2 else 1) := by
  rw [State.plev, ho, hd]
  cases s.powerLevel <;> rfl

theorem plev_undriven {s : State} (h : s.operating = false ∨ ¬drivenState s.lsq.state = true) : s.plev = 0 :=
  if_neg (by obtain h | h := h <;> simp [h])

theorem fan_iff {s : State} (h : s.lines.supply = true) :
    s.fan = false ↔ s.operating = true ∧ (s.lsq.state = .off ∨ s.lsq.state = .fault) := by
  simp [State.fan, h, or_iff_not_imp_left]

theorem attn_iff (s : State) :
    s.attn = true ↔
      s.operating = true ∧ s.lines.engRst = false ∧ (s.ptc.e.reply ≠ none ∨ s.ptc.e.queue ≠ []) := by
  simp [State.attn, and_assoc, Option.isSome_iff_ne_none]

end Sys2Proof.Machine

open Sys2Proof Sys2Proof.Machine

/-- Settles O2: the values are read off the reset state; the lines by the equations above. -/
theorem resetValues : Obligations.ResetValues := by
  unfold Obligations.ResetValues
  refine ⟨rfl, rfl, rfl, rfl, rfl, rfl, rfl, rfl, rfl, rfl, rfl, rfl, rfl, rfl, rfl, rfl, rfl, fun i => by simp [State.reset, resetInm, resetDebouncer], rfl, rfl, rfl,
    rfl, rfl, rfl, rfl, rfl, rfl, rfl, rfl, rfl, rfl, rfl, rfl, rfl, rfl, rfl, rfl, rfl, rfl, rfl, rfl,
    fun p => by cases p <;> rfl, rfl, rfl, rfl, rfl, rfl, rfl, rfl, rfl, rfl, rfl, rfl, rfl, fun s => ?_⟩
  simp only [← drivenState_iff]
  refine ⟨ignite_iff s, powerLevel_driven, powerLevel_otherwise, plev_driven, plev_undriven, fan_iff, fun i hi => ?_,
    fun hn => ?_, attn_iff s⟩
  · rw [State.xsel, hi]
  · rw [State.xsel, hn]

/-- Settles O3: each law is evaluated on the reset state. -/
theorem resetMeetsLaws : Obligations.ResetMeetsLaws := by
  unfold Obligations.ResetMeetsLaws
  decide

end

section
/-! PROOFS. The keypad (O56). -/

namespace Sys2Proof.Machine

set_option Elab.async false

/-! ### A press of KP_POWER, by its outcome (R118, R119) -/

section

variable {s : State}

theorem powerPress_denied (h : s.keypadPasses .power = false) : powerPress s =
    { s with
      lkc := windowClosed s.lkc
      ptc := s.heard [.keypadDenied .power s.denialCause s.effLevel] } := by
  simp [powerPress, h, setConfirm, raiseDenied, raise_eq, windowClosed, State.modLkc]

theorem powerPress_asks (h : s.keypadPasses .power = true) (hd : drivenState s.lsq.state = true)
    (hc : s.lkc.confirmOpen = false) : powerPress s =
    { s with
      lkc := { s.lkc with confirmOpen := true }
      ptc := s.heard [.keypadConfirm s.lsq.state 5] } := by
  simp [powerPress, powerPressAllowed, h, hd, hc, setConfirm, raise_eq, State.modLkc, Config.confirmSeconds]

theorem powerPress_off (h : s.keypadPasses .power = true) (hd : drivenState s.lsq.state = true)
    (hc : s.lkc.confirmOpen = true) : powerPress s = (userPowerOff { s with lkc := windowClosed s.lkc }).1 := by
  simp [powerPress, powerPressAllowed, h, hd, hc, setConfirm, windowClosed, State.modLkc]

theorem powerPress_on (h : s.keypadPasses .power = true) (hd : drivenState s.lsq.state = false) :
    powerPress s = (userPowerOn .keypad s).1 := by
  simp [powerPress, powerPressAllowed, h, hd]

end

theorem userPowerOn_keeps (o : Origin) (s : State) : Keeps powerParts s (userPowerOn o s).1 := by
  unfold userPowerOn
  dsimp only
  split
  · exact takePowerOn_keeps o s
  · exact ((takePowerOn_keeps o s).seq (openManual_keeps _ _)).ite (takePowerOn_keeps o s)

theorem userPowerOff_keeps (s : State) : Keeps powerParts s (userPowerOff s).1 :=
  (takePowerOff_keeps s).seq (closeThenLate_keeps _ _)

/-- No press of KP_POWER reaches KPI: the buttons stand as the command gave them. -/
theorem powerPress_keeps (s : State) : Keeps powerParts s (powerPress s) :=
  ((((setConfirm_keeps _ s).seq (c := powerParts) (userPowerOff_keeps _)).ite
      ((setConfirm_keeps _ s).seq (raise_keeps _ _))).ite (userPowerOn_keeps _ s)).ite
    ((raise_keeps _ s).seq (setConfirm_keeps _ _))

theorem axisPress_keeps (s : State) : Keeps [.geo, .ports] s (axisPress s) :=
  (modGeo_keeps _ s).weaken.ite (raise_keeps _ s).weaken

theorem sourcePress_keeps (s : State) : Keeps pictureParts s (sourcePress s) := by
  unfold sourcePress
  split
  · exact .refl _ s
  · exact sswSelect_keeps _ _ s

section

variable {s : State}

theorem axisPress_denied (h : s.keypadPasses .geometry = false) :
    axisPress s = { s with ptc := s.heard [.keypadDenied .axis s.denialCause s.effLevel] } := by
  simp [axisPress, h, raiseDenied, raise_eq]

theorem axisPress_allowed (h : s.keypadPasses .geometry = true) : axisPress s =
    { s with geo := { s.geo with axis := if s.geo.axis = .v then .h else .v, dialAcc := 0, denial := false } } := by
  have ha : otherAxis s.geo.axis = if s.geo.axis = .v then .h else .v := by cases s.geo.axis <;> rfl
  simp [axisPress, h, toggleAxis, State.modGeo, ha]

end

/-! ### A SELECT that begins a training (R65) -/

/-- The path of an input whose training begins is TRAINING. -/
theorem beginTraining_path (k : SwitchKind) (o : Origin) (i : Fin 6) (s : State) :
    (beginTraining k o i s).inm.path[i] = .training := by
  unfold beginTraining
  dsimp only
  have hr (r : Option SwitchRecord) (t : State) : (raiseSource r t).inm = t.inm :=
    raiseSource_keeps r t .inm (by decide)
  simp [hr, seek, modMon, setPath]

/-- A preset applied to a path that is not LOCKED leaves SSW as it is. -/
theorem applyPreset_ssw_of_unlocked (c : WarpCause) {s : State} (h : s.locked = false) : (applyPreset c s).ssw = s.ssw := by
  unfold applyPreset recompute
  split
  · rfl
  next i hi =>
    have hn : ¬s.locked = true := by simp [h]
    simp only [State.modGeo_ssw, hi]
    rw [if_neg (by exact hn)]
    unfold takeWarp takeReported
    dsimp only
    rw [if_neg (by exact hn)]
    rfl

/-- A SELECT of an enabled input that is not the one LOCKED begins its training (R65). -/
theorem sswSelect_begins (o : Origin) {i : Fin 6} {s : State} (he : s.inputs.entries[i].enabled = true)
    (hl : ¬(s.ssw.selected = some i ∧ s.locked = true)) :
    (sswSelect o i s).1.ssw = trainingSsw i o .select s.settings.switchTimeout (scanless s.ssw) ∧
    (sswSelect o i s).1.inm.path[i] = .training := by
  have hs : sswSelect o i s = (applyPreset .select (beginTraining .select o i (endScan s)), .accepted) := by
    simp only [sswSelect, he, if_neg hl]
    rfl
  have hb := beginTraining_ssw .select o i (endScan s)
  have hp := beginTraining_path .select o i (endScan s)
  have hn : (beginTraining .select o i (endScan s)).locked = false := by
    have hq : (beginTraining .select o i (endScan s)).selPath = some .training := by
      rw [State.selPath, hb]
      exact congrArg some hp
    simp [State.locked, hq]
  have hi : (applyPreset .select (beginTraining .select o i (endScan s))).inm = (beginTraining .select o i (endScan s)).inm :=
    applyPreset_keeps _ _ .inm (by decide)
  rw [hs, applyPreset_ssw_of_unlocked _ hn, hb, hi]
  exact ⟨rfl, hp⟩

theorem sswSelect_idle (o : Origin) {i : Fin 6} {s : State}
    (h : s.inputs.entries[i].enabled = false ∨ s.ssw.selected = some i ∧ s.locked = true) : (sswSelect o i s).1 = s := by
  unfold sswSelect
  by_cases he : s.inputs.entries[i].enabled = true
  · have hl := h.resolve_left (by rw [he]; decide)
    rw [he, if_pos hl]
    rfl
  · rw [Bool.eq_false_iff.mpr he]
    rfl

theorem sourcePress_eq {i : Fin 6} {s : State} (h : s.ssw.selected = some i) :
    sourcePress s = (sswSelect .keypad (s.pressNames i) s).1 := by
  simp [sourcePress, h]

/-! ### The input a press of KP_SOURCE names (R78) -/

/-- The inputs after `i` are those one to five places on. -/
theorem inputsAfter_eq (i : Fin 6) : inputsAfter i = (List.range' 1 5).map fun n => Fin.ofNat 6 (i.val + n) := by
  revert i
  decide

theorem pressNames_eq (s : State) (i : Fin 6) : s.pressNames i =
    (((List.range' 1 5).find? fun n => s.attached (Fin.ofNat 6 (i.val + n))).map
      fun n => Fin.ofNat 6 (i.val + n)).getD i := by
  rw [State.pressNames, inputsAfter_eq, List.find?_map]
  rfl

theorem pressNames_first {s : State} {i : Fin 6} {n : Nat} (h0 : 0 < n) (h6 : n < 6)
    (hn : s.attached (Fin.ofNat 6 (i.val + n)) = true)
    (hm : ∀ m : Nat, 0 < m → m < n → s.attached (Fin.ofNat 6 (i.val + m)) = false) :
    s.pressNames i = Fin.ofNat 6 (i.val + n) := by
  have hf : ((List.range' 1 5).find? fun n => s.attached (Fin.ofNat 6 (i.val + n))) = some n :=
    List.find?_range'_eq_some.mpr
      ⟨hn, List.mem_range'_1.mpr ⟨h0, h6⟩, fun j h₁ h₂ => by rw [hm j h₁ h₂]; rfl⟩
  rw [pressNames_eq, hf]
  rfl

theorem pressNames_self {s : State} {i : Fin 6}
    (h : ∀ n : Nat, 0 < n → n < 6 → s.attached (Fin.ofNat 6 (i.val + n)) = false) : s.pressNames i = i := by
  have hf : ((List.range' 1 5).find? fun n => s.attached (Fin.ofNat 6 (i.val + n))) = none :=
    List.find?_range'_eq_none.mpr fun j h₁ h₂ => by rw [h j h₁ h₂]; rfl
  rw [pressNames_eq, hf]
  rfl

/-! ### A POWER_ON where the lamp is neither driven nor cooling -/

/-- In OFF and the fault states a user POWER_ON leaves LSQ and its reports as the lamp's checks say (R6, R8, R85, R150). -/
theorem userPowerOn_undriven {o : Origin} (ho : o ≠ .timetable) {s : State} (hd : drivenState s.lsq.state = false)
    (hc : s.lsq.state ≠ .cooling) (hp : pictureFits s = true) :
    (userPowerOn o s).1.lsq = lsqAfterOn o s ∧
    ((powerReport s).1 = .lampRefused →
      (userPowerOn o s).1.ssw = (if (userPowerOn o s).1.lsq = s.lsq then s.ssw else darkened s.ssw) ∧
        (userPowerOn o s).1.inm = s.inm) ∧
    ((powerReport s).1 ≠ .lampRefused → (userPowerOn o s).1.inm = firstInm s ∧
      (userPowerOn o s).1.ses = sesAfterOn s (holdEnded s) ∧
      (userPowerOn o s).1.lkc.sessionLevel = (lkcAfterOn s).sessionLevel) ∧
    ((powerReport s).1 = .started → s.lines.lit = false →
      (userPowerOn o s).1.lamp = charged s.lamp ∧ Marked .lamp s (userPowerOn o s).1) := by
  cases hst : s.lsq.state
  case off =>
    by_cases he : condition s.lamp = .expired
    · rw [userPowerOn_refused ((lsqPowerOn_off o hst).trans (powerOnInOff_expired o he))]
      simp [lsqAfterOn, powerReport, hst, he]
    cases hb : s.lines.bfault
    case true =>
      rw [userPowerOn_refused ((lsqPowerOn_off o hst).trans (powerOnInOff_ballast o he hb)), ballastAtPowerOn_eq]
      have hne : ({ s.lsq with state := .fault, held := none } : Lsq) ≠ s.lsq := fun h => by
        rw [← congrArg Lsq.state h] at hst
        cases hst
      simp [lsqAfterOn, powerReport, hst, he, hb, hne]
    cases hl : s.lines.lit
    case true =>
      have hon := (lsqPowerOn_off o hst).trans (powerOnInOff_lit o he hb hl)
      rw [goWarmup_endHold_eq] at hon
      rw [(userPowerOn_taken hon (by simp) ⟨rfl, rfl, rfl, rfl, rfl, rfl, rfl, holdEnded_isNone s⟩
        (recordFits_untrained hp)).1]
      simp [lsqAfterOn, powerReport, hst, he, hb, hl]
    cases hw : s.windowFull
    case true =>
      have hon := (lsqPowerOn_off o hst).trans (powerOnInOff_full o he hb hl hw)
      rw [hold_user_eq ho] at hon
      rw [(userPowerOn_taken hon (by simp) ⟨rfl, rfl, rfl, rfl, rfl, rfl, rfl, holdEnded_isNone s⟩
        (recordFits_untrained hp)).1]
      simp [lsqAfterOn, powerReport, hst, he, hb, hl, hw]
    case false =>
      have hon := (lsqPowerOn_off o hst).trans (powerOnInOff_clear o he hb hl hw)
      rw [firstAttempt_endHold_eq] at hon
      rw [(userPowerOn_taken hon (by simp) ⟨rfl, rfl, rfl, rfl, rfl, rfl, rfl, holdEnded_isNone s⟩
        (recordFits_untrained hp)).1]
      simp [lsqAfterOn, powerReport, hst, he, hb, hl, hw, marked_iff]
  case cooling => exact absurd hst hc
  case faultCooling | fault =>
    rw [userPowerOn_refused (t := s) (r := .lampFault) (by simp [lsqPowerOn, hst])]
    simp [lsqAfterOn, powerReport, hst]
  all_goals simp [drivenState, hst] at hd

/-- A user POWER_ON in COOLING is held (R8). -/
theorem userPowerOn_cooling {o : Origin} {s : State} (h : s.lsq.state = .cooling) : (userPowerOn o s).1.lsq =
    { s.lsq with held := some ⟨o, if s.windowFull then .coolingWindow else .cooling⟩ } := by
  have ht := takePowerOn_taken (lsqPowerOn_cooling o h) (by simp)
  have hu : (userPowerOn o s).1.lsq = (firstPowerOn (hold o s.coolingReason s)).lsq := by
    unfold userPowerOn
    rw [ht]
    dsimp only
    split
    · exact openManual_keeps _ _ .lsq (by decide)
    · rfl
  have hf : (firstPowerOn (hold o s.coolingReason s)).lsq = (hold o s.coolingReason s).lsq :=
    firstPowerOn_keeps _ .lsq (by decide)
  rw [hu, hf, hold_eq]
  rfl

/-- A POWER_OFF at a struck or lit lamp (R11, R12). -/
theorem lsqAfterOff_driven {s : State} (h : drivenState s.lsq.state = true) : lsqAfterOff s =
    if s.lsq.state = .offPending then s.lsq
    else if s.lsq.state = .striking ∨ s.settings.minOn ≤ s.lsq.litTime then cooled .cooling s.settings.cool s.lsq
    else { s.lsq with state := .offPending, warmupTimer := none } := by
  cases hst : s.lsq.state <;> simp [drivenState, hst] at h <;> simp [lsqAfterOff, hst]

/-- A late start after a close is another entry's, its actions suppressed (R151). -/
theorem lateSession_other {s : State} {x : Option (Fin 48)} {d : Date} {m : Nat} {c : Cal} {q : Session}
    (h : q ∈ (s.lateAnswer x d m).map fun f => scheduledSession f d true c) :
    q.kind = .scheduled ∧ q.suppressed = true ∧ (q.slot = none ∨ q.slot ≠ x) := by
  obtain ⟨f, hf, rfl⟩ := Option.map_eq_some_iff.mp h
  refine ⟨rfl, rfl, .inr fun he => ?_⟩
  simp only [State.lateAnswer, Option.filter_eq_some_iff, bne_iff_ne] at hf
  exact hf.2 he.symm

/-! ### The three commands -/

/-- The button pressed is down as the operand says; another that was down may have been released (R94). -/
theorem Kpi.pressed_power (k : Kpi) (d : Buttons) : k.pressed .power d =
    { k with power := d.power, source := k.source && d.source, axis := k.axis && d.axis } := by
  have hs : (KeypadEvent.power == .source) = false := rfl
  have ha : (KeypadEvent.power == .axis) = false := rfl
  simp [Kpi.pressed, hs, ha]

theorem Kpi.pressed_source (k : Kpi) (d : Buttons) : k.pressed .source d =
    { k with power := k.power && d.power, source := d.source, axis := k.axis && d.axis } := by
  have hp : (KeypadEvent.source == .power) = false := rfl
  have ha : (KeypadEvent.source == .axis) = false := rfl
  simp [Kpi.pressed, hp, ha]

theorem Kpi.pressed_axis (k : Kpi) (d : Buttons) : k.pressed .axis d =
    { k with power := k.power && d.power, source := k.source && d.source, axis := d.axis } := by
  have hp : (KeypadEvent.axis == .power) = false := rfl
  have hs : (KeypadEvent.axis == .source) = false := rfl
  simp [Kpi.pressed, hp, hs]

section

variable {d : Buttons} {s : State} {P : State → Prop}

theorem settles_kpPower (ho : s.operating = true) (h : P (powerPress (s.modKpi fun k => k.pressed .power d))) :
    Settles (.kpPowerPress d) s P := settles_operating (by exact ho) rfl h

theorem settles_kpAxis (ho : s.operating = true) (h : P (axisPress (s.modKpi fun k => k.pressed .axis d))) :
    Settles (.kpAxisPress d) s P := settles_operating (by exact ho) rfl h

theorem settles_kpSource_denied (ho : s.operating = true) (hk : s.keypadPasses .picture = false)
    (h : P (raiseDenied .source (s.modKpi fun k => k.pressed .source d))) : Settles (.kpSourcePress d) s P :=
  settles_operating (by exact ho) rfl (by
    rw [if_neg (by exact fun h => Bool.false_ne_true (hk.symm.trans h))]
    exact h)

theorem settles_kpSource_allowed (ho : s.operating = true) (hk : s.keypadPasses .picture = true)
    (h : P (sourcePress (s.modKpi fun k => k.pressed .source d))) : Settles (.kpSourcePress d) s P :=
  settles_operating (by exact ho) rfl (by
    rw [if_pos (by exact hk)]
    exact h)

end

/-- A frame over a press: KPI holds the buttons, the rest is the press's own. -/
theorem Keeps.pressed {l : List Part} {s u : State} {f : Kpi → Kpi} (h : Keeps l (s.modKpi f) u) :
    Keeps (.kpi :: l) s u := by
  intro x hx
  rw [List.mem_cons, not_or] at hx
  have hs := h x hx.2
  cases x
  case kpi => exact absurd rfl hx.1
  all_goals exact hs

end Sys2Proof.Machine

open Sys2Proof Sys2Proof.Machine

/-- Settles O56: the press's operand sets the buttons; what follows is that of the denial, the window, the POWER_ON, the
POWER_OFF or the SELECT. -/
theorem keypadPresses : Obligations.KeypadPresses := by
  unfold Obligations.KeypadPresses
  intro v d i s ho
  refine ⟨fun h => ?_, fun h hd hc => ?_, fun h hd hc hn => ?_, fun h hst => ?_, fun h => ?_, fun h => ?_, fun h => ?_,
    fun h hi he hl => ?_, fun h hi hl => ?_, ?_, ?_, ?_, fun r h hd hc hr => ?_, fun h hd hc hp => ?_, ?_, ?_,
    fun n => pressNames_first, pressNames_self, ?_⟩
  · refine settles_kpPower ho ?_
    rw [powerPress_denied (by exact h)]
    exact ⟨rfl, raised_iff.mpr rfl, by simp [keeps_iff]⟩
  · refine settles_kpPower ho ?_
    rw [powerPress_asks (by exact h) (by exact hd) (by exact hc)]
    exact ⟨rfl, raised_iff.mpr rfl, by simp [keeps_iff]⟩
  · refine settles_kpPower ho ?_
    rw [powerPress_off (by exact h) (by exact hd) (by exact hc), userPowerOff_alone (by exact hn)]
    obtain ⟨m, c, he, hb⟩ := takePowerOff_eq
      { s.modKpi (fun k => k.pressed .power d) with lkc := windowClosed s.lkc }
    obtain rfl : c = false := Bool.eq_false_iff.mpr fun h => Bool.false_ne_true (hb h)
    rw [show State.lkc (s.modKpi _) = s.lkc from rfl, he]
    exact ⟨rfl, rfl, rfl, lsqAfterOff_driven hd, by simp [keeps_iff, holdEnded, hn]⟩
  · refine settles_kpPower ho ?_
    rw [powerPress_on (by exact h) (by simp [hst, drivenState]), userPowerOn_cooling (by exact hst)]
    rfl
  · refine settles_kpAxis ho ?_
    rw [axisPress_denied (by exact h)]
    exact ⟨raised_iff.mpr rfl, by simp [keeps_iff]⟩
  · refine settles_kpAxis ho ?_
    rw [axisPress_allowed (by exact h)]
    exact ⟨rfl, by simp [keeps_iff]⟩
  · refine settles_kpSource_denied ho h ⟨raised_iff.mpr rfl, ?_⟩
    exact Keeps.pressed (l := [.ports]) (raise_keeps _ _)
  · refine settles_kpSource_allowed ho h ?_
    rw [sourcePress_eq (i := i) (by exact hi)]
    obtain ⟨hw, hn⟩ := sswSelect_begins .keypad (i := s.pressNames i) (s := s.modKpi fun k => k.pressed .source d)
      (by exact he) (by
        rintro ⟨h₁, h₂⟩
        exact hl ⟨(Option.some.inj (hi.symm.trans h₁)).symm, h₂⟩)
    exact ⟨hw, hn, (sswSelect_keeps _ _ _).pressed.weaken⟩
  · refine settles_kpSource_allowed ho h ?_
    rw [sourcePress_eq (i := i) (by exact hi), sswSelect_idle .keypad (by
      refine hl.imp id ?_
      rintro ⟨h₁, h₂⟩
      exact ⟨hi.trans (congrArg some h₁.symm), h₂⟩)]
    exact (Keeps.refl [] _).pressed
  · refine settles_kpPower ho ?_
    rw [show (powerPress _).kpi = _ from powerPress_keeps _ .kpi (by decide), ← Kpi.pressed_power]
    rfl
  · rw [← Kpi.pressed_source]
    cases h : s.keypadPasses .picture
    case false => exact settles_kpSource_denied ho h rfl
    case true => exact settles_kpSource_allowed ho h (sourcePress_keeps _ .kpi (by decide))
  · refine settles_kpAxis ho ?_
    rw [show (axisPress _).kpi = _ from axisPress_keeps _ .kpi (by decide), ← Kpi.pressed_axis]
    rfl
  · refine settles_kpPower ho ?_
    rw [powerPress_off (by exact h) (by exact hd) (by exact hc)]
    obtain ⟨x, m, y, b, g, c, he, hb, hx, hl⟩ := userPowerOff_closing
      (s := { s.modKpi (fun k => k.pressed .power d) with lkc := windowClosed s.lkc }) (r := r) hr
    obtain rfl : b = false := Bool.eq_false_iff.mpr fun h => Bool.false_ne_true (hb h)
    rw [show State.lkc (s.modKpi _) = s.lkc from rfl]
    have hn : s.lateAnswer r.slot s.cal.date (minuteOf s.cal.time) = none →
        (s.lateAnswer r.slot s.cal.date (minuteOf s.cal.time)).map (fun f => scheduledSession f s.cal.date true s.cal) = none ∧
        (s.lateAnswer r.slot s.cal.date (minuteOf s.cal.time)).map (fun f => f.entry.level) = none := by
      intro hn
      rw [hn]
      exact ⟨rfl, rfl⟩
    refine ⟨congrArg (·.lkc.confirmOpen) he, congrArg (·.lkc.hold) he, congrArg (·.ssw.powerOffSince) he,
      congrArg (·.ssw.userMute) he, fun hf => ?_, fun q hq => ?_, fun ha => ⟨?_, ?_, hl ha⟩, ?_⟩
    · obtain rfl : x = false := Bool.eq_false_iff.mpr fun h => by rw [hx h] at hf; cases hf
      exact congrArg (·.lsq) he
    · rw [he] at hq
      exact lateSession_other hq
    · exact (congrArg (·.ses) he).trans (hn ha).1
    · exact (congrArg (·.lkc.sessionLevel) he).trans (hn ha).2
    · rw [he]
      simp [keeps_iff]
  · refine settles_kpPower ho ?_
    rw [powerPress_on (by exact h) (by exact hd)]
    exact userPowerOn_undriven (by decide) (s := s.modKpi fun k => k.pressed .power d) hd hc hp
  · have hs := ((operating_iff s).mp ho).1
    show Host.Outcome.next _ = _
    simp [State.modLines, State.modLkc, hs]
  · exact settles_operating ho rfl rfl
  · simp [State.attached]

end

section
/-! PROOFS. GUARD_SET (O38). -/

namespace Sys2Proof.Machine

set_option Elab.async false

/-! ### The fields of the request -/

theorem newNat_eq {w : Nat} (r : Config.Range) (b : Option (BitVec w)) (n : Nat) : newNat r b n = clampedTo r b n := by
  cases b <;> rfl

/-- A value is clamped exactly where it lies outside its range. -/
theorem wasClamped_eq {w : Nat} (r : Config.Range) (b : Option (BitVec w)) :
    wasClamped r b = !unclamped r b := by
  have hc (n : Nat) : r.clamp n = n ↔ r.lo ≤ n ∧ n ≤ r.hi := by
    unfold Config.Range.clamp
    split
    · omega
    · split <;> omega
  cases b with
  | none => rfl
  | some n =>
    simp only [wasClamped, unclamped, Option.any_some, Option.all_some, Config.Range.holds, bne, ← Bool.decide_and]
    rw [beq_eq_decide, decide_eq_decide.mpr (hc n.toNat)]

theorem boolOf_isSome (x : Byte) : (boolOf x).isSome = true ↔ x.toNat ≤ 1 := by
  unfold boolOf
  split_ifs <;> simp only [Option.isSome_some, Option.isSome_none, true_iff, Bool.false_eq_true, false_iff] <;> bv_omega

theorem levelOf_isSome (x : Byte) : (levelOf x).isSome = true ↔ x.toNat ≤ 3 := by
  unfold levelOf
  split_ifs <;> simp only [Option.isSome_some, Option.isSome_none, true_iff, Bool.false_eq_true, false_iff] <;> bv_omega

theorem indexOf_isSome (n : Nat) (x : Byte) : (indexOf (n + 1) x).isSome = true ↔ x.toNat ≤ n := by
  rw [Option.isSome_iff_ne_none, ne_eq, indexOf_eq_none, Nat.not_le, Nat.lt_succ_iff]

/-- A field is refused exactly where it is carried and lies above the last of its codes. -/
theorem fieldOk_iff {α : Type} {f : Byte → Option α} {n : Nat} (h : ∀ x, (f x).isSome = true ↔ x.toNat ≤ n)
    (b : Option Byte) : fieldOk f b = true ↔ ¬(b.any fun x => decide (n < x.toNat)) = true := by
  cases b with
  | none => simp [fieldOk]
  | some x => simp [fieldOk, h]

/-- The values for which a GUARD_SET is INVALID (R84, R144). -/
theorem guardValid_iff (g : RawGuard) : guardValid g = true ↔
    ¬((g.autoDim.any fun x => decide (1 < x.toNat)) = true ∨ (g.autoscan.any fun x => decide (1 < x.toNat)) = true ∨
      (g.powerOnInput.any fun x => decide (5 < x.toNat)) = true ∨
      (g.manualLevel.any fun x => decide (3 < x.toNat)) = true) := by
  simp only [guardValid, Bool.and_eq_true, fieldOk_iff boolOf_isSome, fieldOk_iff (indexOf_isSome 5),
    fieldOk_iff levelOf_isSome, not_or, and_assoc]

/-- A code that is 00h or 01h is set where it is 01h. -/
theorem newCode_boolOf {b : Option Byte} (h : fieldOk boolOf b = true) (old : Bool) :
    newCode boolOf b old = (b.map (· == 1)).getD old := by
  cases b with
  | none => rfl
  | some x =>
    have hx := (boolOf_isSome x).mp h
    obtain rfl | rfl : x = 0 ∨ x = 1 := by bv_omega
    · rfl
    · rfl

/-- GUARD_SET answers CLAMPED exactly where a value was limited. -/
theorem guardClamped_eq (g : RawGuard) : guardClamped g =
    !(unclamped ⟨60, 600⟩ g.minOn && unclamped ⟨60, 300⟩ g.cool && unclamped ⟨30, 120⟩ g.warmupTime &&
      unclamped ⟨2, 30⟩ g.igniteTimeout && unclamped ⟨1, 6⟩ g.strikeMax &&
      unclamped ⟨600, 7200⟩ g.strikeWindow && unclamped ⟨0, 2400⟩ g.strikeWear &&
      unclamped ⟨2, 10⟩ g.switchTimeout && unclamped ⟨0, 600⟩ g.nosigDim && unclamped ⟨0, 3600⟩ g.nosigOff &&
      unclamped ⟨30, 480⟩ g.manualSpan && unclamped ⟨0, 4⟩ g.manualExt && unclamped ⟨0, 15⟩ g.manualWarn &&
      unclamped ⟨5, 30⟩ g.extMinutes) := by
  simp only [Bool.not_and, guardClamped, wasClamped_eq, Config.minOn, Config.cool, Config.warmupTime, Config.igniteTimeout, Config.strikeMax,
    Config.strikeWindow, Config.strikeWear, Config.switchTimeout, Config.nosigDim, Config.nosigOff, Config.manualSpan,
    Config.manualExt, Config.manualWarn, Config.extMinutes]

theorem clampedIf_not_status (b : Bool) (l : List Byte) :
    (Answer.clampedIf (!b) l).status = if b = true then .done else .clamped := by
  cases b <;> rfl

/-! ### What follows from the values written -/

/-- The state once the values are written and, where STRIKE_MAX is among them, the strike log trimmed (R3, R4). -/
def guardWritten (g : RawGuard) (s : State) : State := doIf g.strikeMax.isSome trimStrikes (guardWrite g s)

/-- The tests of MIN_ON and of the power-on held (R9, R12). -/
def guardLamp (g : RawGuard) (s : State) : State :=
  doIf (g.strikeMax.isSome || g.strikeWindow.isSome) testHold (doIf g.minOn.isSome (minOnTest .request) s)

/-- What SSW does with NOSIG_DIM and AUTOSCAN (R77, R82). -/
def guardPicture (g : RawGuard) (s : State) : State :=
  doIf g.autoscan.isSome autoscanWritten (doIf g.nosigDim.isSome nosigDimWritten s)

/-- The auto-off a lowered NOSIG_OFF makes due (R83). -/
def guardOff (old : Nat) (s : State) : State := doIf (nosigOffLowered old s.settings.nosigOff && s.autoOffDue) autoOff s

/-- The state a valid GUARD_SET leaves. -/
def guarded (g : RawGuard) (s : State) : State :=
  guardOff s.settings.nosigOff (guardPicture g (guardLamp g (guardWritten g s)))

theorem guardSetRequest_valid {g : RawGuard} (s : State) (h0 : g.spare = 0) (hv : guardValid g = true) :
    guardSetRequest g s = (guarded g s, .clampedIf (guardClamped g) []) := by
  rw [guardSetRequest, if_neg (by simp [h0, hv])]
  rfl

theorem guardSetRequest_invalid {g : RawGuard} (s : State) (h : ¬(g.spare = 0 ∧ guardValid g = true)) :
    guardSetRequest g s = (s, .invalid) := by
  rw [guardSetRequest, if_pos (by rw [← Bool.not_eq_true, ← not_and_or]; exact h)]

/-- The command GUARD_SET settles as the request's effects do. -/
theorem settles_guardSet {p : PortId} {o : Byte} {a : Origin} {g : RawGuard} {s t : State} {r : Answer} {P : State → Prop}
    (ht : Taken p o a (.guardSet g) s) (h : guardSetRequest g s = (t, r)) (hp : P (hasReply p 0x73 r t)) :
    Settles (.guardSet p o g) s P := by
  refine settles_request ht rfl ?_
  simpa [ownerAct, h, requestKind, kindCode] using hp

/-- The values written, with the strike log as the claims say it. -/
theorem guardWritten_eq (g : RawGuard) (s : State) : guardWritten g s =
    { s with
      settings := guardSettings g s.settings
      lamp := { s.lamp with strikeWear := newNat Config.strikeWear g.strikeWear s.lamp.strikeWear }
      inputs := { s.inputs with
        autoscan := newCode boolOf g.autoscan s.inputs.autoscan
        powerOnInput := newCode (indexOf 6) g.powerOnInput s.inputs.powerOnInput }
      lsq := (rewritten g (guardSettings g s.settings) s).lsq
      sto := (guardWrite g s).sto } := by
  unfold guardWritten doIf rewritten
  rw [guardWrite_eq]
  split <;> simp_all [trimStrikes, trimLog, State.modLsq]

theorem mem_dirtied_iff {r x : RecordName} {t : Sto} : x ∈ (dirtied r t).dirty ↔ x = r ∨ x ∈ t.dirty := by
  unfold dirtied
  split
  next h =>
    have hr : r ∈ t.dirty := by simpa using h
    exact ⟨.inr, fun h => h.elim (fun h => h ▸ hr) id⟩
  next => simp [or_comm]

/-- The records marked by the writing itself (log 55). -/
theorem guardWrite_dirty (g : RawGuard) (s : State) :
    (guardInSettings g = true → .settings ∈ (guardWrite g s).sto.dirty) ∧
    (g.strikeWear ≠ none → .lamp ∈ (guardWrite g s).sto.dirty) ∧
    (g.autoscan ≠ none ∨ g.powerOnInput ≠ none → .inputs ∈ (guardWrite g s).sto.dirty) := by
  have hm (b : Bool) (r x : RecordName) (t : State) :
      x ∈ (markIf b r t).sto.dirty ↔ b = true ∧ x = r ∨ x ∈ t.sto.dirty := by
    rw [markIf_eq]
    cases b <;> simp [mem_dirtied_iff]
  simp only [guardWrite, hm]
  simp +contextual [Option.isSome_iff_ne_none]

/-- What every effect of a GUARD_SET leaves of the values written: the settings, the marks and a trimmed log stand. -/
structure GuardKept (s t : State) : Prop where
  settings : t.settings = s.settings
  inputs : t.inputs = s.inputs
  wear : t.lamp.strikeWear = s.lamp.strikeWear
  dirty : ∀ r, r ∈ s.sto.dirty → r ∈ t.sto.dirty
  log : 1 ≤ s.settings.strikeMax → s.lsq.strikeLog.length ≤ s.settings.strikeMax →
    t.lsq.strikeLog.length ≤ s.settings.strikeMax

namespace GuardKept

theorem refl (s : State) : GuardKept s s := ⟨rfl, rfl, rfl, fun _ => id, fun _ => id⟩

theorem trans {s t u : State} (h₁ : GuardKept s t) (h₂ : GuardKept t u) : GuardKept s u where
  settings := h₂.settings.trans h₁.settings
  inputs := h₂.inputs.trans h₁.inputs
  wear := h₂.wear.trans h₁.wear
  dirty r h := h₂.dirty r (h₁.dirty r h)
  log hm hl := by simpa [h₁.settings] using h₂.log (by simpa [h₁.settings] using hm) (by simpa [h₁.settings] using h₁.log hm hl)

theorem of_ssw {s t : State} (h : Keeps [.ssw] s t) : GuardKept s t where
  settings := h .settings (by decide)
  inputs := h .inputs (by decide)
  wear := congrArg LampRecord.strikeWear (h .lamp (by decide))
  dirty r := by rw [show t.sto = s.sto from h .store (by decide)]; exact id
  log _ := by rw [show t.lsq = s.lsq from h .lsq (by decide)]; exact id

theorem doIf {s : State} {b : Bool} {f : State → State} (h : GuardKept s (f s)) : GuardKept s (doIf b f s) := by
  cases b
  · exact refl s
  · exact h

end GuardKept

section

variable (s : State)

theorem minOnTest_kept (c : LampCause) : GuardKept s (minOnTest c s) := by
  unfold minOnTest
  split
  · rw [goCooling_eq]
    exact ⟨rfl, rfl, rfl, fun _ => id, fun _ => id⟩
  · exact .refl s

theorem testHold_kept : GuardKept s (testHold s) := by
  unfold testHold
  split
  case isFalse => exact .refl s
  rename_i hh
  obtain ⟨hst, hn, hw⟩ := hh
  obtain ⟨h, hh⟩ := Option.ne_none_iff_exists'.mp hn
  by_cases hc : condition s.lamp = .expired
  · rw [releaseHeld_expired hh hc]
    exact ⟨rfl, rfl, rfl, fun _ => id, fun _ => id⟩
  cases hb : s.lines.bfault
  case true =>
    obtain ⟨c, he⟩ := releaseHeld_ballast hh hc hb
    rw [he]
    exact ⟨rfl, rfl, rfl, fun _ h => mem_dirtied_iff.mpr (.inr h), fun _ => id⟩
  cases hl : s.lines.lit
  case true =>
    rw [releaseHeld_lit hh hc hb hl, goWarmup_endHold_eq]
    exact ⟨rfl, rfl, rfl, fun _ => id, fun _ => id⟩
  case false =>
    rw [releaseHeld_clear hh hc hb hl hw, firstAttempt_endHold_eq]
    refine ⟨rfl, rfl, rfl, fun _ h => mem_dirtied_iff.mpr (.inr h), fun hm hf => ?_⟩
    simp [struck]
    omega

theorem nosigDimWritten_keeps : Keeps [.ssw] s (nosigDimWritten s) :=
  (modSsw_keeps _ s).ite ((modSsw_keeps _ s).ite (.refl _ s))

theorem autoscanWritten_keeps : Keeps [.ssw] s (autoscanWritten s) := (Keeps.refl _ s).ite (endScan_keeps s)

theorem guardPicture_keeps (g : RawGuard) : Keeps [.ssw] s (guardPicture g s) :=
  (show Keeps [.ssw] s (doIf _ _ s) from (nosigDimWritten_keeps s).ite (.refl _ s)).seq (c := [.ssw])
    ((autoscanWritten_keeps _).ite (.refl _ _))

theorem lsqAfterOff_strikeLog : (lsqAfterOff s).strikeLog = s.lsq.strikeLog := by
  cases hst : s.lsq.state
  case warmup | on =>
    simp only [lsqAfterOff, hst]
    split <;> rfl
  all_goals simp [lsqAfterOff, hst, cooled]

theorem autoOff_kept : GuardKept s (autoOff s) := by
  unfold autoOff
  split
  · obtain ⟨m, c, he, -⟩ := takePowerOff_eq s
    rw [he]
    exact ⟨rfl, rfl, rfl, fun _ => id, fun _ h => (lsqAfterOff_strikeLog s).symm ▸ h⟩
  · exact .refl s

/-- The values written stand as every effect leaves them. -/
theorem guarded_kept (g : RawGuard) : GuardKept (guardWritten g s) (guarded g s) :=
  (GuardKept.doIf (minOnTest_kept _ _)).trans <| (GuardKept.doIf (testHold_kept _)).trans <|
    (GuardKept.of_ssw (guardPicture_keeps _ g)).trans (GuardKept.doIf (autoOff_kept _))

end

/-! ### The outcomes by what the request carries -/

section

variable {g : RawGuard} {s : State}

theorem guardLamp_idle (hm : g.minOn = none) (hx : g.strikeMax = none) (hw : g.strikeWindow = none) (t : State) :
    guardLamp g t = t := by
  simp [guardLamp, doIf, hm, hx, hw]

theorem guardPicture_idle (hd : g.nosigDim = none) (ha : g.autoscan = none) (t : State) : guardPicture g t = t := by
  simp [guardPicture, doIf, hd, ha]

theorem guardOff_idle {n : Nat} {t : State} (h : nosigOffLowered n t.settings.nosigOff = false ∨ t.autoOffDue = false) :
    guardOff n t = t := by
  rw [guardOff, doIf, if_neg]
  obtain h | h := h <;> simp [h]

/-- With no session open the auto-off that is due is a POWER_OFF (R83). -/
theorem guardOff_due {n : Nat} {t : State} (h : nosigOffLowered n t.settings.nosigOff = true) (hd : t.autoOffDue = true)
    (hs : t.ses = none) : guardOff n t = (takePowerOff t).1 := by
  simp [guardOff, doIf, autoOff, h, hd, hs]

/-- A NOSIG_OFF not carried is not lowered. -/
theorem guarded_of_nosigOff_none (h : g.nosigOff = none) :
    guarded g s = guardPicture g (guardLamp g (guardWritten g s)) := by
  refine guardOff_idle (.inl ?_)
  have hk : (guardPicture g (guardLamp g (guardWritten g s))).settings = (guardWritten g s).settings :=
    ((GuardKept.doIf (minOnTest_kept _ _)).trans <| (GuardKept.doIf (testHold_kept _)).trans
      (GuardKept.of_ssw (guardPicture_keeps _ g))).settings
  have hn : (guardWritten g s).settings.nosigOff = s.settings.nosigOff := by
    rw [guardWritten_eq]
    simp [guardSettings, newNat, h]
  rw [hk, hn]
  simp [nosigOffLowered]

/-- A lamp that is not lit has nothing to switch off. -/
theorem guarded_of_dark (h : litState (guardLamp g (guardWritten g s)).lsq.state = false) :
    guarded g s = guardPicture g (guardLamp g (guardWritten g s)) := by
  refine guardOff_idle (.inr ?_)
  have hq : (guardPicture g (guardLamp g (guardWritten g s))).lsq = (guardLamp g (guardWritten g s)).lsq :=
    guardPicture_keeps _ g .lsq (by decide)
  simp [State.autoOffDue, State.nosigRunning, hq, h]

/-- With no new STRIKE_MAX the values written leave LSQ as it stands. -/
theorem guardWritten_lsq (hx : g.strikeMax = none) : (guardWritten g s).lsq = s.lsq := by
  rw [guardWritten_eq]
  simp [rewritten, hx]

theorem guardWritten_keeps (hx : g.strikeMax = none) : Keeps [.settings, .lamp, .inputs, .store] s (guardWritten g s) := by
  have hq := guardWritten_lsq (s := s) hx
  rw [guardWritten_eq] at hq ⊢
  simpa [keeps_iff] using hq

/-- A MIN_ON that the lit time has reached (R12). -/
theorem guardLamp_minOn (hm : g.minOn ≠ none) (hst : s.lsq.state = .offPending)
    (hn : (guardSettings g s.settings).minOn ≤ s.lsq.litTime) :
    guardLamp g (guardWritten g s) = goCooling .request (guardWritten g s) := by
  have ht : minOnTest .request (guardWritten g s) = goCooling .request (guardWritten g s) := by
    rw [guardWritten_eq]
    exact minOnTest_reached _ hst hn
  have hi : testHold (goCooling .request (guardWritten g s)) = goCooling .request (guardWritten g s) := by
    rw [testHold, if_neg]
    rw [goCooling_eq]
    simp [cooled]
  simp [guardLamp, doIf, Option.isSome_iff_ne_none, hm, ht, hi]

/-- A MIN_ON that the lit time has not reached (R12). -/
theorem minOnTest_idle {c : LampCause} {t : State} (h : t.lsq.state ≠ .offPending ∨ t.lsq.litTime < t.settings.minOn) :
    minOnTest c t = t := by
  rw [minOnTest, if_neg]
  rintro ⟨h₁, h₂⟩
  exact h.elim (fun h => h h₁) fun h => Nat.not_le.mpr h h₂

theorem guardLamp_off (h : g.strikeMax ≠ none ∨ g.strikeWindow ≠ none) {t : State} (hst : t.lsq.state = .off) :
    guardLamp g t = testHold t := by
  have hb : (g.strikeMax.isSome || g.strikeWindow.isSome) = true := by
    simpa [Option.isSome_iff_ne_none] using h
  have hi : doIf g.minOn.isSome (minOnTest .request) t = t := by
    unfold doIf
    split
    · exact minOnTest_idle (.inl (by simp [hst]))
    · rfl
  rw [guardLamp, hi, hb]
  rfl

theorem nosigDimWritten_eq (t : State) : nosigDimWritten t =
    { t with ssw := { t.ssw with dimReport :=
      if t.settings.nosigDim = 0 then false
      else t.ssw.dimReport || (t.nosigRunning && decide (t.settings.nosigDim ≤ t.ssw.nosigCount)) } } := by
  unfold nosigDimWritten
  split
  · rfl
  next h0 =>
    cases hb : t.nosigRunning && decide (t.settings.nosigDim ≤ t.ssw.nosigCount)
    case true =>
      rw [Bool.and_eq_true, decide_eq_true_eq] at hb
      simp [nosigDim_reached hb.1 h0 hb.2]
    case false =>
      have hn : ¬(t.nosigRunning && t.settings.nosigDim != 0 && decide (t.settings.nosigDim ≤ t.ssw.nosigCount)) = true := by
        simp_all
      simp [nosigDim, hn]

/-- NOSIG_OFF 0 stands above every other value (R83). -/
theorem nosigOffLowered_iff_false {old new : Nat} :
    nosigOffLowered old new = false ↔ new = 0 ∨ old ≠ 0 ∧ old ≤ new := by
  simp [nosigOffLowered, or_iff_not_imp_left]

theorem guardPicture_mute (t : State) : (guardPicture g t).ssw.mute = t.ssw.mute := by
  unfold guardPicture doIf autoscanWritten nosigDimWritten nosigDim
  split_ifs <;> rfl

end

/-- The last notices stand where the queues, the masks, ENG_RST and the time do. -/
theorem LastTold.congr {ns : List Payload} {t u : State} (h : LastTold ns t)
    (hq : ∀ q, (u.port q).queue = (t.port q).queue ∧ (u.port q).overflow = (t.port q).overflow)
    (hs : u.settings = t.settings) (hl : u.lines = t.lines) (hc : u.cal = t.cal) : LastTold ns u := by
  intro q
  rw [(hq q).1, (hq q).2, hc]
  simpa only [receives, hs, hl] using h q

theorem LastTold.hasReply {ns : List Payload} {u : State} (h : LastTold ns u) (p : PortId) (c : Byte) (a : Answer) :
    LastTold ns (hasReply p c a u) :=
  h.congr (fun q => by cases p <;> cases q <;> exact ⟨rfl, rfl⟩) rfl rfl rfl

/-- A lamp that goes from OFF_PENDING to COOLING says so last. -/
theorem lastTold_goCooling {s : State} (h : s.lsq.state = .offPending) :
    LastTold [.lampState .cooling .offPending 0 .request] (goCooling .request s) := by
  rw [goCooling_eq, h]
  exact lastTold_raise _ { s with
    lsq := cooled .cooling s.settings.cool s.lsq
    ssw := darkened s.ssw
    lkc := windowClosed s.lkc }

end Sys2Proof.Machine

open Sys2Proof Sys2Proof.Machine

/-- Settles O38: the values are written and the log trimmed; then each test follows where its setting is carried. -/
theorem guardsWritten : Obligations.GuardsWritten := by
  unfold Obligations.GuardsWritten
  intro p o a g s ht
  by_cases hv : g.spare = 0 ∧ guardValid g = true
  case neg =>
    have hn {P : Prop} (h₁ : g.spare = 0) (h₂ : guardValid g = true) : P := absurd ⟨h₁, h₂⟩ hv
    refine settles_guardSet ht (guardSetRequest_invalid s hv) ?_
    exact ⟨fun _ => onlyReplied_hasReply _ _ _ _, hn, hn, hn, hn, hn, hn, fun _ => hn, hn, hn, hn, hn, hn,
      guardValid_iff g⟩
  obtain ⟨h0, hv⟩ := hv
  obtain ⟨⟨⟨hdim, hscan⟩, -⟩, -⟩ :
      ((fieldOk boolOf g.autoDim = true ∧ fieldOk boolOf g.autoscan = true) ∧ _) ∧ _ := by
    simpa only [guardValid, Bool.and_eq_true] using hv
  have hk := guarded_kept s g
  refine settles_guardSet ht (guardSetRequest_valid s h0 hv) ?_
  have hset : (hasReply p 0x73 (.clampedIf (guardClamped g) []) (guarded g s)).settings = guardSettings g s.settings := by
    refine hk.settings.trans ?_
    rw [guardWritten_eq]
  have hwr := guardWritten_eq g s
  simp only [hset]
  refine ⟨fun h => ?_, fun _ _ => ⟨?_, ?_, ?_, ?_⟩, fun _ _ => ⟨fun h => ?_, fun h => ?_, fun h => ?_⟩, fun _ _ hm => ?_,
    fun _ _ hm hx hw hd hf ha => ?_, fun _ _ hm hst hn => ?_, fun _ _ hm hx hw hd hf ha hn => ?_,
    fun h _ _ hx hst hh hc hb hl hw => ?_, fun _ _ hx hst hw => ?_, fun _ _ hm hx hw hd hf ha => ?_,
    fun _ _ hm hx hw hd hf ha hn => ?_, fun _ _ hm hx hw hd hf ha hlow hr hz hn hs => ?_,
    fun _ _ hm hx hw hd hf ha => ?_, guardValid_iff g⟩
  · exact absurd h0 (h.resolve_right ((guardValid_iff g).mp hv))
  · simp only [guardSettings, newNat_eq, newCode_boolOf hdim]
    rfl
  · refine hk.wear.trans ?_
    rw [hwr]
    exact newNat_eq _ _ _
  · refine hk.inputs.trans ?_
    rw [hwr, ← newCode_boolOf hscan]
    rfl
  · refine answers_hasReply ?_ rfl
    rw [guardClamped_eq, clampedIf_not_status]
  · exact hk.dirty _ (by rw [hwr]; exact (guardWrite_dirty g s).1 h)
  · exact hk.dirty _ (by rw [hwr]; exact (guardWrite_dirty g s).2.1 h)
  · exact hk.dirty _ (by rw [hwr]; exact (guardWrite_dirty g s).2.2 h)
  · have hl := hk.log
    rw [hwr] at hl
    obtain ⟨n, hn⟩ := Option.ne_none_iff_exists'.mp hm
    refine hl ?_ ?_
    · simp only [guardSettings, hn, newNat]
      exact (clamp_bounds Config.strikeMax n.toNat (by decide)).1
    · simp [rewritten, hn]
      omega
  · rw [guarded_of_nosigOff_none hf, guardPicture_idle hd ha, guardLamp_idle hm hx hw]
    refine ⟨by rw [hwr]; rfl, (guardWritten_keeps hx).weaken.replied _ _ _ (by decide)⟩
  · have hgl := guardLamp_minOn hm hst hn
    have hgc := hgl.trans (goCooling_eq .request (guardWritten g s))
    have hpk := guardPicture_keeps (guardLamp g (guardWritten g s)) g
    rw [guarded_of_dark (by rw [hgc]; rfl)]
    refine ⟨?_, ?_, ?_⟩
    · have hq : (guardPicture g (guardLamp g (guardWritten g s))).lsq =
          cooled .cooling (guardWritten g s).settings.cool (guardWritten g s).lsq :=
        (hpk .lsq (by decide)).trans (congrArg State.lsq hgc)
      show { (guardPicture _ _).lsq with strikeLog := s.lsq.strikeLog } = _
      rw [hq, hwr]
      rfl
    · refine (guardPicture_mute _).trans ?_
      rw [hgc]
      rfl
    · have hc := lastTold_goCooling (s := guardWritten g s) (by rw [hwr]; exact hst)
      rw [hgl] at hpk ⊢
      have hp : (guardPicture g (goCooling .request (guardWritten g s))).ptc = _ := hpk .ports (by decide)
      refine (hc.congr (fun q => ?_) (hpk .settings (by decide)) (hpk .lines (by decide)) (hpk .cal (by decide))).hasReply _ _ _
      unfold State.port
      rw [hp]
      exact ⟨rfl, rfl⟩
  · rw [guarded_of_nosigOff_none hf, guardPicture_idle hd ha]
    have hi : guardLamp g (guardWritten g s) = guardWritten g s := by
      have ht : minOnTest .request (guardWritten g s) = guardWritten g s := by
        refine minOnTest_idle ?_
        rw [guardWritten_lsq hx, hwr]
        exact hn
      simp [guardLamp, doIf, hx, hw, ht]
    rw [hi]
    exact (guardWritten_keeps hx).weaken.replied _ _ _ (by decide)
  · have hr : guardLamp g (guardWritten g s) = firstAttempt h.origin (endHold (guardWritten g s)) := by
      rw [guardLamp_off hx (by rw [hwr]; exact hst), hwr]
      rw [testHold_released (by exact hst) (by simp [rewritten, hh]) (by exact hw),
        releaseHeld_clear (h := h) (by exact hh) (by exact hc) (by exact hb) (by exact hl) (by exact hw)]
    rw [firstAttempt_endHold_eq] at hr
    rw [guarded_of_dark (by rw [hr]; rfl)]
    have hpk := guardPicture_keeps (guardLamp g (guardWritten g s)) g
    refine ⟨(hpk .lsq (by decide)).trans ?_, ?_, (hpk .ses (by decide)).trans ?_⟩
    · rw [hr, hwr]
    · have hq : (guardPicture g (guardLamp g (guardWritten g s))).lamp = charged (guardWritten g s).lamp :=
        (hpk .lamp (by decide)).trans (congrArg State.lamp hr)
      show (guardPicture _ _).lamp = charged { s.lamp with strikeWear := (guardPicture _ _).lamp.strikeWear }
      rw [hq, hwr]
      rfl
    · rw [hr, hwr]
      rfl
  · have hr : guardLamp g (guardWritten g s) = guardWritten g s := by
      rw [guardLamp_off hx (by rw [hwr]; exact hst), testHold, if_neg]
      rintro ⟨-, -, hn⟩
      rw [hwr] at hn
      exact Bool.false_ne_true (hn.symm.trans hw)
    rw [guarded_of_dark (by rw [hr, hwr]; simp [rewritten, hst, litState]), hr]
    refine (guardPicture_keeps _ g .lsq (by decide)).trans ?_
    rw [hwr]
  · have hi : guarded g s = nosigDimWritten (guardWritten g s) := by
      rw [guarded_of_nosigOff_none hf, guardLamp_idle hm hx hw]
      simp [guardPicture, doIf, ha, Option.isSome_iff_ne_none, hd]
    rw [hi]
    refine ⟨?_, ?_⟩
    · show (nosigDimWritten _).ssw = _
      rw [nosigDimWritten_eq, hwr]
      rfl
    · exact ((guardWritten_keeps hx).seq (c := [.settings, .lamp, .inputs, .ssw, .store])
        (nosigDimWritten_keeps _)).weaken.replied _ _ _ (by decide)
  · have hi : guarded g s = guardWritten g s := by
      rw [guarded, guardLamp_idle hm hx hw, guardPicture_idle hd ha, hwr]
      obtain h | h | h | h | h := hn
      · exact guardOff_idle (.inl (nosigOffLowered_iff_false.mpr (.inr h)))
      · exact guardOff_idle (.inr (Bool.eq_false_iff.mpr fun hd => by
          rw [autoOffDue_iff] at hd
          exact Bool.false_ne_true (h.symm.trans hd.1)))
      · exact guardOff_idle (.inl (nosigOffLowered_iff_false.mpr (.inl h)))
      · exact guardOff_idle (.inr (Bool.eq_false_iff.mpr fun hd => by
          rw [autoOffDue_iff] at hd
          exact absurd hd.2.2 (Nat.not_le.mpr h)))
      · unfold guardOff doIf autoOff
        split
        · exact if_neg (by simpa using h)
        · rfl
    rw [hi]
    exact (guardWritten_keeps hx).weaken.replied _ _ _ (by decide)
  · have hi : guarded g s = (takePowerOff (guardWritten g s)).1 := by
      rw [guarded, guardLamp_idle hm hx hw, guardPicture_idle hd ha]
      refine guardOff_due ?_ ?_ ?_
      · rw [hwr, ← Bool.not_eq_false, nosigOffLowered_iff_false]
        dsimp only
        omega
      · rw [hwr]
        exact (autoOffDue_iff _).mpr ⟨hr, hz, hn⟩
      · rw [hwr]
        exact hs
    have hq : lsqAfterOff (guardWritten g s) = lsqAfterOff { s with settings := guardSettings g s.settings } := by
      unfold lsqAfterOff
      rw [guardWritten_lsq hx, hwr]
    obtain ⟨m, c, he, -⟩ := takePowerOff_eq (guardWritten g s)
    rw [hi, he, hq, hwr]
    exact ⟨rfl, rfl, rfl, rfl, rfl, by simp [keeps_iff, hasReply, State.modPort, holdEnded, hs]⟩
  · have hi : guarded g s = autoscanWritten (guardWritten g s) := by
      rw [guarded_of_nosigOff_none hf, guardLamp_idle hm hx hw]
      simp [guardPicture, doIf, hd, Option.isSome_iff_ne_none, ha]
    have hin : (guarded g s).inputs = (guardWritten g s).inputs := hk.inputs
    refine ⟨?_, ?_⟩
    · show (guarded g s).ssw = if (guarded g s).inputs.autoscan = true then _ else _
      rw [hin, hi, autoscanWritten, hwr]
      split <;> rfl
    · rw [hi]
      exact ((guardWritten_keeps hx).seq (c := [.settings, .lamp, .inputs, .ssw, .store])
        (autoscanWritten_keeps _)).weaken.replied _ _ _ (by decide)

end

section
/-! PROOFS. Start-up: what loading and the six steps of settling leave (O60). -/

namespace Sys2Proof.Machine

set_option Elab.async false

/-! ### Loading (R185, R186) -/

/-- STO with records marked dirty in turn (R179). -/
def marks (l : List RecordName) (t : Sto) : Sto := { t with dirty := markedInTurn l t.dirty }

theorem dirtied_eq_marks (r : RecordName) (t : Sto) : dirtied r t = marks [r] t := by
  simp only [dirtied, marks, markedInTurn, List.foldl_cons, List.foldl_nil, List.contains_iff_mem]
  split <;> rfl

@[simp] theorem marks_images (l : List RecordName) (t : Sto) : (marks l t).images = t.images := rfl

@[simp] theorem marks_nil (t : Sto) : marks [] t = t := rfl

@[simp] theorem marks_marks (l m : List RecordName) (t : Sto) : marks l (marks m t) = marks (m ++ l) t := by
  simp [marks, markedInTurn, List.foldl_append]

/-- A mark is never lost, and every record marked is on the list. -/
theorem mem_markedInTurn {l old : List RecordName} {r : RecordName} : r ∈ markedInTurn l old ↔ r ∈ l ∨ r ∈ old := by
  induction l generalizing old with
  | nil => simp [markedInTurn]
  | cons x l ih =>
    have hx : r ∈ (if x ∈ old then old else old ++ [x]) ↔ r = x ∨ r ∈ old := by
      split
      next h => exact ⟨.inr, fun h' => h'.elim (fun e => e ▸ h) id⟩
      next => simp [or_comm]
    have hc : markedInTurn (x :: l) old = markedInTurn l (if x ∈ old then old else old ++ [x]) := rfl
    rw [hc, ih, hx, List.mem_cons]
    tauto

theorem lostOf_eq {α : Type} (i : Image α) (ok : α → Bool) : lostOf i.intact (ok i.content) = badImage i ok := by
  simp only [lostOf, badImage, Bool.not_eq_true']

theorem loaded_eq {α : Type} (i : Image α) (ok : α → Bool) (d : α) :
    loaded i (badImage i ok) d = loadedFrom i ok d := by
  unfold loaded loadedFrom
  cases badImage i ok <;> rfl

theorem reportLost_eq (r : RecordName) (l : Option LostCause) (s : State) : reportLost r l s =
    { s with sto := marks (l.toList.map fun _ => r) s.sto, ptc := s.heard (l.toList.map fun c => .storeLost r c) } := by
  cases l with
  | none => rfl
  | some c =>
    rw [reportLost, markDirty_eq, dirtied_eq_marks]
    rfl

/-- The records found bad, one record after another. -/
theorem badRecords_eq (m : Images) : badRecords m =
    ((badImage m.settings settingsOk).toList.map fun c => (.settings, c)) ++
    ((badImage m.lamp lampOk).toList.map fun c => (.lamp, c)) ++
    ((badImage m.inputs inputsOk).toList.map fun c => (.inputs, c)) ++
    ((badImage m.timings timingsOk).toList.map fun c => (.timings, c)) ++
    ((badImage m.timetable timetableOk).toList.map fun c => (.timetable, c)) := by
  have h (z : RecordName × Option LostCause) (l : List (RecordName × Option LostCause)) :
      (z :: l).filterMap (fun z => z.2.map fun c => (z.1, c)) =
        (z.2.toList.map fun c => (z.1, c)) ++ l.filterMap fun z => z.2.map fun c => (z.1, c) := by
    obtain ⟨r, o⟩ := z
    cases o <;> rfl
  simp [badRecords, h]

/-- Each record is its image's content or its defaults, and each bad one is marked and told, in loading order. -/
theorem loadRecords_eq (s : State) : loadRecords s =
    { s with
      settings := loadedFrom s.sto.images.settings settingsOk defaultSettings
      lamp := loadedFrom s.sto.images.lamp lampOk defaultLamp
      inputs := loadedFrom s.sto.images.inputs inputsOk defaultInputs
      timings := loadedFrom s.sto.images.timings timingsOk defaultTimings
      timetable := loadedFrom s.sto.images.timetable timetableOk defaultTimetable
      sto := marks ((badRecords s.sto.images).map (·.1)) s.sto
      ptc := { s with settings := loadedFrom s.sto.images.settings settingsOk defaultSettings }.heard
        ((badRecords s.sto.images).map fun z : RecordName × LostCause => .storeLost z.1 z.2) } := by
  simp only [loadRecords, loadTimetable, loadTimings, loadInputs, loadLamp, loadSettings, lostOf_eq, loaded_eq,
    reportLost_eq, badRecords_eq, List.map_append, List.map_map]
  simp [State.modSettings, State.modLamp, State.modInputs, State.modTimings, State.modTimetable, Function.comp_def]

/-! ### The events between the steps (R187, log 20) -/

/-- What has passed once `a` second events and `b` calendar seconds have fallen, SSW's test of a due auto-off standing as `x`. -/
def passed (a b : Nat) (x : Bool) (s : State) : State :=
  { s with
    uptime := s.uptime + a
    cal := Nat.repeat Cal.next b s.cal
    lsq := { s.lsq with coolTimer := s.lsq.coolTimer.map (· - a) }
    ssw := { s.ssw with autoOffTest := x } }

/-- Nothing but the cool timer runs: no ignition, no warm-up, no lit time, no switch record and no no-signal count. -/
structure Idle (s : State) : Prop where
  attempt : s.lsq.attemptTimer = none
  gap : s.lsq.gapTimer = none
  warmup : s.lsq.warmupTimer = none
  lit : s.lsq.litCounting = false
  timer : s.ssw.timer = none
  trained : s.ssw.trained = false

theorem Idle.passed {s : State} (h : Idle s) (a b : Nat) (x : Bool) : Idle (passed a b x s) :=
  ⟨h.attempt, h.gap, h.warmup, h.lit, h.timer, h.trained⟩

theorem passed_zero (s : State) : passed 0 0 s.ssw.autoOffTest s = s := by
  have hc : s.lsq.coolTimer.map (· - 0) = s.lsq.coolTimer := by simp
  rw [passed, hc]
  rfl

theorem repeat_next_add (m n : Nat) (c : Cal) : Nat.repeat Cal.next n (Nat.repeat Cal.next m c) = Nat.repeat Cal.next (m + n) c := by
  induction n with
  | zero => rfl
  | succ n ih => exact congrArg Cal.next ih

theorem passed_passed (a b a' b' : Nat) (x x' : Bool) (s : State) :
    passed a' b' x' (passed a b x s) = passed (a + a') (b + b') x' s := by
  simp [passed, repeat_next_add, Nat.add_assoc, Function.comp_def, Nat.sub_sub]

/-- A second event while the blocks settle (R187). -/
theorem settlingSecond_eq {k : Nat} {s : State} (h : Idle s) : ∃ x, settlingSecond k s = passed 1 0 x s := by
  have hl : lsqSecond (s.modUptime (· + 1)) = passed 1 0 s.ssw.autoOffTest s := by
    rw [lsqSecond_eq]
    simp [lsqCounted, passed, State.modUptime, h.attempt, h.gap, h.warmup, h.lit, Nat.repeat]
  unfold settlingSecond
  dsimp only
  rw [hl]
  split
  · obtain ⟨x, hx⟩ := sswSecond_eq (passed 1 0 s.ssw.autoOffTest s)
    refine ⟨x, ?_⟩
    rw [hx]
    simp [nosigCounted, State.nosigRunning, passed, h.trained, h.timer]
  · exact ⟨_, rfl⟩

/-- A calendar second before step 5 (R187). -/
theorem settlingCalendar_early {k : Nat} (hk : k < 5) (s : State) :
    settlingCalendar k s = passed 0 1 s.ssw.autoOffTest s := by
  unfold settlingCalendar
  dsimp only
  have hc : s.lsq.coolTimer.map (· - 0) = s.lsq.coolTimer := by simp
  rw [if_neg (Nat.not_le.mpr hk), passed, hc]
  rfl

/-- What is rewritten where `p` holds stands exactly where `p` holds nowhere. -/
theorem map_if_eq_self {α : Type} {n : Nat} {v : Vector α n} {p : α → Bool} {g : α → α} (h : ∀ x, p x = true → g x ≠ x) :
    v.map (fun x => if p x = true then g x else x) = v ↔ v.toList.any p = false := by
  have he (x : α) : (if p x = true then g x else x) = x ↔ p x = false := by
    split
    next hp => simp [h x hp, hp]
    next hp => simpa using hp
  rw [Vector.ext_iff]
  simp only [Vector.getElem_map, he, List.any_eq_false, Bool.not_eq_true, Vector.mem_toList_iff, Vector.mem_iff_getElem]
  constructor
  · rintro hv x ⟨i, hi, rfl⟩
    exact hv i hi
  · exact fun hv i hi => hv _ ⟨i, hi, rfl⟩

/-- A purge changes TIMETABLE, which it may mark dirty (R139). -/
theorem purge_eq (d : Date) (s : State) : purge d s =
    { s with
      timetable := purgedBefore d s.timetable
      sto := marks (if purgedBefore d s.timetable = s.timetable then [] else [.timetable]) s.sto } := by
  have hp : (purgedBefore d s.timetable).slots = s.timetable.slots ↔
      (s.timetable.slots.toList.any fun e => e.any fun e => e.isPast d) = false :=
    map_if_eq_self (by rintro (_ | x) h; · simp at h
                       · simp)
  have ht : purgedBefore d s.timetable = s.timetable ↔
      (s.timetable.slots.toList.any fun e => e.any fun e => e.isPast d) = false :=
    Iff.trans ⟨fun h => congrArg TimetableRecord.slots h, congrArg fun l => { s.timetable with slots := l }⟩ hp
  unfold purge
  split
  next h =>
    rw [if_neg (by rw [ht, h]; decide), markDirty_eq, dirtied_eq_marks]
    rfl
  next h =>
    rw [if_pos (ht.mpr (by simpa using h)), ht.mpr (by simpa using h)]
    rfl

/-- The last timing indexes of entries not in use made absent, and INPUTS marked where there is one (R61). -/
theorem forgetTimings_eq (s : State) : forgetTimings (fun k => !s.timings[k].inUse) s =
    { s with
      inputs := timingsForgotten s.timings s.inputs
      sto := marks (if timingsForgotten s.timings s.inputs = s.inputs then [] else [.inputs]) s.sto } := by
  have hp : (timingsForgotten s.timings s.inputs).entries = s.inputs.entries ↔
      (s.inputs.entries.toList.any fun e => e.lastTiming.any fun k => !s.timings[k].inUse) = false :=
    map_if_eq_self fun e h he => by
      rw [← congrArg InputEntry.lastTiming he] at h
      cases h
  have ht : timingsForgotten s.timings s.inputs = s.inputs ↔
      (s.inputs.entries.toList.any fun e => e.lastTiming.any fun k => !s.timings[k].inUse) = false :=
    Iff.trans ⟨fun h => congrArg InputsRecord.entries h, congrArg fun l => { s.inputs with entries := l }⟩ hp
  unfold forgetTimings
  split
  next h =>
    rw [if_neg (by rw [ht, h]; decide), markDirty_eq, dirtied_eq_marks]
    rfl
  next h =>
    rw [if_pos (ht.mpr (by simpa using h)), ht.mpr (by simpa using h)]
    rfl

/-- The events that fall before step 5. -/
theorem settlingEvents_early {k : Nat} (hk : k < 5) (l : List SettlingEvent) :
    ∀ s, Idle s → ∃ x, settlingEvents k l s = passed (l.count .second) (l.count .calendar) x s := by
  induction l with
  | nil => exact fun s _ => ⟨_, (passed_zero s).symm⟩
  | cons e l ih =>
    intro s h
    obtain ⟨a, b, y, he, ha, hb⟩ : ∃ a b y, settlingEvent k s e = passed a b y s ∧
        (e :: l).count .second = a + l.count .second ∧ (e :: l).count .calendar = b + l.count .calendar := by
      cases e with
      | second =>
        obtain ⟨y, hy⟩ := settlingSecond_eq (k := k) h
        exact ⟨1, 0, y, hy, by simp [Nat.add_comm], by simp⟩
      | calendar => exact ⟨0, 1, _, settlingCalendar_early hk s, by simp, by simp [Nat.add_comm]⟩
    obtain ⟨x, hx⟩ := ih _ (h.passed a b y)
    refine ⟨x, ?_⟩
    rw [ha, hb, ← passed_passed a b _ _ y, ← hx, ← he]
    rfl

/-- A calendar second after step 5 may be told, and may purge (R125, R139). -/
theorem settlingCalendar_late (s : State) : ∃ c t m, settlingCalendar 5 s =
    { passed 0 1 s.ssw.autoOffTest s with ptc := c, timetable := t, sto := marks m s.sto } := by
  have hc : s.modCal Cal.next = passed 0 1 s.ssw.autoOffTest s := by
    have hq : s.lsq.coolTimer.map (· - 0) = s.lsq.coolTimer := by simp
    rw [passed, hq]
    rfl
  have ht : ∃ c, (if s.cal.valid && !(s.modCal Cal.next).cal.valid then raiseTimeInvalid (s.modCal Cal.next)
      else s.modCal Cal.next) = { passed 0 1 s.ssw.autoOffTest s with ptc := c } := by
    rw [hc]
    split
    · exact ⟨_, raise_eq _ _⟩
    · exact ⟨s.ptc, rfl⟩
  obtain ⟨c, ht⟩ := ht
  unfold settlingCalendar
  dsimp only
  rw [if_pos (Nat.le_refl 5), ht]
  split
  · exact ⟨c, _, _, purge_eq _ _⟩
  · exact ⟨c, s.timetable, [], rfl⟩

/-- The events that fall after step 5. -/
theorem settlingEvents_late (l : List SettlingEvent) : ∀ s, Idle s → ∃ x c t m, settlingEvents 5 l s =
    { passed (l.count .second) (l.count .calendar) x s with ptc := c, timetable := t, sto := marks m s.sto } ∧
    (.calendar ∉ l → c = s.ptc ∧ t = s.timetable ∧ m = []) := by
  induction l with
  | nil => exact fun s _ => ⟨_, s.ptc, s.timetable, [], (passed_zero s).symm, fun _ => ⟨rfl, rfl, rfl⟩⟩
  | cons e l ih =>
    intro s h
    obtain ⟨a, b, y, c, t, m, he, ha, hb, hn⟩ : ∃ a b y c t m, settlingEvent 5 s e =
        { passed a b y s with ptc := c, timetable := t, sto := marks m s.sto } ∧
        (e :: l).count .second = a + l.count .second ∧ (e :: l).count .calendar = b + l.count .calendar ∧
        (e ≠ .calendar → c = s.ptc ∧ t = s.timetable ∧ m = []) := by
      cases e with
      | second =>
        obtain ⟨y, hy⟩ := settlingSecond_eq (k := 5) h
        exact ⟨1, 0, y, s.ptc, s.timetable, [], hy, by simp [Nat.add_comm], by simp, fun _ => ⟨rfl, rfl, rfl⟩⟩
      | calendar =>
        obtain ⟨c, t, m, hy⟩ := settlingCalendar_late s
        exact ⟨0, 1, _, c, t, m, hy, by simp, by simp [Nat.add_comm], by simp⟩
    obtain ⟨x, c', t', m', hx, hn'⟩ := ih { passed a b y s with ptc := c, timetable := t, sto := marks m s.sto }
      ⟨h.attempt, h.gap, h.warmup, h.lit, h.timer, h.trained⟩
    refine ⟨x, c', t', m ++ m', ?_, fun hl => ?_⟩
    · rw [show settlingEvents 5 (e :: l) s = settlingEvents 5 l (settlingEvent 5 s e) from rfl, he, hx, ha, hb,
        ← passed_passed a b _ _ y]
      simp [passed]
    · rw [List.mem_cons, not_or] at hl
      obtain ⟨hc, ht, hm⟩ := hn (Ne.symm hl.1)
      obtain ⟨hc', ht', hm'⟩ := hn' hl.2
      exact ⟨hc'.trans hc, ht'.trans ht, by rw [hm, hm']; rfl⟩

end Sys2Proof.Machine

end

section
/-! PROOFS. Start-up: the steps of settling together, and the late start after them (O60). -/

namespace Sys2Proof.Machine

set_option Elab.async false

/-! ### The six steps (R187) -/

section

variable (s : State)

theorem settleLamp_eq : settleLamp s =
    { s with
      lsq := { resetLsq with state := startLamp s.lamp, coolTimer := startTimer s.lamp s.settings.cool }
      ptc := s.heard [.lampState (startLamp s.lamp) .off 0 .start] } := rfl

theorem settleInputs_eq : settleInputs s =
    { s with
      inputs := timingsForgotten s.timings s.inputs
      sto := marks (if timingsForgotten s.timings s.inputs = s.inputs then [] else [.inputs]) s.sto
      inm := { s.inm with
        path := Vector.ofFn fun x => { s with inputs := timingsForgotten s.timings s.inputs }.restPath x } } := by
  unfold settleInputs
  dsimp only
  rw [forgetTimings_eq]
  rfl

theorem settleSource_eq : settleSource s =
    { s with
      ssw := { s.ssw with selected := some s.inputs.powerOnInput }
      ptc := s.heard [sourceTold s s.inputs.powerOnInput (some s.inm.path[s.inputs.powerOnInput]) none] } := rfl

theorem settleGeometry_eq : settleGeometry s =
    { s with
      geo := { resetGeo with
        liveV := s.inputs.entries[s.inputs.powerOnInput].presetV
        liveH := s.inputs.entries[s.inputs.powerOnInput].presetH
        active := some ⟨presetWarp s s.inputs.powerOnInput .start, 0⟩ }
      ptc := s.heard [.warpReady 0 s.inputs.powerOnInput .start] } := rfl

theorem settleTimetable_eq : settleTimetable s =
    { s with
      timetable := purgedBefore s.cal.date s.timetable
      sto := marks (if purgedBefore s.cal.date s.timetable = s.timetable then [] else [.timetable]) s.sto
      ptc := s.heard (if s.cal.valid then [] else [.timeInvalid s.cal.date]) } := by
  unfold settleTimetable
  dsimp only
  rw [purge_eq]
  cases h : s.cal.valid <;> simp [raiseTimeInvalid, raise_eq]

end

/-! No step of settling starts a timer but the cool timer, or opens a switch record. -/

theorem Idle.settleInputs {s : State} (h : Idle s) : Idle (settleInputs s) := by
  rw [settleInputs_eq]
  exact ⟨h.attempt, h.gap, h.warmup, h.lit, h.timer, h.trained⟩

theorem Idle.settleSource {s : State} (h : Idle s) : Idle (settleSource s) :=
  ⟨h.attempt, h.gap, h.warmup, h.lit, h.timer, h.trained⟩

theorem Idle.settleGeometry {s : State} (h : Idle s) : Idle (settleGeometry s) :=
  ⟨h.attempt, h.gap, h.warmup, h.lit, h.timer, h.trained⟩

theorem Idle.settleTimetable {s : State} (h : Idle s) : Idle (settleTimetable s) := by
  rw [settleTimetable_eq]
  exact ⟨h.attempt, h.gap, h.warmup, h.lit, h.timer, h.trained⟩

theorem Idle.told {s : State} (h : Idle s) (c : Ptc) : Idle { s with ptc := c } :=
  ⟨h.attempt, h.gap, h.warmup, h.lit, h.timer, h.trained⟩

/-- The blocks settled up to the late-start check, with the events that fall between the steps. -/
def settling (falls : Vector (List SettlingEvent) 5) (s : State) : State :=
  settlingEvents 5 falls[4] <| settleTimetable <| settlingEvents 4 falls[3] <| settleGeometry <|
  settlingEvents 3 falls[2] <| settleSource <| settlingEvents 2 falls[1] <| settleInputs <|
  settlingEvents 1 falls[0] (settleLamp s)

theorem count_falls (falls : Vector (List SettlingEvent) 5) (e : SettlingEvent) : falls.toList.flatten.count e =
    falls[0].count e + falls[1].count e + falls[2].count e + falls[3].count e + falls[4].count e := by
  obtain ⟨⟨l⟩, h⟩ := falls
  match l, h with
  | [a, b, c, d, f], _ => simp [Nat.add_assoc]

/-- A preset's warp is that of the inputs and the timing table. -/
theorem presetWarp_of_same {s t : State} (hi : t.inputs = s.inputs) (ht : t.timings = s.timings) (i : Fin 6)
    (c : WarpCause) : presetWarp t i c = presetWarp s i c := by
  simp only [presetWarp, State.warpAt, State.sourceSize, hi, ht]

/-- `t` is `s` once `a` second events and `b` calendar seconds have fallen; of the ports only what is said in the end is of
interest. -/
def Reaches (a b : Nat) (s t : State) : Prop := ∃ x c, t = passed a b x { s with ptc := c }

namespace Reaches

variable {a b : Nat} {s t : State}

theorem refl (s : State) : Reaches 0 0 s s := ⟨s.ssw.autoOffTest, s.ptc, (passed_zero s).symm⟩

theorem events (h : Reaches a b s t) (hs : Idle s) {k : Nat} (hk : k < 5) (l : List SettlingEvent) :
    Reaches (a + l.count .second) (b + l.count .calendar) s (settlingEvents k l t) := by
  obtain ⟨x, c, rfl⟩ := h
  obtain ⟨y, e⟩ := settlingEvents_early hk l _ ((hs.told c).passed a b x)
  exact ⟨y, c, e.trans (passed_passed _ _ _ _ _ _ _)⟩

theorem idle (h : Reaches a b s t) (hs : Idle s) : Idle t := by
  obtain ⟨x, c, rfl⟩ := h
  exact (hs.told c).passed a b x

theorem settleInputs (h : Reaches a b s t) : Reaches a b (settleInputs s) (settleInputs t) := by
  obtain ⟨x, c, rfl⟩ := h
  refine ⟨x, c, ?_⟩
  rw [settleInputs_eq, settleInputs_eq]
  rfl

theorem settleSource (h : Reaches a b s t) : Reaches a b (settleSource s) (settleSource t) := by
  obtain ⟨x, c, rfl⟩ := h
  exact ⟨x, _, rfl⟩

theorem settleGeometry (h : Reaches a b s t) : Reaches a b (settleGeometry s) (settleGeometry t) := by
  obtain ⟨x, c, rfl⟩ := h
  have hw : presetWarp (passed a b x { s with ptc := c }) (passed a b x { s with ptc := c }).inputs.powerOnInput .start =
      presetWarp s s.inputs.powerOnInput .start := presetWarp_of_same rfl rfl _ _
  refine ⟨x, (Machine.settleGeometry (passed a b x { s with ptc := c })).ptc, ?_⟩
  rw [settleGeometry_eq, settleGeometry_eq, hw]
  rfl

/-- The purge is by the date that CAL has reached (R139). -/
theorem settleTimetable (h : Reaches a b s t) : ∃ x c m, settleTimetable t =
    passed a b x { s with
      timetable := purgedBefore (Nat.repeat Cal.next b s.cal).date s.timetable
      ptc := c
      sto := marks m s.sto } := by
  obtain ⟨x, c, rfl⟩ := h
  rw [settleTimetable_eq]
  exact ⟨x, _, _, rfl⟩

end Reaches

/-- What the first three steps leave with nothing fallen between them. -/
theorem settleSource_settled (s : State) : settleSource (settleInputs (settleLamp s)) =
    { s with
      inputs := timingsForgotten s.timings s.inputs
      lsq := { resetLsq with state := startLamp s.lamp, coolTimer := startTimer s.lamp s.settings.cool }
      inm := { s.inm with
        path := Vector.ofFn fun x => { s with inputs := timingsForgotten s.timings s.inputs }.restPath x }
      ssw := { s.ssw with selected := some s.inputs.powerOnInput }
      ptc := s.heard [.lampState (startLamp s.lamp) .off 0 .start,
        sourceTold { s with inputs := timingsForgotten s.timings s.inputs } s.inputs.powerOnInput
          (some ({ s with inputs := timingsForgotten s.timings s.inputs }.restPath s.inputs.powerOnInput)) none]
      sto := marks (if timingsForgotten s.timings s.inputs = s.inputs then [] else [.inputs]) s.sto } := by
  have hp (f : Fin 6 → PathState) (x : Fin 6) : (Vector.ofFn f)[x] = f x := by simp
  rw [settleInputs_eq, settleLamp_eq, settleSource_eq, hp]
  rfl

/-- What the first four steps leave with nothing fallen between them. -/
theorem settleGeometry_settled (s : State) : settleGeometry (settleSource (settleInputs (settleLamp s))) =
    { settleSource (settleInputs (settleLamp s)) with
      geo := { resetGeo with
        liveV := (timingsForgotten s.timings s.inputs).entries[s.inputs.powerOnInput].presetV
        liveH := (timingsForgotten s.timings s.inputs).entries[s.inputs.powerOnInput].presetH
        active := some
          ⟨presetWarp { s with inputs := timingsForgotten s.timings s.inputs } s.inputs.powerOnInput .start, 0⟩ }
      ptc := s.heard [.lampState (startLamp s.lamp) .off 0 .start,
        sourceTold { s with inputs := timingsForgotten s.timings s.inputs } s.inputs.powerOnInput
          (some ({ s with inputs := timingsForgotten s.timings s.inputs }.restPath s.inputs.powerOnInput)) none,
        .warpReady 0 s.inputs.powerOnInput .start] } := by
  have hw (t : State) (hi : t.inputs = timingsForgotten s.timings s.inputs) (ht : t.timings = s.timings) (i : Fin 6) :
      presetWarp t i .start = presetWarp { s with inputs := timingsForgotten s.timings s.inputs } i .start :=
    presetWarp_of_same (s := { s with inputs := timingsForgotten s.timings s.inputs }) hi ht _ _
  rw [settleGeometry_eq, hw (settleSource (settleInputs (settleLamp s))) (by rw [settleSource_settled])
    (by rw [settleSource_settled]), settleSource_settled]
  rfl

/-- The state that the first five steps leave where `a` second events and `b` calendar seconds have fallen, TIMETABLE standing
as `t`, the ports as `c` and STO as `o`. -/
def settledAs (a b : Nat) (x : Bool) (t : TimetableRecord) (c : Ptc) (o : Sto) (s : State) : State :=
  passed a b x { settleGeometry (settleSource (settleInputs (settleLamp s))) with timetable := t, ptc := c, sto := o }

theorem settling_eq (falls : Vector (List SettlingEvent) 5) {s : State} (ht : s.ssw.timer = none)
    (hn : s.ssw.trained = false) : ∃ x t c m, settling falls s =
      settledAs (falls.toList.flatten.count .second) (falls.toList.flatten.count .calendar) x t c (marks m s.sto) s ∧
    (.calendar ∉ falls[4] →
      t = purgedBefore (Nat.repeat Cal.next (falls.toList.flatten.count .calendar) s.cal).date s.timetable) := by
  have h₁ : Idle (settleLamp s) := ⟨rfl, rfl, rfl, rfl, ht, hn⟩
  have h₂ := h₁.settleInputs
  have h₃ := h₂.settleSource
  have h₄ := h₃.settleGeometry
  have e₁ := (Reaches.refl _).events h₁ (k := 1) (by decide) falls[0]
  have e₂ := e₁.settleInputs.events h₂ (k := 2) (by decide) falls[1]
  have e₃ := e₂.settleSource.events h₃ (k := 3) (by decide) falls[2]
  have e₄ := e₃.settleGeometry.events h₄ (k := 4) (by decide) falls[3]
  obtain ⟨x₄, c₄, m₄, e₅⟩ := e₄.settleTimetable
  obtain ⟨x, c, t, m, e, hq⟩ := settlingEvents_late falls[4] _ (e₄.idle h₄).settleTimetable
  rw [e₅] at e hq
  rw [passed_passed] at e
  obtain ⟨n, hn⟩ : ∃ n, (settleGeometry (settleSource (settleInputs (settleLamp s)))).sto = marks n s.sto := by
    rw [settleGeometry_settled, settleSource_settled]
    exact ⟨_, rfl⟩
  have hs : (settling falls s) = _ := (congrArg (settlingEvents 5 falls[4]) e₅).trans e
  refine ⟨x, t, c, n ++ m₄ ++ m, ?_, fun hc => ?_⟩
  · rw [hs, count_falls, count_falls, settledAs, ← marks_marks, ← marks_marks, ← hn]
    simp only [Nat.zero_add]
    rfl
  · have hv : (settleGeometry (settleSource (settleInputs (settleLamp s)))).cal = s.cal ∧
        (settleGeometry (settleSource (settleInputs (settleLamp s)))).timetable = s.timetable := by
      rw [settleGeometry_settled, settleSource_settled]
      exact ⟨rfl, rfl⟩
    rw [(hq hc).2.1, count_falls, List.count_eq_zero.mpr hc, ← hv.1, ← hv.2]
    simp only [Nat.zero_add, Nat.add_zero]
    rfl

/-- With nothing fallen between the steps, what is told and marked (R23, R64, R101, R125, R179). -/
theorem settling_quiet (s : State) :
    (settling (Vector.replicate 5 []) s).ptc = s.heard ([.lampState (startLamp s.lamp) .off 0 .start,
      sourceTold { s with inputs := timingsForgotten s.timings s.inputs } s.inputs.powerOnInput
        (some ({ s with inputs := timingsForgotten s.timings s.inputs }.restPath s.inputs.powerOnInput)) none,
      .warpReady 0 s.inputs.powerOnInput .start] ++ if s.cal.valid then [] else [.timeInvalid s.cal.date]) ∧
    (settling (Vector.replicate 5 []) s).sto =
      marks ((if timingsForgotten s.timings s.inputs = s.inputs then [] else [.inputs]) ++
        if purgedBefore s.cal.date s.timetable = s.timetable then [] else [.timetable]) s.sto := by
  have hq : settling (Vector.replicate 5 []) s =
      settleTimetable (settleGeometry (settleSource (settleInputs (settleLamp s)))) := by
    simp [settling, settlingEvents]
  rw [hq, settleTimetable_eq, settleGeometry_settled, settleSource_settled]
  constructor
  · exact Ptc.hear_hear s.settings s.lines.engRst s.cal.time _ _ s.ptc
  · rw [← marks_marks]

end Sys2Proof.Machine

end

section
/-! PROOFS. Start-up completes: the late start, and the claims of start-up (O60). -/

namespace Sys2Proof.Machine

set_option Elab.async false

/-! ### What a late start's actions leave (R146, R151) -/

/-- What a session's start fixes of its record (R145). -/
def sessionKey (q : Session) : SessionKind × Option (Fin 48) × Date × TimeOfDay × Date × Nat × Level × Bool :=
  (q.kind, q.slot, q.openedDate, q.openedTime, q.date, q.plannedEnd, q.level, q.suppressed)

/-- Start actions only mark records dirty, keep a warp active and an input selected, and leave the session and its level. -/
structure StartKept (s t : State) : Prop where
  store : ∃ m, t.sto = marks m s.sto
  active : s.geo.active ≠ none → t.geo.active ≠ none
  selected : s.ssw.selected ≠ none → t.ssw.selected ≠ none
  session : t.ses.map sessionKey = s.ses.map sessionKey
  level : t.lkc.sessionLevel = s.lkc.sessionLevel

namespace StartKept

theorem refl (s : State) : StartKept s s := ⟨⟨[], rfl⟩, id, id, rfl, rfl⟩

theorem trans {s t u : State} (h₁ : StartKept s t) (h₂ : StartKept t u) : StartKept s u where
  store := by
    obtain ⟨m, hm⟩ := h₁.store
    obtain ⟨n, hn⟩ := h₂.store
    exact ⟨m ++ n, by rw [hn, hm, marks_marks]⟩
  active := h₂.active ∘ h₁.active
  selected := h₂.selected ∘ h₁.selected
  session := h₂.session.trans h₁.session
  level := h₂.level.trans h₁.level

theorem ite {s t u : State} {p : Prop} [Decidable p] (h₁ : StartKept s t) (h₂ : StartKept s u) :
    StartKept s (if p then t else u) := by
  split
  · exact h₁
  · exact h₂

end StartKept

/-- A change of the session's marks leaves what its start fixed. -/
theorem sessionKey_map {f : Session → Session} (h : ∀ q, sessionKey (f q) = sessionKey q) (x : Option Session) :
    (x.map f).map sessionKey = x.map sessionKey := by
  cases x with
  | none => rfl
  | some q => exact congrArg some (h q)

theorem holdEnded_key (s : State) : (holdEnded s).map sessionKey = s.ses.map sessionKey := by
  unfold holdEnded
  split
  · exact sessionKey_map (by exact fun _ => rfl) _
  · rfl

theorem supersede_key (s : State) : (supersede s).ses.map sessionKey = s.ses.map sessionKey := by
  have hh (r : SwitchRecord) : (handSource r .superseded s).ses.map sessionKey = s.ses.map sessionKey := by
    unfold handSource
    split
    · exact sessionKey_map (fun q => by split <;> rfl) _
    · rfl
  unfold supersede
  split
  · rfl
  · dsimp only
    split <;> exact hh _

/-- A training tells SES only what it supersedes. -/
theorem beginTraining_ses (k : SwitchKind) (o : Origin) (i : Fin 6) (s : State) :
    (beginTraining k o i s).ses = (supersede s).ses := by
  have hm : (moveSelection i (supersede s)).ses = (supersede s).ses := moveSelection_keeps i _ .ses (by decide)
  have hr (r : Option SwitchRecord) (t : State) : (raiseSource r t).ses = t.ses := raiseSource_keeps r t .ses (by decide)
  unfold beginTraining
  dsimp only
  rw [hr]
  simp [seek, modMon, setPath, openRecord, unready, hm]

theorem beginTraining_kept (k : SwitchKind) (o : Origin) (i : Fin 6) (s : State) : StartKept s (beginTraining k o i s) where
  store := ⟨[], beginTraining_keeps k o i s .store (by decide)⟩
  active := by rw [show (beginTraining k o i s).geo = s.geo from beginTraining_keeps k o i s .geo (by decide)]; exact id
  selected _ := by simp [beginTraining_ssw, trainingSsw]
  session := by rw [beginTraining_ses, supersede_key]
  level := congrArg Lkc.sessionLevel (beginTraining_keeps k o i s .lkc (by decide))

/-- What changes GEO, SSW's marks and the ports alone leaves the session and the store. -/
theorem StartKept.of_picture {s t : State} (h : Keeps [.geo, .ssw, .ports] s t)
    (ha : s.geo.active ≠ none → t.geo.active ≠ none) (hs : t.ssw.selected = s.ssw.selected) : StartKept s t where
  store := ⟨[], h .store (by decide)⟩
  active := ha
  selected := hs ▸ id
  session := congrArg _ (h .ses (by decide))
  level := congrArg Lkc.sessionLevel (h .lkc (by decide))

theorem takeWarp_kept (w : Warp) (s : State) : StartKept s (takeWarp w s) := by
  obtain ⟨m, y, h⟩ := takeReported_ssw (raise (.warpReady (nextGeneration s.geo.active) w.input w.cause) <|
    s.modGeo fun q => { q with active := some ⟨w, nextGeneration s.geo.active⟩, pendingWarp := none })
  refine .of_picture (takeWarp_keeps w s) (fun _ => ?_) (by rw [takeWarp, h]; rfl)
  have hg : (takeWarp w s).geo.active = some ⟨w, nextGeneration s.geo.active⟩ :=
    congrArg Geo.active (takeReported_keeps _ .geo (by decide))
  simp [hg]

theorem recompute_kept (c : WarpCause) (s : State) : StartKept s (recompute c s) := by
  unfold recompute
  split
  · exact .refl s
  · exact .ite (.of_picture (modGeo_keeps _ s).weaken id rfl) (takeWarp_kept _ s)

theorem applyPreset_kept (c : WarpCause) (s : State) : StartKept s (applyPreset c s) := by
  unfold applyPreset
  split
  · exact .refl s
  · exact .trans (t := s.modGeo _) (.of_picture (modGeo_keeps _ s).weaken id rfl) (recompute_kept _ _)

theorem sswSelect_kept (o : Origin) (i : Fin 6) (s : State) : StartKept s (sswSelect o i s).1 := by
  unfold sswSelect
  split
  · exact .refl s
  · split
    · exact .refl s
    · exact .trans (t := endScan s) ⟨⟨[], rfl⟩, id, id, rfl, rfl⟩
        ((beginTraining_kept _ _ _ _).trans (applyPreset_kept _ _))

theorem issueSelect_kept (x : Option (Fin 6)) (s : State) : StartKept s (issueSelect x s) := by
  unfold issueSelect
  split
  · exact .refl s
  · exact (sswSelect_kept _ _ s).trans ⟨⟨[], rfl⟩, id, id, sessionKey_map (by exact fun _ => rfl) _, rfl⟩

theorem firstPowerOn_kept (s : State) : StartKept s (firstPowerOn s) := by
  have ht (t : State) : StartKept t (takePending t) := by
    unfold takePending
    split
    · exact .refl t
    · exact takeWarp_kept _ t
  unfold firstPowerOn
  split
  · exact .refl s
  · exact .ite (.refl s) ((beginTraining_kept _ _ _ s).trans (.ite (ht _) (.refl _)))

theorem hold_kept (o : Origin) (r : HeldReason) (s : State) : StartKept s (hold o r s) := by
  rw [hold_eq]
  refine ⟨⟨[], rfl⟩, id, id, ?_, rfl⟩
  dsimp only
  split
  · exact sessionKey_map (by exact fun _ => rfl) _
  · exact holdEnded_key s

theorem powerOnInOff_kept (o : Origin) (s : State) : StartKept s (powerOnInOff o s).1 := by
  by_cases hc : condition s.lamp = .expired
  · rw [powerOnInOff_expired o hc]
    exact .refl s
  cases hb : s.lines.bfault
  case true =>
    rw [powerOnInOff_ballast o hc hb, ballastAtPowerOn_eq]
    exact ⟨⟨[.lamp], dirtied_eq_marks _ _⟩, id, id, holdEnded_key s, rfl⟩
  cases hl : s.lines.lit
  case true =>
    rw [powerOnInOff_lit o hc hb hl, goWarmup_endHold_eq]
    exact ⟨⟨[], rfl⟩, id, id, holdEnded_key s, rfl⟩
  cases hw : s.windowFull
  case true =>
    rw [powerOnInOff_full o hc hb hl hw]
    exact hold_kept _ _ s
  case false =>
    rw [powerOnInOff_clear o hc hb hl hw, firstAttempt_endHold_eq]
    exact ⟨⟨[.lamp], dirtied_eq_marks _ _⟩, id, id, holdEnded_key s, rfl⟩

theorem lsqPowerOn_kept (o : Origin) (s : State) : StartKept s (lsqPowerOn o s).1 := by
  unfold lsqPowerOn
  split
  · exact powerOnInOff_kept o s
  · exact .refl s
  · exact .refl s
  · exact .refl s
  · rw [lampChange_lit .on _ _ rfl]
    exact ⟨⟨[], rfl⟩, id, id, sessionKey_map (by exact fun _ => rfl) _, rfl⟩
  · exact hold_kept _ _ s
  · exact .refl s
  · exact .refl s

theorem takePowerOn_kept (o : Origin) (s : State) : StartKept s (takePowerOn o s).1 := by
  have h := lsqPowerOn_kept o s
  unfold takePowerOn
  split
  next he =>
    rw [he] at h
    exact h
  next he =>
    rw [he] at h
    exact h.trans (firstPowerOn_kept _)

theorem startActions_kept (e : Entry) (b : Bool) (s : State) : StartKept s (startActions e b s).1 := by
  unfold startActions
  split
  · exact .refl s
  · dsimp only
    split
    · exact (issueSelect_kept _ s).trans (takePowerOn_kept _ _)
    · exact issueSelect_kept _ s

/-- A scheduled session opens with its record and its level, and its actions leave both. -/
theorem openScheduled_kept (w : SessionWay) (f : Found) (d : Date) (b : Bool) (s : State) :
    StartKept { s with
      ses := some (scheduledSession f d b s.cal)
      lkc := { s.lkc with sessionLevel := some f.entry.level } } (openScheduled w f d b true s) := by
  unfold openScheduled
  dsimp only
  rw [if_pos rfl, sessionLevel_eq]
  refine .trans ?_ ((startActions_kept f.entry b _).trans ⟨⟨[], rfl⟩, id, id, rfl, rfl⟩)
  exact ⟨⟨[], rfl⟩, id, id, rfl, rfl⟩

theorem markedInTurn_append (l m old : List RecordName) :
    markedInTurn (l ++ m) old = markedInTurn m (markedInTurn l old) := List.foldl_append

/-! ### Start-up, from the loaded records to the late-start check -/

/-- The records as loading hands them on, the blocks not settled yet (R186). -/
def loadedState (s : State) : State := setPhase .settling (loadRecords s)

theorem loadedState_eq (s : State) : loadedState s =
    { s with
      settings := loadedFrom s.sto.images.settings settingsOk defaultSettings
      lamp := loadedFrom s.sto.images.lamp lampOk defaultLamp
      inputs := loadedFrom s.sto.images.inputs inputsOk defaultInputs
      timings := loadedFrom s.sto.images.timings timingsOk defaultTimings
      timetable := loadedFrom s.sto.images.timetable timetableOk defaultTimetable
      sto := { marks ((badRecords s.sto.images).map (·.1)) s.sto with phase := .settling }
      ptc := { s with settings := loadedFrom s.sto.images.settings settingsOk defaultSettings }.heard
        ((badRecords s.sto.images).map fun z : RecordName × LostCause => .storeLost z.1 z.2) } := by
  rw [loadedState, loadRecords_eq]
  rfl

/-- Before start-up is complete no input is selected and no switch record runs (R62, R63, R85). -/
theorem pictureFits_unsettled {s : State} (h : pictureFits s = true) (hp : s.sto.phase = .loading) :
    s.ssw.timer = none ∧ s.ssw.trained = false ∧ s.ssw.mute = true := by
  have hc : (s.sto.phase == StartPhase.complete) = false := by rw [hp]; rfl
  simp only [pictureFits, recordFits, selectionFits, hc, Bool.and_eq_true, beq_iff_eq] at h
  simp at h
  obtain ⟨⟨-, ⟨-, ht⟩, -⟩, ⟨⟨-, htr⟩, hr⟩, hm⟩ := h
  exact ⟨by simpa [hr] using ht, htr, hm⟩

theorem settledAs_eq (a b : Nat) (x : Bool) (t : TimetableRecord) (c : Ptc) (o : Sto) (s : State) :
    settledAs a b x t c o s =
      { s with
        uptime := s.uptime + a
        cal := Nat.repeat Cal.next b s.cal
        inputs := timingsForgotten s.timings s.inputs
        timetable := t
        lsq := { resetLsq with
          state := startLamp s.lamp
          coolTimer := (startTimer s.lamp s.settings.cool).map (· - a) }
        inm := { s.inm with
          path := Vector.ofFn fun x => { s with inputs := timingsForgotten s.timings s.inputs }.restPath x }
        ssw := { s.ssw with selected := some s.inputs.powerOnInput, autoOffTest := x }
        geo := { resetGeo with
          liveV := (timingsForgotten s.timings s.inputs).entries[s.inputs.powerOnInput].presetV
          liveH := (timingsForgotten s.timings s.inputs).entries[s.inputs.powerOnInput].presetH
          active := some
            ⟨presetWarp { s with inputs := timingsForgotten s.timings s.inputs } s.inputs.powerOnInput .start, 0⟩ }
        ptc := c
        sto := o } := by
  rw [settledAs, settleGeometry_settled, settleSource_settled]
  rfl

theorem startUp_settling (falls : Vector (List SettlingEvent) 5) (s : State) : startUp falls s =
    setPhase .complete (lateCheck none (settling falls (loadedState s)).lkc.service (settling falls (loadedState s))) := rfl

theorem startUp_sto (falls : Vector (List SettlingEvent) 5) (s : State) : (startUp falls s).sto =
    { (lateCheck none (settling falls (loadedState s)).lkc.service (settling falls (loadedState s))).sto with
      phase := .complete } := rfl

theorem startUp_keeps (falls : Vector (List SettlingEvent) 5) (s : State) :
    Keeps powerParts (settling falls (loadedState s)) (startUp falls s) :=
  (lateCheck_keeps _ _ _).seq (modSto_keeps _ _)

/-- With no session closing, the check answers as the query does. -/
theorem lateAnswer_none (s : State) (d : Date) (m : Nat) : s.lateAnswer none d m = s.lateStart d m := by
  rw [State.lateAnswer]
  cases s.lateStart d m <;> rfl

theorem lateCheck_found {b : Bool} {s : State} {f : Found}
    (h : s.lateStart s.cal.date (minuteOf s.cal.time) = some f) :
    lateCheck none b s = openScheduled .late f s.cal.date b true s := by
  simp [lateCheck, lateAnswer_none, h]

/-- The check only marks records, and keeps a warp active and an input selected. -/
theorem lateCheck_start (b : Bool) (s : State) : (∃ m, (lateCheck none b s).sto = marks m s.sto) ∧
    (s.geo.active ≠ none → (lateCheck none b s).geo.active ≠ none) ∧
    (s.ssw.selected ≠ none → (lateCheck none b s).ssw.selected ≠ none) := by
  cases h : s.lateStart s.cal.date (minuteOf s.cal.time) with
  | none =>
    rw [lateCheck_none ((lateAnswer_none _ _ _).trans h)]
    exact ⟨⟨[], rfl⟩, id, id⟩
  | some f =>
    rw [lateCheck_found h]
    have hk := openScheduled_kept .late f s.cal.date b s
    exact ⟨hk.store, hk.active, hk.selected⟩

/-- The late-start query answers after start-up as it did at the check. -/
theorem startUp_lateStart (falls : Vector (List SettlingEvent) 5) (s : State) (d : Date) (m : Nat) :
    (startUp falls s).lateStart d m = (settling falls (loadedState s)).lateStart d m := by
  have hc : (startUp falls s).cal = (settling falls (loadedState s)).cal := startUp_keeps falls s .cal (by decide)
  have ht : (startUp falls s).timetable = (settling falls (loadedState s)).timetable :=
    startUp_keeps falls s .timetable (by decide)
  simp only [State.lateStart, hc, ht]

/-- With no late start, start-up completes as the blocks have settled. -/
theorem startUp_none {falls : Vector (List SettlingEvent) 5} {s : State}
    (h : (startUp falls s).lateStart (startUp falls s).cal.date (minuteOf (startUp falls s).cal.time) = none) :
    startUp falls s = setPhase .complete (settling falls (loadedState s)) := by
  have hc : (startUp falls s).cal = (settling falls (loadedState s)).cal := startUp_keeps falls s .cal (by decide)
  rw [startUp_lateStart, hc, ← lateAnswer_none] at h
  rw [startUp_settling, lateCheck_none h]

/-- A late start opens its session, its actions suppressed with the service flag set (R162). -/
theorem startUp_found {falls : Vector (List SettlingEvent) 5} {s : State} {f : Found}
    (h : (startUp falls s).lateStart (startUp falls s).cal.date (minuteOf (startUp falls s).cal.time) = some f) :
    (startUp falls s).ses.map sessionKey = some (.scheduled, some f.slot, (startUp falls s).cal.date,
      (startUp falls s).cal.time, (startUp falls s).cal.date, f.entry.stop, f.entry.level,
      (settling falls (loadedState s)).lkc.service) ∧
    (startUp falls s).lkc.sessionLevel = some f.entry.level := by
  have hc : (startUp falls s).cal = (settling falls (loadedState s)).cal := startUp_keeps falls s .cal (by decide)
  rw [startUp_lateStart, hc] at h
  have hk := openScheduled_kept .late f (settling falls (loadedState s)).cal.date
    (settling falls (loadedState s)).lkc.service (settling falls (loadedState s))
  rw [hc, startUp_settling, lateCheck_found h]
  exact ⟨hk.session, hk.level⟩

/-- The lamp state that start-up chooses (R24). -/
theorem startLamp_eq (r : LampRecord) : startLamp r =
    if r.cur.hot then (if r.fault.isSome then .faultCooling else .cooling)
    else (if r.fault.isSome then .fault else .off) := by
  unfold startLamp
  cases r.cur.hot <;> cases r.fault <;> rfl

theorem startTimer_passed (r : LampRecord) (cool n : Nat) :
    (startTimer r cool).map (· - n) = if r.cur.hot then some (cool - n) else none := by
  unfold startTimer
  split <;> rfl

end Sys2Proof.Machine

open Sys2Proof Sys2Proof.Machine

/-- Settles O60: loading, the five steps and the late-start check, read field by field. -/
theorem startUpSettles : Obligations.StartUpSettles := by
  unfold Obligations.StartUpSettles
  intro falls f i s
  refine ⟨fun h => ?_, fun hp hl hf hi => ?_⟩
  · show Host.Outcome.next _ = _
    rw [if_neg]
    obtain h | h := h <;> simp [h]
  have hc : exec (.startupLoadComplete falls) s = .next (settle (startUp falls s)) := by
    show Host.Outcome.next _ = _
    rw [if_pos (by simp [hp, hl])]
  refine settles_of_eq hc ?_
  obtain ⟨htimer, htrained, hmute⟩ := pictureFits_unsettled hf hl
  have hL := loadedState_eq s
  obtain ⟨x, t, c, m, hw, ht⟩ := settling_eq falls (s := loadedState s) (by rw [hL]; exact htimer) (by rw [hL]; exact htrained)
  rw [settledAs_eq] at hw
  have hk := startUp_keeps falls s
  obtain ⟨⟨n, hn⟩, hact, hsel⟩ := lateCheck_start (settling falls (loadedState s)).lkc.service (settling falls (loadedState s))
  have hsto := startUp_sto falls s
  rw [hn] at hsto
  have hnone := startUp_none (falls := falls) (s := s)
  have hfound := startUp_found (falls := falls) (s := s) (f := f)
  have hgs := startUp_settling falls s
  have hquiet := settling_quiet (loadedState s)
  have hq : falls = Vector.replicate 5 [] →
      settling (Vector.replicate 5 []) (loadedState s) = settling falls (loadedState s) := fun h => by rw [h]
  generalize startUp falls s = u at *
  generalize settling falls (loadedState s) = w at *
  generalize settling (Vector.replicate 5 []) (loadedState s) = w' at *
  subst hw
  generalize loadedState s = l at *
  subst hL
  have hcal : u.cal = Nat.repeat Cal.next (falls.toList.flatten.count .calendar) s.cal := hk .cal (by decide)
  have htab : u.timetable = t := hk .timetable (by decide)
  refine ⟨?_, ?_, ?_, ?_, fun z hz => ?_, hk .settings (by decide), hk .timings (by decide), ?_, fun hno => ?_, ?_, hcal, ?_,
    ?_, ?_, ?_, ?_, ?_, ?_⟩
  · rw [hsto]
  · rw [hsto]
    rfl
  · rw [hsto]
    rfl
  · rw [hsto]
    rfl
  · rw [hsto]
    refine mem_markedInTurn.mpr (.inr (mem_markedInTurn.mpr (.inr (mem_markedInTurn.mpr (.inl ?_)))))
    exact List.mem_map_of_mem hz
  · rw [show u.timings = _ from hk .timings (by decide)]
    exact hk .inputs (by decide)
  · rw [htab, ht hno, hcal]
    rfl
  · exact hk .uptime (by decide)
  · rw [hgs]
    exact hact (by simp)
  · rw [hgs]
    exact hsel (by simp)
  · refine .seq (b := powerParts) (a := [.uptime, .lamp, .inputs, .timings, .timetable, .settings, .lsq, .inm, .ssw, .geo,
      .cal, .ports, .store]) ?_ hk
    simp [keeps_iff]
  · intro hv
    simp [State.lateStart, hv]
  · intro hn
    have hw := hnone hn
    have hinp : u.inputs = _ := hk .inputs (by decide)
    have htim : u.timings = _ := hk .timings (by decide)
    have hset : u.settings = _ := hk .settings (by decide)
    have hlamp : u.lamp = loadedFrom s.sto.images.lamp lampOk State.reset.lamp := by rw [hw]; rfl
    have hpath (y : Fin 6) : u.inm.path[y] = u.restPath y := by
      have hy (f : Fin 6 → PathState) : (Vector.ofFn f)[y] = f y := by simp
      rw [hw]
      exact hy _
    refine ⟨hlamp, ?_, ?_, by rw [hw]; exact htrained, by rw [hw]; exact hmute, by rw [hw]; rfl, by rw [hw]; rfl, hpath,
      by rw [hw]; rfl, by rw [hw]; rfl, ?_⟩
    · rw [hlamp, hset, ← startLamp_eq, ← startTimer_passed, hw]
      rfl
    · rw [hi, hw]
      rfl
    · refine (congrArg State.geo hw).trans ?_
      simp only [presetWarp, State.warpAt, State.sourceSize, hinp, htim, hi]
      rfl
  · exact hfound
  · intro hr hn
    have hw := hnone hn
    have htq : t = purgedBefore s.cal.date (loadedFrom s.sto.images.timetable timetableOk defaultTimetable) := by
      subst hr
      exact ht (by simp)
    obtain ⟨hptc, hsto'⟩ := hquiet
    rw [hq hr] at hptc hsto'
    subst htq hi
    constructor
    · rw [hw, List.append_assoc, markedInTurn_append]
      exact congrArg Sto.dirty hsto'
    · rw [raised_iff, hw]
      refine hptc.trans ?_
      rw [List.append_assoc]
      exact Ptc.hear_hear (loadedFrom s.sto.images.settings settingsOk defaultSettings) s.lines.engRst s.cal.time _ _ s.ptc

end

section
/-! PROOFS. The range checks of the records, part by part, and what keeps them (for O11). -/

namespace Sys2Proof.Machine

set_option Elab.async false

/-! ### Ranges and marks -/

theorem range_holds_iff (r : Config.Range) (n : Nat) : r.holds n = true ↔ r.lo ≤ n ∧ n ≤ r.hi := by
  simp [Config.Range.holds]

theorem range_holds_clamp (r : Config.Range) (n : Nat) (h : r.lo ≤ r.hi) : r.holds (r.clamp n) = true :=
  (range_holds_iff r _).mpr (clamp_bounds r n h)

theorem newNat_holds {w : Nat} (r : Config.Range) (b : Option (BitVec w)) {old : Nat} (ho : r.holds old = true)
    (h : r.lo ≤ r.hi := by decide) : r.holds (newNat r b old) = true := by
  cases b with
  | none => exact ho
  | some n => exact range_holds_clamp r _ h

/-- A value stands unclamped exactly where it lies within the bounds. -/
theorem clampSym_beq_iff {m n : Int} (h : 0 ≤ m) : (clampSym m n == n) = true ↔ -m ≤ n ∧ n ≤ m := by
  rw [beq_iff_eq]
  exact ⟨fun e => e ▸ clampSym_bounds m n h, fun ⟨h₁, h₂⟩ => clampSym_eq m n h₁ h₂⟩

theorem clampSym_clampSym_beq {m : Int} (n : Int) (h : 0 ≤ m) : (clampSym m (clampSym m n) == clampSym m n) = true :=
  (clampSym_beq_iff h).mpr (clampSym_bounds m n h)

/-! ### Dates and times (R124) -/

theorem monthDays_bounds (y m : Nat) : 1 ≤ monthDays y m ∧ monthDays y m ≤ 31 := by
  unfold monthDays
  split
  · split <;> decide
  all_goals decide

theorem validDate_iff (d : Date) : validDate d = true ↔
    2000 ≤ d.year ∧ d.year ≤ 2099 ∧ 1 ≤ d.month ∧ d.month ≤ 12 ∧ 1 ≤ d.day ∧ d.day ≤ monthDays d.year d.month := by
  simp [validDate, and_assoc]

theorem validDate_nextDate {d : Date} (h : validDate d = true) : validDate (nextDate d) = true := by
  obtain ⟨hy, hy', hm, hm', hd, hd'⟩ := (validDate_iff d).mp h
  unfold nextDate
  split_ifs with h₁ h₂ h₃
  · exact (validDate_iff _).mpr ⟨hy, hy', hm, hm', Nat.le_add_left 1 _, h₁⟩
  · exact (validDate_iff _).mpr ⟨hy, hy', Nat.le_add_left 1 _, h₂, Nat.le_refl 1, (monthDays_bounds _ _).1⟩
  · exact (validDate_iff _).mpr ⟨Nat.le_succ_of_le hy, h₃, Nat.le_refl 1, (by decide : 1 ≤ 12), Nat.le_refl 1, (monthDays_bounds _ _).1⟩
  · rfl

theorem validTime_timeAfter (t : TimeOfDay) (n : Nat) : validTime (timeAfter t n) = true := by
  have h (k : Nat) (hk : k < 86400) : validTime ⟨k / 3600, k / 60 % 60, k % 60⟩ = true := by
    simp only [validTime, Bool.and_eq_true, decide_eq_true_eq]
    omega
  exact h _ (Nat.mod_lt _ (by decide))

/-- Two dates of the calendar with the same number are the same date. -/
theorem dateKey_inj {a b : Date} (ha : validDate a = true) (hb : validDate b = true) (h : dateKey a = dateKey b) : a = b := by
  obtain ⟨-, -, -, hm, -, hd⟩ := (validDate_iff a).mp ha
  obtain ⟨-, -, -, hm', -, hd'⟩ := (validDate_iff b).mp hb
  have ha31 := (monthDays_bounds a.year a.month).2
  have hb31 := (monthDays_bounds b.year b.month).2
  obtain ⟨y, m, d⟩ := a
  obtain ⟨y', m', d'⟩ := b
  simp only [dateKey, Date.mk.injEq] at *
  omega

/-- CAL shows a date and a time. -/
def Cal.inRange (c : Cal) : Prop := validDate c.date = true ∧ validTime c.time = true

theorem Cal.inRange_next {c : Cal} (h : c.inRange) : c.next.inRange := by
  unfold Cal.next
  dsimp only
  split
  · exact ⟨validDate_nextDate h.1, validTime_timeAfter _ _⟩
  · exact ⟨h.1, validTime_timeAfter _ _⟩

theorem Cal.inRange_calAtRise {c : Cal} (h : c.inRange) : (calAtRise c).inRange := by
  unfold calAtRise
  split
  · exact ⟨rfl, rfl⟩
  · exact h

/-! ### LAMP (R28, R29, R38) -/

theorem countsOk_iff (h u l k f : Nat) : countsOk h u l k f = true ↔
    h ≤ Config.count16Max ∧ u < Config.unitsPerHour ∧ l ≤ Config.litSecondsMax ∧ k ≤ Config.count16Max ∧
      f ≤ Config.count16Max := by
  simp [countsOk, and_assoc]

/-- The current account keeps its ranges. -/
def CurrentLamp.inRange (c : CurrentLamp) : Prop :=
  countsOk c.hours c.sub c.litSeconds c.strikes c.failed = true ∧ validDate c.installed = true

theorem lampOk_iff (r : LampRecord) : lampOk r = true ↔
    r.cur.inRange ∧ (r.history.length ≤ Config.historyMax ∧ ∀ x ∈ r.history, closedOk x = true) ∧
    (Config.lampHours.holds r.warnHours = true ∧ Config.lampHours.holds r.lifeHours = true ∧ r.warnHours ≤ r.lifeHours) ∧
    Config.strikeWear.holds r.strikeWear = true ∧ (∀ f ∈ r.fault, faultOk f = true) := by
  simp [lampOk, CurrentLamp.inRange, and_assoc, Option.all_eq_true]

theorem countUp_le {m n : Nat} (h : n ≤ m) : countUp m n ≤ m := by
  unfold countUp
  split <;> omega

/-- The cascade of R28 carries at most one hour, so that one hour's units at most may join. -/
theorem addUnits_inRange {n : Nat} {c : CurrentLamp} (hn : n ≤ Config.unitsPerHour) (h : c.inRange) :
    (addUnits n c).inRange := by
  obtain ⟨hc, hd⟩ := h
  obtain ⟨hh, hu, hl⟩ := (countsOk_iff _ _ _ _ _).mp hc
  unfold addUnits
  split_ifs with h₁ h₂
  · exact ⟨(countsOk_iff _ _ _ _ _).mpr ⟨hh, h₁, hl⟩, hd⟩
  · exact ⟨(countsOk_iff _ _ _ _ _).mpr ⟨h₂, by dsimp only; omega, hl⟩, hd⟩
  · exact ⟨(countsOk_iff _ _ _ _ _).mpr ⟨hh, (by decide : Config.unitsPerHour - 1 < _), hl⟩, hd⟩

theorem lampOk_cold {r : LampRecord} (h : lampOk r = true) : lampOk (cold r) = true := h

/-- A strike adds one count and at most STRIKE_WEAR's 2,400 units. -/
theorem lampOk_charged {r : LampRecord} (h : lampOk r = true) : lampOk (charged r) = true := by
  rw [lampOk_iff] at h ⊢
  obtain ⟨⟨hc, hd⟩, hrest⟩ := h
  refine ⟨addUnits_inRange ?_ ⟨?_, hd⟩, hrest⟩
  · obtain ⟨-, -, hw, -⟩ := hrest
    exact Nat.le_trans ((range_holds_iff _ _).mp hw).2 (by decide)
  · rw [countsOk_iff] at hc ⊢
    obtain ⟨hh, hu, hl, hk, hf⟩ := hc
    exact ⟨hh, hu, hl, countUp_le hk, hf⟩

/-- A lit second adds one count and at most 8 units. -/
theorem lampOk_litLamp {r : LampRecord} (p : PowerLevel) (h : lampOk r = true) : lampOk (litLamp (levelUnits p) r) = true := by
  rw [lampOk_iff] at h ⊢
  obtain ⟨⟨hc, hd⟩, hrest⟩ := h
  refine ⟨addUnits_inRange (by cases p <;> decide) ⟨?_, hd⟩, hrest⟩
  rw [countsOk_iff] at hc ⊢
  obtain ⟨hh, hu, hl, hk⟩ := hc
  exact ⟨hh, hu, countUp_le hl, hk⟩

/-- An attempt that fails by timeout adds one count. -/
theorem lampOk_failed {r : LampRecord} (h : lampOk r = true) :
    lampOk (modCur (fun c => { c with failed := countUp Config.count16Max c.failed }) r) = true := by
  rw [lampOk_iff] at h ⊢
  obtain ⟨⟨hc, hd⟩, hrest⟩ := h
  refine ⟨⟨?_, hd⟩, hrest⟩
  rw [countsOk_iff] at hc ⊢
  obtain ⟨hh, hu, hl, hk, hf⟩ := hc
  exact ⟨hh, hu, hl, hk, countUp_le hf⟩

theorem faultOk_iff (f : FaultRecord) : faultOk f = true ↔
    validDate f.date = true ∧ validTime f.time = true ∧ countsOk f.hours f.sub 0 f.strikes 0 = true ∧
      f.later ≤ Config.laterFaultsMax := by
  simp [faultOk, and_assoc]

/-- A fault record is made with CAL's date and time and the account's counts, and counts the faults after it up to 255. -/
theorem lampOk_faulted {s : State} (k : FaultKind) (h : lampOk s.lamp = true) (hc : s.cal.inRange) :
    lampOk (faulted k s) = true := by
  rw [lampOk_iff] at h ⊢
  obtain ⟨hcur, hhist, hlim, hw, hf⟩ := h
  refine ⟨hcur, hhist, hlim, hw, ?_⟩
  rintro _ ⟨rfl⟩
  rw [faultOk_iff]
  unfold faultAfter
  cases hx : s.lamp.fault with
  | none =>
    obtain ⟨hh, hu, -, hk, -⟩ := (countsOk_iff _ _ _ _ _).mp hcur.1
    exact ⟨hc.1, hc.2, (countsOk_iff _ _ _ _ _).mpr ⟨hh, hu, by decide, hk, by decide⟩, Nat.zero_le _⟩
  | some f =>
    obtain ⟨hd, ht, hn, hl⟩ := (faultOk_iff f).mp (hf f hx)
    exact ⟨hd, ht, hn, by dsimp only; omega⟩

theorem lampOk_fault_none {r : LampRecord} (h : lampOk r = true) : lampOk { r with fault := none } = true := by
  rw [lampOk_iff] at h ⊢
  obtain ⟨hcur, hhist, hlim, hw, -⟩ := h
  exact ⟨hcur, hhist, hlim, hw, nofun⟩

/-- A history that keeps its length takes one closed record more. -/
theorem fileClosed_ok {l : List ClosedLamp} {x : ClosedLamp} (hl : l.length ≤ Config.historyMax)
    (ha : ∀ y ∈ l, closedOk y = true) (hx : closedOk x = true) :
    (fileClosed l x).length ≤ Config.historyMax ∧ ∀ y ∈ fileClosed l x, closedOk y = true := by
  rw [fileClosed_eq]
  constructor
  · simp only [Config.historyMax] at hl ⊢
    simp
    omega
  · intro y hy
    obtain hy | hy := List.mem_append.mp hy
    · exact ha y (List.mem_of_mem_drop hy)
    · rwa [List.mem_singleton.mp hy]

/-- A replacement files the account with CAL's date and starts a fresh one (R41). -/
theorem lampOk_replaceLamp {c : Cal} {r : LampRecord} (h : lampOk r = true) (hc : c.inRange) :
    lampOk (replaceLamp c r) = true := by
  rw [lampOk_iff] at h ⊢
  obtain ⟨⟨hn, hd⟩, ⟨hl, ha⟩, hlim, hw, -⟩ := h
  have hx : closedOk (closedLamp r c) = true := by simp [closedOk, closedLamp, hn, hd, hc.1]
  exact ⟨⟨rfl, hc.1⟩, fileClosed_ok hl ha hx, hlim, hw, nofun⟩

/-- The limits a LAMP_LIMITS leaves are in range and in order (R32). -/
theorem lampOk_limits {r : LampRecord} (w : RawLimits) (h : lampOk r = true) :
    lampOk { r with warnHours := (newLimits w r).1, lifeHours := (newLimits w r).2 } = true := by
  rw [lampOk_iff] at h ⊢
  obtain ⟨hcur, hhist, ⟨hwarn, hlife, -⟩, hrest⟩ := h
  have hw := (range_holds_iff _ _).mp (newNat_holds Config.lampHours w.warn hwarn)
  have hl := (range_holds_iff _ _).mp (newNat_holds Config.lampHours w.life hlife)
  have he : newLimits w r =
      (min (newNat Config.lampHours w.warn r.warnHours) (newNat Config.lampHours w.life r.lifeHours),
        newNat Config.lampHours w.life r.lifeHours) := by
    unfold newLimits newNat
    cases w.warn <;> cases w.life <;> rfl
  rw [he]
  refine ⟨hcur, hhist, ⟨(range_holds_iff _ _).mpr ?_, (range_holds_iff _ _).mpr hl, Nat.min_le_right _ _⟩, hrest⟩
  dsimp only
  omega

/-! ### INPUTS and TIMINGS (R46, R56) -/

theorem vector_all_iff {α : Type} {n : Nat} (v : Vector α n) (p : α → Bool) :
    v.toList.all p = true ↔ ∀ i : Fin n, p v[i] = true := by
  rw [List.all_eq_true]
  constructor
  · exact fun h i => h _ (by simp)
  · intro h x hx
    obtain ⟨i, hi, rfl⟩ := List.mem_iff_getElem.mp hx
    have hi' : i < n := by simpa using hi
    simpa using h ⟨i, hi'⟩

theorem inputsOk_iff (r : InputsRecord) : inputsOk r = true ↔
    (∀ i : Fin 6, inputOk r.entries[i] = true) ∧ Config.panelW.holds r.panelW = true ∧ Config.panelH.holds r.panelH = true := by
  rw [inputsOk, Bool.and_eq_true, Bool.and_eq_true, vector_all_iff, and_assoc]

theorem timingsOk_iff (t : TimingsRecord) : timingsOk t = true ↔ ∀ k : Fin 24, timingOk t[k] = true :=
  vector_all_iff t timingOk

/-- An element of a vector that keeps a property, one of them set to another that has it. -/
theorem getElem_set_of {α : Type} {n : Nat} {v : Vector α n} {i : Fin n} {x : α} {P : α → Prop} (hx : P x)
    (h : ∀ j : Fin n, P v[j]) (j : Fin n) : P (v.set i x)[j] := by
  simp only [Fin.getElem_fin, Vector.getElem_set]
  split
  · exact hx
  · exact h j

theorem inputsOk_set {r : InputsRecord} {i : Fin 6} {e : InputEntry} (h : inputsOk r = true) (he : inputOk e = true) :
    inputsOk { r with entries := r.entries.set i e } = true := by
  rw [inputsOk_iff] at h ⊢
  obtain ⟨ha, hp⟩ := h
  exact ⟨getElem_set_of (P := (inputOk · = true)) he ha, hp⟩

theorem timingsOk_set {t : TimingsRecord} {k : Fin 24} {e : TimingEntry} (h : timingsOk t = true) (he : timingOk e = true) :
    timingsOk (t.set k e) = true := by
  rw [timingsOk_iff] at h ⊢
  exact getElem_set_of (P := (timingOk · = true)) he h

/-- The entry a TIMING_LOAD writes has passed the checks of R58. -/
theorem timingOk_of_timingOf {t : RawTiming} {e : TimingEntry} (h : timingOf t = some e) : timingOk e = true := by
  unfold timingOf at h
  dsimp only at h
  split at h
  next hc =>
    cases h
    simpa [timingOk, and_assoc] using hc
  · cases h

/-- An entry out of use keeps its fields. -/
theorem timingOk_outOfUse {e : TimingEntry} (h : timingOk e = true) : timingOk { e with inUse := false } = true := by
  simp only [timingOk, Bool.and_eq_true] at h ⊢
  exact ⟨h.1, rfl⟩

theorem inputOk_iff (e : InputEntry) : inputOk e = true ↔
    (e.label.length ≤ 12 ∧ e.label.all labelChar = true) ∧ e.priority ≤ 7 ∧
      (clampSym Config.keystoneV e.presetV == e.presetV) = true ∧ (clampSym Config.keystoneH e.presetH == e.presetH) = true := by
  simp [inputOk, and_assoc]

theorem labelOf_ok {l : RawLabel} {x : List Byte} (h : labelOf l = some x) : x.length ≤ 12 ∧ x.all labelChar = true := by
  unfold labelOf at h
  split_ifs at h with h₁ h₂
  cases h
  exact ⟨Nat.le_trans (List.length_take_le _ _) (Nat.not_lt.mp h₁), h₂⟩

/-- The fields an INPUT_CONFIG leaves have passed the checks of R47. -/
theorem inputOk_of_configEntry {c : RawInputConfig} {e x : InputEntry} (h : configEntry c e = some x) (he : inputOk e = true) :
    inputOk x = true := by
  obtain ⟨hl, hp, hv, hh⟩ := (inputOk_iff e).mp he
  simp only [configEntry, Option.bind_eq_bind, Option.bind_eq_some_iff] at h
  obtain ⟨kind, -, enabled, -, label, hlabel, priority, hpriority, aspect, -, hx⟩ := h
  cases hx
  refine (inputOk_iff _).mpr ⟨?_, ?_, ?_, ?_⟩
  · cases hc : c.label with
    | none =>
      rw [hc] at hlabel
      cases hlabel
      exact hl
    | some l =>
      rw [hc] at hlabel
      exact labelOf_ok hlabel
  · cases hc : c.priority with
    | none =>
      rw [hc] at hpriority
      cases hpriority
      exact hp
    | some b =>
      simp only [hc, Option.ite_none_right_eq_some] at hpriority
      obtain ⟨hb, hx⟩ := hpriority
      cases hx
      exact hb
  · dsimp only
    cases c.preset with
    | none => exact hv
    | some p => exact clampSym_clampSym_beq _ (by decide)
  · dsimp only
    cases c.preset with
    | none => exact hh
    | some p => exact clampSym_clampSym_beq _ (by decide)

/-! ### SETTINGS (R3, R84, R112, R144, R175) -/

theorem levelOk_of_levelOf {b : Byte} {l : Level} (h : levelOf b = some l) : levelOk l = true := by
  unfold levelOf at h
  split_ifs at h <;> cases h <;> rfl

/-- A level written by its code is one that a setting may hold. -/
theorem newCode_levelOk (b : Option Byte) {old : Level} (h : levelOk old = true) : levelOk (newCode levelOf b old) = true := by
  unfold newCode
  cases hx : b.bind levelOf with
  | none => exact h
  | some l =>
    obtain ⟨x, -, hl⟩ := Option.bind_eq_some_iff.mp hx
    exact levelOk_of_levelOf hl

/-- Every value a GUARD_SET writes is clamped to its range. -/
theorem settingsOk_guardSettings (g : RawGuard) {t : Settings} (h : settingsOk t = true) :
    settingsOk (guardSettings g t) = true := by
  simp only [settingsOk, Bool.and_eq_true, and_assoc] at h ⊢
  obtain ⟨h₁, h₂, h₃, h₄, h₅, h₆, h₇, h₈, h₉, hbase, h₁₁, hlevel, h₁₃, h₁₄, h₁₅, hmasks⟩ := h
  exact ⟨newNat_holds _ _ h₁, newNat_holds _ _ h₂, newNat_holds _ _ h₃, newNat_holds _ _ h₄, newNat_holds _ _ h₅,
    newNat_holds _ _ h₆, newNat_holds _ _ h₇, newNat_holds _ _ h₈, newNat_holds _ _ h₉, hbase, newNat_holds _ _ h₁₁,
    newCode_levelOk _ hlevel, newNat_holds _ _ h₁₃, newNat_holds _ _ h₁₄, newNat_holds _ _ h₁₅, hmasks⟩

theorem settingsOk_baseLevel {t : Settings} {l : Level} (hl : levelOk l = true) (h : settingsOk t = true) :
    settingsOk { t with baseLevel := l } = true := by
  simp only [settingsOk, Bool.and_eq_true] at h ⊢
  tauto

theorem settingsOk_setMask {t : Settings} (p : PortId) {m : BitVec 24} (hm : m.toNat < 65536) (h : settingsOk t = true) :
    settingsOk (t.setMask p m) = true := by
  have hmask : maskOk m = true := decide_eq_true hm
  cases p <;> simp only [settingsOk, Bool.and_eq_true, Settings.setMask] at h ⊢ <;> tauto

/-! ### TIMETABLE (R129, R131, R135) -/

theorem entryOk_of_entryOf {w : RawEntry} {e : Entry} (h : entryOf w = some e) : entryOk e = true := by
  simp only [entryOf, Option.bind_eq_bind, Option.bind_eq_some_iff, Option.ite_none_left_eq_some, not_or] at h
  obtain ⟨enabled, -, days, hdays, on, -, off, -, source, -, level, hlevel, ⟨hstart, hspan, hstop, hallow⟩, hx⟩ := h
  cases hx
  have hd : daysOk days = true := by
    unfold daysOf at hdays
    split_ifs at hdays with h₁ h₂ h₃ h₄ <;> cases hdays
    · simpa [daysOk] using h₂
    · exact h₄
  simp only [entryOk, Bool.and_eq_true, decide_eq_true_eq, and_assoc]
  exact ⟨hd, Nat.not_lt.mp hstart, Nat.not_lt.mp hspan, Nat.not_lt.mp hstop, levelOk_of_levelOf hlevel, Nat.min_le_right _ _,
    Nat.not_lt.mp hallow⟩

theorem conflicts_comm (a b : Entry) : conflicts a b = conflicts b a := by
  have hr : canBothRun a b = canBothRun b a := by
    unfold canBothRun
    cases a.days <;> cases b.days <;> simp [BitVec.and_comm, Bool.beq_comm]
  simp only [conflicts, hr, spansOverlap, Bool.and_comm]

/-- The entries keep their ranges, and none conflicts with that of another slot. -/
def slotsFit (v : Vector (Option Entry) 48) : Prop :=
  ∀ (i : Fin 48) (e : Entry), v[i] = some e →
    entryOk e = true ∧ ∀ (j : Fin 48) (x : Entry), j ≠ i → v[j] = some x → conflicts e x = false

/-- The dates are of the calendar, strictly ascending and at most 16 (R135). -/
def holidaysFit (l : List Date) : Prop :=
  (∀ d ∈ l, validDate d = true) ∧ l.Pairwise (fun a b => dateBefore a b = true) ∧ l.length ≤ Config.holidaysMax

theorem noOverlap_iff (l : List Entry) : noOverlap l = true ↔ l.Pairwise fun a b => conflicts a b = false := by
  induction l with
  | nil => simp [noOverlap]
  | cons e l ih => simp [noOverlap, ih]

theorem dateBefore_trans {a b c : Date} (h₁ : dateBefore a b = true) (h₂ : dateBefore b c = true) : dateBefore a c = true := by
  simp only [dateBefore, decide_eq_true_eq] at *
  omega

theorem ascending_iff (l : List Date) : ascending l = true ↔ l.Pairwise fun a b => dateBefore a b = true := by
  induction l with
  | nil => simp [ascending]
  | cons a l ih =>
    cases l with
    | nil => simp [ascending]
    | cons b l =>
      rw [ascending, Bool.and_eq_true, ih, List.pairwise_cons (a := a)]
      refine and_congr_left fun hp => ⟨fun h x hx => ?_, fun h => h b (by simp)⟩
      obtain rfl | hx := List.mem_cons.mp hx
      · exact h
      · exact dateBefore_trans h ((List.pairwise_cons.mp hp).1 x hx)

theorem slotsFit_iff (v : Vector (Option Entry) 48) : slotsFit v ↔
    (v.toList.filterMap id).all entryOk = true ∧ noOverlap (v.toList.filterMap id) = true := by
  rw [noOverlap_iff, List.pairwise_filterMap, List.pairwise_iff_getElem, List.all_filterMap, vector_all_iff]
  constructor
  · intro h
    refine ⟨fun i => ?_, fun i j hi hj hij a ha b hb => ?_⟩
    · cases hv : v[i] with
      | none => rfl
      | some e => exact (h i e hv).1
    · have hi' : i < 48 := by simpa using hi
      have hj' : j < 48 := by simpa using hj
      exact (h ⟨i, hi'⟩ a (by simpa using ha)).2 ⟨j, hj'⟩ b (by simp; omega) (by simpa using hb)
  · rintro ⟨hok, hp⟩ i e he
    have hlt (i j : Fin 48) (a b : Entry) (hij : i < j) (ha : v[i] = some a) (hb : v[j] = some b) : conflicts a b = false :=
      hp i j (by simp) (by simp) hij a (by simpa using ha) b (by simpa using hb)
    refine ⟨by simpa [he] using hok i, fun j x hji hx => ?_⟩
    obtain hij | hij := Nat.lt_or_gt_of_ne (Fin.val_ne_of_ne hji)
    · rw [conflicts_comm]
      exact hlt j i x e hij hx he
    · exact hlt i j e x hij he hx

theorem timetableOk_iff (t : TimetableRecord) : timetableOk t = true ↔ slotsFit t.slots ∧ holidaysFit t.holidays := by
  rw [slotsFit_iff, holidaysFit, ← ascending_iff]
  simp [timetableOk, and_assoc]

/-- Slots that hold nothing but entries of a table that fits fit too. -/
theorem slotsFit_of_sub {v w : Vector (Option Entry) 48} (h : slotsFit v) (hw : ∀ (i : Fin 48) e, w[i] = some e → v[i] = some e) :
    slotsFit w := by
  intro i e he
  obtain ⟨hok, hc⟩ := h i e (hw i e he)
  exact ⟨hok, fun j x hj hx => hc j x hj (hw j x hx)⟩

/-- An entry that conflicts with no other slot's takes its slot (R131). -/
theorem slotsFit_place {v : Vector (Option Entry) 48} {i : Fin 48} {e : Entry} (h : slotsFit v) (he : entryOk e = true)
    (hc : ∀ (j : Fin 48) x, j ≠ i → v[j] = some x → conflicts e x = false) : slotsFit (v.set i (some e)) := by
  have hget (j : Fin 48) : (v.set i (some e))[j] = if i = j then some e else v[j] := by
    simp only [Fin.getElem_fin, Vector.getElem_set, Fin.ext_iff]
  intro j x hx
  rw [hget] at hx
  split at hx
  next hij =>
    cases hx
    subst hij
    refine ⟨he, fun k y hk hy => hc k y hk ?_⟩
    rwa [hget, if_neg (Ne.symm hk)] at hy
  next hij =>
    obtain ⟨hok, hother⟩ := h j x hx
    refine ⟨hok, fun k y hk hy => ?_⟩
    rw [hget] at hy
    split at hy
    next hik =>
      cases hy
      rw [conflicts_comm]
      exact hc j x (Ne.symm hij) hx
    next => exact hother k y hk hy

/-- An ENTRY_WRITE that finds no conflict leaves a table that fits. -/
theorem timetableOk_place {t : TimetableRecord} {i : Fin 48} {e : Entry} (h : timetableOk t = true) (he : entryOk e = true)
    (hc : t.conflict i e = none) : timetableOk { t with slots := t.slots.set i (some e) } = true := by
  rw [timetableOk_iff] at h ⊢
  refine ⟨slotsFit_place h.1 he fun j x hj hx => ?_, h.2⟩
  have := List.find?_eq_none.mp hc j (List.mem_finRange j)
  simpa [hj, hx] using this

/-- Deleting an entry leaves a table that fits (R133). -/
theorem timetableOk_delete {t : TimetableRecord} (i : Fin 48) (h : timetableOk t = true) :
    timetableOk { t with slots := t.slots.set i none } = true := by
  rw [timetableOk_iff] at h ⊢
  refine ⟨slotsFit_of_sub h.1 fun j e he => ?_, h.2⟩
  simp only [Fin.getElem_fin, Vector.getElem_set] at he
  split at he
  · cases he
  · exact he

/-- So does the purge (R139). -/
theorem timetableOk_purged {t : TimetableRecord} (p : Option Entry → Bool) (h : timetableOk t = true) :
    timetableOk { t with slots := t.slots.map fun e => if p e then none else e } = true := by
  rw [timetableOk_iff] at h ⊢
  refine ⟨slotsFit_of_sub h.1 fun j e he => ?_, h.2⟩
  simp only [Fin.getElem_fin, Vector.getElem_map] at he
  split at he
  · cases he
  · exact he

theorem mem_insertDate {d x : Date} {l : List Date} : x ∈ insertDate d l ↔ x = d ∨ x ∈ l := by
  induction l with
  | nil => simp [insertDate]
  | cons y l ih =>
    unfold insertDate
    split
    · simp
    · simp only [List.mem_cons, ih]
      tauto

theorem length_insertDate (d : Date) (l : List Date) : (insertDate d l).length = l.length + 1 := by
  induction l with
  | nil => rfl
  | cons y l ih =>
    unfold insertDate
    split <;> simp [ih]

/-- A date that is not listed stands before or after each date that is. -/
theorem dateBefore_of_not {a b : Date} (ha : validDate a = true) (hb : validDate b = true) (hne : a ≠ b)
    (h : ¬dateBefore a b = true) : dateBefore b a = true := by
  have hk : dateKey a ≠ dateKey b := fun e => hne (dateKey_inj ha hb e)
  simp only [dateBefore, decide_eq_true_eq] at *
  omega

theorem pairwise_insertDate {d : Date} {l : List Date} (hd : validDate d = true) (hn : d ∉ l)
    (hv : ∀ x ∈ l, validDate x = true) (hp : l.Pairwise fun a b => dateBefore a b = true) :
    (insertDate d l).Pairwise fun a b => dateBefore a b = true := by
  induction l with
  | nil => simp [insertDate]
  | cons y l ih =>
    obtain ⟨hy, hl⟩ := List.pairwise_cons.mp hp
    simp only [List.mem_cons, not_or] at hn
    unfold insertDate
    split
    next hdy =>
      refine List.pairwise_cons.mpr ⟨fun x hx => ?_, hp⟩
      obtain rfl | hx := List.mem_cons.mp hx
      · exact hdy
      · exact dateBefore_trans hdy (hy x hx)
    next hdy =>
      refine List.pairwise_cons.mpr ⟨fun x hx => ?_, ih hn.2 (fun x hx => hv x (.tail _ hx)) hl⟩
      obtain rfl | hx := mem_insertDate.mp hx
      · exact dateBefore_of_not hd (hv y (by simp)) hn.1 hdy
      · exact hy x hx

/-- A new date takes its place in a list that is not full (R135). -/
theorem timetableOk_holidayAdd {t : TimetableRecord} {d : Date} (h : timetableOk t = true) (hd : validDate d = true)
    (hn : d ∉ t.holidays) (hl : t.holidays.length < Config.holidaysMax) :
    timetableOk { t with holidays := insertDate d t.holidays } = true := by
  rw [timetableOk_iff] at h ⊢
  obtain ⟨hs, hv, hp, -⟩ := h
  refine ⟨hs, fun x hx => ?_, pairwise_insertDate hd hn hv hp, (length_insertDate d _).trans_le hl⟩
  obtain rfl | hx := mem_insertDate.mp hx
  · exact hd
  · exact hv x hx

/-- A date removed leaves the others in their order (R136). -/
theorem timetableOk_holidayRemove {t : TimetableRecord} (d : Date) (h : timetableOk t = true) :
    timetableOk { t with holidays := t.holidays.erase d } = true := by
  rw [timetableOk_iff] at h ⊢
  obtain ⟨hs, hv, hp, hl⟩ := h
  exact ⟨hs, fun x hx => hv x (List.mem_of_mem_erase hx), hp.sublist List.erase_sublist,
    Nat.le_trans (List.length_erase_le ..) hl⟩

end Sys2Proof.Machine
end

section
/-! PROOFS. What every command keeps within its ranges: the picture, the lamp and the sessions. -/

namespace Sys2Proof.Machine

set_option Elab.async false

/-! ### The parts that have ranges -/

/-- A part stands within its ranges: a record would pass the check of its loading, CAL shows a date and a time, and the live
keystone and the dial accumulator keep their limits. The other parts have no ranges here. -/
def Part.inRange (x : Part) (s : State) : Prop :=
  match x with
  | .settings => settingsOk s.settings = true
  | .lamp => lampOk s.lamp = true
  | .inputs => inputsOk s.inputs = true
  | .timings => timingsOk s.timings = true
  | .timetable => timetableOk s.timetable = true
  | .cal => s.cal.inRange
  | .geo => liveFits s.geo = true
  | _ => True

/-- The parts that have ranges. -/
def Part.ranged : Part → Bool
  | .settings | .lamp | .inputs | .timings | .timetable | .cal | .geo => true
  | _ => false

theorem recordsFit_iff (s : State) : recordsFit s = true ↔ ∀ x : Part, x.inRange s := by
  simp only [recordsFit, Bool.and_eq_true, and_assoc]
  constructor
  · rintro ⟨hset, hlamp, hinp, htim, htab, hdate, htime, hgeo⟩ x
    cases x <;> simp_all [Part.inRange, Cal.inRange]
  · intro h
    exact ⟨h .settings, h .lamp, h .inputs, h .timings, h .timetable, (h .cal).1, (h .cal).2, h .geo⟩

theorem Part.inRange_of_same {x : Part} {s t : State} (h : x.same s t) (hs : x.inRange s) : x.inRange t := by
  cases x <;> simp_all [Part.same, Part.inRange]

theorem Part.inRange_of_unranged {x : Part} (h : x.ranged = false) (s : State) : x.inRange s := by
  cases x <;> simp_all [Part.ranged, Part.inRange]

/-- Where every part stood within its ranges, every part still does. -/
def KeepsRanges (s t : State) : Prop := (∀ x : Part, x.inRange s) → ∀ x : Part, x.inRange t

theorem KeepsRanges.refl (s : State) : KeepsRanges s s := id

theorem KeepsRanges.trans {s t u : State} (h₁ : KeepsRanges s t) (h₂ : KeepsRanges t u) : KeepsRanges s u := h₂ ∘ h₁

theorem KeepsRanges.ite {s t u : State} {p : Prop} [Decidable p] (h₁ : p → KeepsRanges s t) (h₂ : ¬p → KeepsRanges s u) :
    KeepsRanges s (if p then t else u) := by
  split
  next h => exact h₁ h
  next h => exact h₂ h

/-- Of the parts that a change may touch, those with ranges are to be shown within them. -/
theorem KeepsRanges.of_keeps {l : List Part} {s t : State} (h : Keeps l s t)
    (hl : (∀ x : Part, x.inRange s) → ∀ x ∈ l, x.ranged = true → x.inRange t) : KeepsRanges s t := by
  intro hs x
  by_cases hx : x ∈ l
  · cases hr : x.ranged with
    | true => exact hl hs x hx hr
    | false => exact x.inRange_of_unranged hr t
  · exact x.inRange_of_same (h x hx) (hs x)

/-- A change that touches no part with ranges. -/
theorem KeepsRanges.of_unranged {l : List Part} {s t : State} (h : Keeps l s t)
    (hl : l.all (fun x => !x.ranged) = true := by decide) : KeepsRanges s t :=
  .of_keeps h fun _ x hx hr => by simpa [hr] using List.all_eq_true.mp hl x hx

/-- A change that touches one part with ranges. -/
theorem KeepsRanges.of_part (x : Part) {l : List Part} {s t : State} (h : Keeps l s t)
    (hx : (∀ y : Part, y.inRange s) → x.inRange t)
    (hl : l.all (fun y => y == x || !y.ranged) = true := by decide) : KeepsRanges s t := by
  refine .of_keeps h fun hs y hy hr => ?_
  have hyx : y = x := by simpa [hr] using List.all_eq_true.mp hl y hy
  exact hyx ▸ hx hs

section

variable {s : State}

/-! ### The live keystone and the warp (R90, R95, R101) -/

theorem liveFits_iff (q : Geo) : liveFits q = true ↔
    (-Config.keystoneV ≤ q.liveV ∧ q.liveV ≤ Config.keystoneV) ∧ (-Config.keystoneH ≤ q.liveH ∧ q.liveH ≤ Config.keystoneH) ∧
      -3 ≤ q.dialAcc ∧ q.dialAcc ≤ 3 := by
  simp only [liveFits, Bool.and_eq_true, clampSym_beq_iff (show (0 : Int) ≤ Config.keystoneV by decide),
    clampSym_beq_iff (show (0 : Int) ≤ Config.keystoneH by decide), decide_eq_true_eq, and_assoc]

theorem modGeo_ranges (f : Geo → Geo) (h : liveFits s.geo = true → liveFits (f s.geo) = true) : KeepsRanges s (s.modGeo f) :=
  .of_part .geo (modGeo_keeps f s) fun hs => h (hs .geo)

theorem takeWarp_ranges (w : Warp) : KeepsRanges s (takeWarp w s) :=
  (modGeo_ranges _ id).trans <| .trans (.of_unranged (raise_keeps _ _)) (.of_unranged (takeReported_keeps _))

theorem recompute_ranges (c : WarpCause) : KeepsRanges s (recompute c s) := by
  unfold recompute
  split
  · exact .refl s
  · exact .ite (fun _ => modGeo_ranges _ id) fun _ => takeWarp_ranges _

theorem takePending_ranges : KeepsRanges s (takePending s) := by
  unfold takePending
  split
  · exact .refl s
  · exact takeWarp_ranges _

theorem leftLocked_ranges (b : Bool) : KeepsRanges s (leftLocked b s) := .ite (fun _ => takePending_ranges) fun _ => .refl s

/-- A stored preset is a keystone in its limits, and so is the live keystone set to it (R91). -/
theorem preset_ranges (i : Fin 6) : KeepsRanges s (s.modGeo fun q =>
    { q with liveV := s.inputs.entries[i].presetV, liveH := s.inputs.entries[i].presetH }) := by
  refine .of_part .geo (modGeo_keeps _ s) fun hs => ?_
  have hg := hs .geo
  obtain ⟨hi, -⟩ := (inputsOk_iff _).mp (hs .inputs)
  obtain ⟨-, -, hv, hh⟩ := (inputOk_iff _).mp (hi i)
  simp only [Part.inRange, liveFits, Bool.and_eq_true, State.modGeo_geo] at hg ⊢
  exact ⟨⟨⟨hv, hh⟩, hg.1.2⟩, hg.2⟩

theorem applyPreset_ranges (c : WarpCause) : KeepsRanges s (applyPreset c s) := by
  unfold applyPreset
  split
  · exact .refl s
  · exact (preset_ranges _).trans (recompute_ranges c)

theorem keystoneRequest_ranges (k : RawKeystone) : KeepsRanges s (keystoneRequest k s).1 := by
  unfold keystoneRequest
  split
  · exact .refl s
  split
  · exact .refl s
  · refine .trans (modGeo_ranges _ fun hg => ?_) (recompute_ranges _)
    obtain ⟨hv, hh, hd⟩ := (liveFits_iff _).mp hg
    refine (liveFits_iff _).mpr ⟨?_, ?_, hd⟩
    · cases k.v with
      | none => exact hv
      | some b => exact clampSym_bounds _ _ (by decide)
    · cases k.h with
      | none => exact hh
      | some b => exact clampSym_bounds _ _ (by decide)

theorem dialStep_ranges (n : Int) : KeepsRanges s (dialStep n s) := by
  refine .trans (modGeo_ranges _ fun hg => ?_) (recompute_ranges _)
  obtain ⟨hv, hh, hd⟩ := (liveFits_iff _).mp hg
  cases s.geo.axis with
  | v => exact (liveFits_iff _).mpr ⟨clampSym_bounds _ _ (by decide), hh, hd⟩
  | h => exact (liveFits_iff _).mpr ⟨hv, clampSym_bounds _ _ (by decide), hd⟩

/-- With the accumulator at 0 GEO keeps its ranges. -/
theorem dialCleared_ranges (f : Geo → Geo) (hv : (f s.geo).liveV = s.geo.liveV) (hh : (f s.geo).liveH = s.geo.liveH)
    (ha : (f s.geo).dialAcc = 0) : KeepsRanges s (s.modGeo f) := by
  refine modGeo_ranges f fun hg => ?_
  rw [liveFits_iff] at hg ⊢
  rw [hv, hh, ha]
  exact ⟨hg.1, hg.2.1, by decide⟩

/-- One count moves the accumulator by one, and at 4 it returns to 0 (R95). -/
theorem dialCounted_ranges {n : Int} (h : n = 1 ∨ n = -1) : KeepsRanges s (dialCounted n s) := by
  unfold dialCounted dialAllowed dialDenied raiseDenied
  dsimp only
  refine .ite (fun _ => .ite (fun _ => ?_) fun hn => ?_) fun _ => .ite (fun _ => ?_) fun _ => ?_
  · exact (dialCleared_ranges _ rfl rfl rfl).trans (dialStep_ranges n)
  · refine modGeo_ranges _ fun hg => ?_
    obtain ⟨hv, hh, hd⟩ := (liveFits_iff _).mp hg
    exact (liveFits_iff _).mpr ⟨hv, hh, by dsimp only; omega⟩
  · exact dialCleared_ranges _ rfl rfl rfl
  · exact (dialCleared_ranges _ rfl rfl rfl).trans (.of_unranged (raise_keeps _ _))

/-- A change of the dial counts one step either way, or none (R94). -/
theorem dialCount_eq_some {a b a' b' : Bool} {n : Int} (h : dialCount a b a' b' = some n) : n = 1 ∨ n = -1 := by
  unfold dialCount at h
  split_ifs at h <;> cases h <;> decide

/-! ### Source selection -/

theorem beginTraining_ranges (k : SwitchKind) (o : Origin) (i : Fin 6) : KeepsRanges s (beginTraining k o i s) :=
  .of_unranged (beginTraining_keeps k o i s)

theorem endScan_ranges : KeepsRanges s (endScan s) := .of_unranged (endScan_keeps s)

theorem sswSelect_ranges (o : Origin) (i : Fin 6) : KeepsRanges s (sswSelect o i s).1 := by
  unfold sswSelect
  split
  · exact .refl s
  split
  · exact .refl s
  · exact endScan_ranges.trans <| (beginTraining_ranges _ _ _).trans (applyPreset_ranges _)

theorem retrainSelected_ranges (o : Origin) (i : Fin 6) : KeepsRanges s (retrainSelected o i s) :=
  (beginTraining_ranges _ _ _).trans (leftLocked_ranges _)

theorem firstPowerOn_ranges : KeepsRanges s (firstPowerOn s) := by
  unfold firstPowerOn
  split
  · exact .refl s
  · exact .ite (fun _ => .refl s) fun _ => retrainSelected_ranges _ _

theorem modSsw_ranges (f : Ssw → Ssw) : KeepsRanges s (s.modSsw f) := .of_unranged (modSsw_keeps f s)

theorem scanSelect_ranges (i : Fin 6) : KeepsRanges s (scanSelect i s) :=
  (beginTraining_ranges _ _ _).trans (applyPreset_ranges _)

theorem scanTry_ranges (l : List (Fin 6)) : ∀ s, KeepsRanges s (scanTry l s) := by
  induction l with
  | nil =>
    intro s
    unfold scanTry scanReturn
    split
    · exact endScan_ranges
    · exact (modSsw_ranges _).trans (scanSelect_ranges _)
  | cons i l ih => exact fun s => (modSsw_ranges _).trans (.ite (fun _ => scanSelect_ranges i) fun _ => ih _)

theorem startScan_ranges : KeepsRanges s (startScan s) := by
  unfold startScan
  split
  · exact .refl s
  split
  · exact .refl s
  · exact (modSsw_ranges _).trans (scanTry_ranges _ _)

theorem afterOutcome_ranges (r : Option SwitchRecord) (p : PathState) : KeepsRanges s (afterOutcome r p s) := by
  unfold afterOutcome scanOutcome
  refine .ite (fun _ => ?_) fun _ => .ite (fun _ => startScan_ranges) fun _ => .refl s
  split
  · exact .refl s
  · exact scanTry_ranges _ s
  · exact .ite (fun _ => endScan_ranges.trans startScan_ranges) fun _ => endScan_ranges

theorem reach_ranges (p : PathState) : KeepsRanges s (reach p s) := by
  have h : KeepsRanges s (closeRecord (outcomeState p) (setSelPath p (unready s))) :=
    .trans (.of_unranged (unready_keeps s)) <| .trans (.of_unranged (setSelPath_keeps _ _)) (.of_unranged (closeRecord_keeps _ _))
  exact h.trans <| .trans (.of_unranged (raiseSource_keeps _ _)) <| (leftLocked_ranges _).trans (afterOutcome_ranges _ _)

theorem modInputs_ranges (f : InputsRecord → InputsRecord) (h : inputsOk s.inputs = true → inputsOk (f s.inputs) = true) :
    KeepsRanges s (s.modInputs f) := .of_part .inputs (modInputs_keeps f s) fun hs => h (hs .inputs)

theorem markDirty_ranges (r : RecordName) : KeepsRanges s (markDirty r s) := .of_unranged (markDirty_keeps r s)

/-- The last timing index has no range of its own: an entry stays in range with another (R60). -/
theorem recordTiming_ranges (i : Fin 6) (k : Fin 24) : KeepsRanges s (recordTiming i k s) := by
  refine .ite (fun _ => .refl s) fun _ => .trans (modInputs_ranges _ fun h => ?_) (markDirty_ranges _)
  obtain ⟨hi, -⟩ := (inputsOk_iff _).mp h
  exact inputsOk_set (i := i) h (hi i)

theorem forgetTimings_ranges (g : Fin 24 → Bool) : KeepsRanges s (forgetTimings g s) := by
  refine .ite (fun _ => .trans (modInputs_ranges _ fun h => ?_) (markDirty_ranges _)) fun _ => .refl s
  obtain ⟨hi, hp⟩ := (inputsOk_iff _).mp h
  refine (inputsOk_iff _).mpr ⟨fun i => ?_, hp⟩
  have he := hi i
  simp only [Fin.getElem_fin, Vector.getElem_map] at he ⊢
  split
  · exact he
  · exact he

theorem lockAt_ranges (k : Fin 24) : KeepsRanges s (lockAt k s) := by
  unfold lockAt
  split
  · exact .refl s
  next i _ =>
    have h : KeepsRanges s (recordTiming i k (track (setPath i .locked s))) :=
      .trans (.of_unranged (setPath_keeps _ _ s)) <| .trans (.of_unranged (track_keeps _)) (recordTiming_ranges _ _)
    refine h.trans <| .trans (.of_unranged (unready_keeps _)) <| (recompute_ranges .lock).trans ?_
    refine .trans (.of_unranged (stopNosig_keeps _)) <| .trans (.of_unranged (closeRecord_keeps .locked _)) ?_
    exact endScan_ranges.trans (.of_unranged (raiseSource_keeps _ _))

theorem issueSelect_ranges (x : Option (Fin 6)) : KeepsRanges s (issueSelect x s) := by
  unfold issueSelect
  split
  · exact .refl s
  · exact (sswSelect_ranges _ _).trans (.of_unranged (modSes_keeps _ _))

end

end Sys2Proof.Machine
end

section
/-! PROOFS. What every command keeps within its ranges: the lamp, the sessions and the calendar. -/

namespace Sys2Proof.Machine

set_option Elab.async false

section

variable {s : State}

/-! ### LAMP through the lamp's changes of state -/

/-- A change of lamp state may clear the lamp-hot flag, and nothing else of LAMP (R31). -/
theorem lampChange_lamp (n : LampState) (c : LampCause) (s : State) :
    (lampChange n c s).lamp = s.lamp ∨ (lampChange n c s).lamp = cold s.lamp := by
  cases h : litState n with
  | true =>
    rw [lampChange_lit n c s h]
    exact .inl rfl
  | false =>
    rw [lampChange_dark n c s h]
    dsimp only
    split
    · exact .inr rfl
    · exact .inl rfl

theorem lampChange_ranges (n : LampState) (c : LampCause) : KeepsRanges s (lampChange n c s) :=
  .of_part .lamp (lampChange_keeps n c s) fun hs => by
    obtain h | h := lampChange_lamp n c s
    · exact (congrArg lampOk h).trans (hs .lamp)
    · exact (congrArg lampOk h).trans (lampOk_cold (hs .lamp))

theorem modLsq_ranges (f : Lsq → Lsq) : KeepsRanges s (s.modLsq f) := .of_unranged (modLsq_keeps f s)

theorem goCooling_ranges (c : LampCause) : KeepsRanges s (goCooling c s) :=
  .trans (.of_unranged (stopTimers_keeps s)) <| .trans (.of_unranged (startCool_keeps _)) (lampChange_ranges _ _)

theorem goFaultCooling_ranges : KeepsRanges s (goFaultCooling s) :=
  .trans (.of_unranged (stopTimers_keeps s)) <| .trans (.of_unranged (startCool_keeps _)) (lampChange_ranges _ _)

theorem goWarmup_ranges (c : LampCause) : KeepsRanges s (goWarmup c s) :=
  .trans (.of_unranged (stopTimers_keeps s)) <| (modLsq_ranges _).trans (lampChange_ranges _ _)

theorem recordFault_ranges (k : FaultKind) : KeepsRanges s (recordFault k s) :=
  .of_part .lamp (recordFault_keeps k s) fun hs => by
    rw [recordFault_eq]
    exact lampOk_faulted k (hs .lamp) (hs .cal)

theorem chargeStrike_ranges : KeepsRanges s (chargeStrike s) :=
  .of_part .lamp (chargeStrike_keeps s) fun hs => by
    rw [chargeStrike_eq]
    exact lampOk_charged (hs .lamp)

theorem endHold_ranges : KeepsRanges s (endHold s) := .of_unranged (endHold_keeps s)

theorem dropHold_ranges (c : DropCause) : KeepsRanges s (dropHold c s) := .of_unranged (dropHold_keeps c s)

theorem hold_ranges (o : Origin) (r : HeldReason) : KeepsRanges s (hold o r s) := .of_unranged (hold_keeps o r s)

theorem firstAttempt_ranges (o : Origin) : KeepsRanges s (firstAttempt o s) :=
  (modLsq_ranges _).trans <| (modLsq_ranges _).trans <| (lampChange_ranges _ _).trans chargeStrike_ranges

theorem nextAttempt_ranges : KeepsRanges s (nextAttempt s) :=
  (modLsq_ranges _).trans <| chargeStrike_ranges.trans (.of_unranged (raise_keeps _ _))

theorem lsqPowerOn_ranges (o : Origin) : KeepsRanges s (lsqPowerOn o s).1 := by
  unfold lsqPowerOn
  split
  · unfold powerOnInOff
    split
    · exact .refl s
    split
    · exact (recordFault_ranges _).trans <| (dropHold_ranges _).trans (lampChange_ranges _ _)
    split
    · exact endHold_ranges.trans (goWarmup_ranges _)
    split
    · exact hold_ranges _ _
    · exact endHold_ranges.trans (firstAttempt_ranges _)
  · exact .refl s
  · exact .refl s
  · exact .refl s
  · exact lampChange_ranges _ _
  · exact hold_ranges _ _
  · exact .refl s
  · exact .refl s

theorem takePowerOn_ranges (o : Origin) : KeepsRanges s (takePowerOn o s).1 := by
  have h := lsqPowerOn_ranges o (s := s)
  unfold takePowerOn
  split
  next heq => rwa [heq] at h
  next heq =>
    rw [heq] at h
    exact h.trans firstPowerOn_ranges

/-- A POWER_OFF changes no record (R10 to R12). -/
theorem takePowerOff_ranges : KeepsRanges s (takePowerOff s).1 := by
  obtain ⟨m, c, h, -⟩ := takePowerOff_eq s
  refine .of_unranged (l := [.lsq, .ssw, .lkc, .ses, .ports]) ?_
  rw [h]
  simp [keeps_iff]

theorem releaseHeld_ranges : KeepsRanges s (releaseHeld s) := by
  unfold releaseHeld
  split
  · exact .refl s
  · refine .ite (fun _ => dropHold_ranges _) fun _ => .ite (fun _ => ?_) fun _ => .ite (fun _ => ?_) fun _ =>
      .ite (fun _ => ?_) fun _ => ?_
    · exact (recordFault_ranges _).trans <| (lampChange_ranges _ _).trans (dropHold_ranges _)
    · exact endHold_ranges.trans (goWarmup_ranges _)
    · exact (modLsq_ranges _).trans (.of_unranged (raise_keeps _ _))
    · exact endHold_ranges.trans (firstAttempt_ranges _)

theorem testHold_ranges : KeepsRanges s (testHold s) := .ite (fun _ => releaseHeld_ranges) fun _ => .refl s

theorem minOnTest_ranges (c : LampCause) : KeepsRanges s (minOnTest c s) :=
  .ite (fun _ => goCooling_ranges c) fun _ => .refl s

theorem autoOff_ranges : KeepsRanges s (autoOff s) := .ite (fun _ => takePowerOff_ranges) fun _ => .refl s

/-! ### The lamp's lines and timers -/

theorem litRises_ranges : KeepsRanges s (litRises s) :=
  (modLsq_ranges _).trans (.ite (fun _ => goWarmup_ranges _) fun _ => .refl _)

theorem litFalls_ranges : KeepsRanges s (litFalls s) :=
  (modLsq_ranges _).trans (.ite (fun _ => (recordFault_ranges _).trans goFaultCooling_ranges) fun _ => .refl _)

theorem bfaultRises_ranges : KeepsRanges s (bfaultRises s) := by
  have hr := recordFault_ranges .ballast (s := s)
  unfold bfaultRises
  cases s.lsq.state
  case striking | warmup | on | offPending => exact hr.trans goFaultCooling_ranges
  case cooling | off => exact hr.trans <| (lampChange_ranges _ _).trans (dropHold_ranges _)
  case faultCooling | fault => exact hr

theorem countFailed_ranges : KeepsRanges s (countFailed s) :=
  .of_part .lamp (countFailed_keeps s) fun hs => lampOk_failed (hs .lamp)

theorem attemptExpires_ranges : KeepsRanges s (attemptExpires s) := by
  have h : KeepsRanges s (countFailed (s.modLsq fun q => { q with attemptTimer := none })) :=
    (modLsq_ranges _).trans countFailed_ranges
  exact .ite (fun _ => h.trans (modLsq_ranges _)) fun _ => h.trans <| (recordFault_ranges _).trans goFaultCooling_ranges

theorem gapExpires_ranges : KeepsRanges s (gapExpires s) :=
  .ite (fun _ => (goCooling_ranges _).trans (hold_ranges _ _)) fun _ =>
    .ite (fun _ => goWarmup_ranges _) fun _ => nextAttempt_ranges

theorem coolExpires_ranges : KeepsRanges s (coolExpires s) := by
  unfold coolExpires
  dsimp only
  split
  · exact (modLsq_ranges _).trans <| (lampChange_ranges _ _).trans releaseHeld_ranges
  · exact (modLsq_ranges _).trans (lampChange_ranges _ _)
  · exact modLsq_ranges _

theorem nosigDim_ranges : KeepsRanges s (nosigDim s) := .ite (fun _ => modSsw_ranges _) fun _ => .refl s

theorem dueTest_ranges (x : DueTest) : KeepsRanges s (dueTest x s) := by
  unfold dueTest atZero
  cases x
  case attempt => exact .ite (fun _ => attemptExpires_ranges) fun _ => .refl s
  case retryGap => exact .ite (fun _ => gapExpires_ranges) fun _ => .refl s
  case warmup => exact .ite (fun _ => (modLsq_ranges _).trans (lampChange_ranges _ _)) fun _ => .refl s
  case cool => exact .ite (fun _ => coolExpires_ranges) fun _ => .refl s
  case minOn => exact minOnTest_ranges _
  case holdRelease => exact testHold_ranges
  case nosigDim => exact nosigDim_ranges
  case nosigOff => exact .ite (fun _ => (modSsw_ranges _).trans autoOff_ranges) fun _ => .refl s

theorem litSecond_ranges : KeepsRanges s (litSecond s) := by
  refine .of_part (l := [.lamp, .sinceCommit, .store, .ports]) .lamp ?_ fun hs => ?_
  · rw [litSecond_eq]
    simp [keeps_iff]
  · rw [litSecond_eq]
    exact lampOk_litLamp _ (hs .lamp)

theorem lsqSecond_ranges : KeepsRanges s (lsqSecond s) := modLsq_ranges _

theorem sswSecond_ranges : KeepsRanges s (sswSecond s) := modSsw_ranges _

theorem llcSecond_ranges : KeepsRanges s (llcSecond s) := .ite (fun _ => litSecond_ranges) fun _ => .refl s

theorem dueTests_ranges (l : List DueTest) : ∀ s, KeepsRanges s (l.foldl (fun s x => dueTest x s) s) := by
  induction l with
  | nil => exact .refl
  | cons x l ih => exact fun s => (dueTest_ranges x).trans (ih _)

theorem secondTaken_ranges (l : List DueTest) : KeepsRanges s (secondTaken l s) :=
  ((lsqSecond_ranges.trans sswSecond_ranges).trans (dueTests_ranges l _)).trans llcSecond_ranges

/-! ### Sessions and power requests -/

theorem sessionLevel_ranges (l : Option Level) (b : Bool) : KeepsRanges s (sessionLevel l b s) :=
  .of_unranged (sessionLevel_keeps l b s)

theorem modSes_ranges (f : Option Session → Option Session) : KeepsRanges s (s.modSes f) := .of_unranged (modSes_keeps f s)

theorem raise_ranges (n : Payload) : KeepsRanges s (raise n s) := .of_unranged (raise_keeps n s)

theorem endDeferral_ranges (r : Session) (f : ActionFate) (b : Bool) : KeepsRanges s (endDeferral r f b s) :=
  .ite (fun _ => takePowerOff_ranges) fun _ => .refl s

theorem endAction_ranges (f : ActionFate) : KeepsRanges s (endAction f s) :=
  .ite (fun _ => takePowerOff_ranges) fun _ => .refl s

theorem closeSession_ranges (c : CloseReason) (n : Option Entry) : KeepsRanges s (closeSession c n s) := by
  unfold closeSession
  split
  · exact .refl s
  · exact (sessionLevel_ranges _ _).trans <| (applyPreset_ranges _).trans <| (endDeferral_ranges _ _ _).trans <|
      (endAction_ranges _).trans <| (modSes_ranges _).trans (raise_ranges _)

theorem startActions_ranges (e : Entry) (b : Bool) : KeepsRanges s (startActions e b s).1 := by
  unfold startActions
  split
  · exact .refl s
  · dsimp only
    split
    · exact (issueSelect_ranges _).trans (takePowerOn_ranges _)
    · exact issueSelect_ranges _

theorem openScheduled_ranges (w : SessionWay) (f : Found) (d : Date) (b c : Bool) :
    KeepsRanges s (openScheduled w f d b c s) :=
  (modSes_ranges _).trans <| .trans (.ite (fun _ => sessionLevel_ranges _ _) fun _ => .refl _) <|
    (startActions_ranges _ _).trans (raise_ranges _)

theorem lateCheck_ranges (c : Option (Fin 48)) (b : Bool) : KeepsRanges s (lateCheck c b s) := by
  unfold lateCheck
  split
  · exact .refl s
  · exact openScheduled_ranges _ _ _ _ _

theorem closeThenLate_ranges (r : CloseReason) : KeepsRanges s (closeThenLate r s) := by
  unfold closeThenLate
  split
  · exact .refl s
  · exact (closeSession_ranges _ _).trans (lateCheck_ranges _ _)

theorem userPowerOn_ranges (o : Origin) : KeepsRanges s (userPowerOn o s).1 := by
  have h := takePowerOn_ranges o (s := s)
  unfold userPowerOn
  dsimp only
  split
  · exact h
  · exact h.trans (.ite (fun _ => .of_unranged (openManual_keeps _ _)) fun _ => .refl _)

theorem userPowerOff_ranges : KeepsRanges s (userPowerOff s).1 := takePowerOff_ranges.trans (closeThenLate_ranges _)

theorem setConfirm_ranges (b : Bool) : KeepsRanges s (setConfirm b s) := .of_unranged (setConfirm_keeps b s)

theorem powerPress_ranges : KeepsRanges s (powerPress s) := by
  unfold powerPress powerPressAllowed
  refine .ite (fun _ => .ite (fun _ => .ite (fun _ => ?_) fun _ => ?_) fun _ => userPowerOn_ranges _) fun _ => ?_
  · exact (setConfirm_ranges _).trans userPowerOff_ranges
  · exact (setConfirm_ranges _).trans (raise_ranges _)
  · exact (raise_ranges _).trans (setConfirm_ranges _)

/-! ### The calendar's events -/

theorem modCal_ranges (f : Cal → Cal) (h : s.cal.inRange → (f s.cal).inRange) : KeepsRanges s (s.modCal f) :=
  .of_part .cal (modCal_keeps f s) fun hs => h (hs .cal)

theorem modTimetable_ranges (f : TimetableRecord → TimetableRecord)
    (h : timetableOk s.timetable = true → timetableOk (f s.timetable) = true) :
    KeepsRanges s (markDirty .timetable (s.modTimetable f)) :=
  .trans (.of_part .timetable (modTimetable_keeps f s) fun hs => h (hs .timetable)) (markDirty_ranges _)

theorem handover_ranges (w : SessionWay) (f : Found) (d : Date) : KeepsRanges s (handover w f d s) :=
  (closeSession_ranges _ _).trans (openScheduled_ranges _ _ _ _ _)

theorem minuteFinding_ranges (d : Date) (m : Nat) (f : Option Found) : KeepsRanges s (minuteFinding d m f s) := by
  unfold minuteFinding
  split
  · exact .refl s
  · exact openScheduled_ranges _ _ _ _ _
  · exact handover_ranges _ _ _
  · refine .ite (fun _ => ?_) fun _ => .refl s
    split
    · exact handover_ranges _ _ _
    · exact closeSession_ranges _ _

theorem warnTest_ranges (d : Date) (m : Nat) : KeepsRanges s (warnTest d m s) := by
  unfold warnTest
  split
  · exact .refl s
  · exact .ite (fun _ => (modSes_ranges _).trans (raise_ranges _)) fun _ => .refl s

theorem minuteEvent_ranges (d : Date) (m : Nat) : KeepsRanges s (minuteEvent d m s) :=
  (minuteFinding_ranges _ _ _).trans (warnTest_ranges _ _)

theorem purge_ranges (d : Date) : KeepsRanges s (purge d s) :=
  .ite (fun _ => modTimetable_ranges _ (timetableOk_purged _)) fun _ => .refl s

theorem calendarEvents_ranges (d : Date) : KeepsRanges s (calendarEvents d s) := by
  unfold calendarEvents midnightEvents
  exact .ite (fun _ => (minuteEvent_ranges _ _).trans <| (purge_ranges _).trans (minuteEvent_ranges _ _)) fun _ =>
    .ite (fun _ => minuteEvent_ranges _ _) fun _ => .refl s

/-- CAL counts one second, and a rollover that clears the flag is told (R124, R125). -/
theorem calCounted_ranges : KeepsRanges s (if s.cal.valid && !(s.modCal Cal.next).cal.valid
    then raiseTimeInvalid (s.modCal Cal.next) else s.modCal Cal.next) := by
  have h : KeepsRanges s (s.modCal Cal.next) := modCal_ranges _ Cal.inRange_next
  exact .ite (fun _ => h.trans (raise_ranges _)) fun _ => h

theorem calendarTick_ranges : KeepsRanges s (calendarTick s) := calCounted_ranges.trans (calendarEvents_ranges _)

theorem timeSetRequest_ranges (d : RawDate) (t : RawTime) : KeepsRanges s (timeSetRequest d t s).1 := by
  unfold timeSetRequest
  split
  next h =>
    have hc : KeepsRanges s (s.modCal fun c => { c with date := dateOf d, time := timeOf t, valid := true }) :=
      modCal_ranges _ fun _ => Bool.and_eq_true_iff.mp h
    refine hc.trans ?_
    unfold timeSetReport
    split
    · exact lateCheck_ranges _ _
    · exact (modSes_ranges _).trans (warnTest_ranges _ _)
  · exact .refl s

end

end Sys2Proof.Machine
end

section
/-! PROOFS. What every command keeps within its ranges: the requests of the owning blocks. -/

namespace Sys2Proof.Machine

set_option Elab.async false

section

variable {s : State}

/-! ### LAMP -/

/-- LAMP changed, and the notice of a change of the condition (R33, R34). -/
theorem evaluated_eq (f : LampRecord → LampRecord) (s : State) : evaluated f s =
    { s with lamp := f s.lamp, ptc := s.heard (conditionNotices s (f s.lamp)) } := by
  unfold evaluated conditionNotices
  dsimp only
  split
  next h => rw [State.modLamp_lamp] at h; rw [h]; rfl
  next n h => rw [State.modLamp_lamp] at h; rw [h]; rfl

theorem modLamp_ranges (f : LampRecord → LampRecord) (h : lampOk s.lamp = true → s.cal.inRange → lampOk (f s.lamp) = true) :
    KeepsRanges s (s.modLamp f) := .of_part .lamp (modLamp_keeps f s) fun hs => h (hs .lamp) (hs .cal)

theorem lampReplaceRequest_ranges : KeepsRanges s (lampReplaceRequest s).1 := by
  have h : KeepsRanges s (s.modLamp (replaceLamp s.cal)) := modLamp_ranges _ lampOk_replaceLamp
  unfold lampReplaceRequest
  split
  · exact h.trans (markDirty_ranges _)
  · exact h.trans <| (lampChange_ranges _ _).trans (markDirty_ranges _)
  · exact .refl s

theorem lampLimitsRequest_ranges (w : RawLimits) : KeepsRanges s (lampLimitsRequest w s).1 := by
  unfold lampLimitsRequest
  split
  · exact .refl s
  · refine .trans (.of_part .lamp (evaluated_keeps _ s) fun hs => ?_) (markDirty_ranges _)
    rw [evaluated_eq]
    exact lampOk_limits w (hs .lamp)

theorem faultClearRequest_ranges : KeepsRanges s (faultClearRequest s).1 := by
  unfold faultClearRequest leaveFault
  split
  · exact .refl s
  · have h : KeepsRanges s (markDirty .lamp (s.modLamp fun r => { r with fault := none })) := by
      refine .trans (modLamp_ranges _ fun h _ => ?_) (markDirty_ranges _)
      exact lampOk_fault_none h
    dsimp only
    split
    · exact h.trans (lampChange_ranges _ _)
    · exact h.trans (lampChange_ranges _ _)
    · exact h

/-! ### SETTINGS -/

theorem modSettings_ranges (f : Settings → Settings) (h : settingsOk s.settings = true → settingsOk (f s.settings) = true) :
    KeepsRanges s (s.modSettings f) := .of_part .settings (modSettings_keeps f s) fun hs => h (hs .settings)

theorem markIf_ranges (b : Bool) (r : RecordName) : KeepsRanges s (markIf b r s) := .of_unranged (markIf_keeps b r s)

theorem lampModeRequest_ranges (m : Byte) : KeepsRanges s (lampModeRequest m s).1 := by
  unfold lampModeRequest
  split
  · exact .refl s
  · refine .trans (modSettings_ranges _ fun h => ?_) (markIf_ranges _ _)
    exact h

theorem lampCeilingRequest_ranges (l : Byte) : KeepsRanges s (lampCeilingRequest l s).1 := by
  unfold lampCeilingRequest
  split
  · exact .refl s
  · refine .trans (modSettings_ranges _ fun h => ?_) (markIf_ranges _ _)
    exact h

theorem subscribeRequest_ranges (p : PortId) (m : BitVec 24) : KeepsRanges s (subscribeRequest p m s).1 := by
  unfold subscribeRequest
  split
  next hm =>
    refine .trans (modSettings_ranges _ fun h => ?_) (markDirty_ranges _)
    exact settingsOk_setMask p hm h
  next => exact .refl s

theorem lkcChange_ranges (c : LockCause) (f : State → State) (h : KeepsRanges s (f s)) : KeepsRanges s (lkcChange c f s) :=
  .ite (fun _ => h) fun _ => h.trans (raise_ranges _)

theorem lockoutBaseRequest_ranges (l : Byte) : KeepsRanges s (lockoutBaseRequest l s).1 := by
  unfold lockoutBaseRequest
  split
  · exact .refl s
  next hl =>
    refine lkcChange_ranges _ _ (.trans (modSettings_ranges _ fun h => ?_) (markDirty_ranges _))
    exact settingsOk_baseLevel (levelOk_of_levelOf hl) h

theorem modLkc_ranges (f : Lkc → Lkc) : KeepsRanges s (s.modLkc f) := .of_unranged (modLkc_keeps f s)

theorem presenterHoldRequest_ranges (a : Byte) : KeepsRanges s (presenterHoldRequest a s).1 := by
  have h (b : Bool) : KeepsRanges s (lkcChange .hold (setPresenter b) s) := lkcChange_ranges _ _ (modLkc_ranges _)
  unfold presenterHoldRequest presenterSet presenterClear
  split_ifs
  · exact h _
  · exact .refl s
  · exact h _
  · exact .refl s

theorem serviceRequest_ranges (a : Byte) : KeepsRanges s (serviceRequest a s).1 := by
  have h (b : Bool) : KeepsRanges s (lkcChange .service (setService b) s) := lkcChange_ranges _ _ (modLkc_ranges _)
  unfold serviceRequest serviceIn serviceOut
  split_ifs
  · exact .refl s
  · exact h _
  · exact .refl s
  · exact h _
  · exact .refl s

/-- A GUARD_SET writes SETTINGS, STRIKE_WEAR and two fields of INPUTS that have no range. -/
theorem guardWrite_ranges (g : RawGuard) : KeepsRanges s (guardWrite g s) := by
  unfold guardWrite
  dsimp only
  refine (modSettings_ranges _ (settingsOk_guardSettings g)).trans <| .trans (modLamp_ranges _ fun h _ => ?_) <|
    .trans (modInputs_ranges _ fun h => ?_) <| (markIf_ranges _ _).trans <| (markIf_ranges _ _).trans (markIf_ranges _ _)
  · rw [lampOk_iff] at h ⊢
    obtain ⟨hcur, hhist, hlim, hw, hf⟩ := h
    exact ⟨hcur, hhist, hlim, newNat_holds _ _ hw, hf⟩
  · exact h

theorem KeepsRanges.doIf {b : Bool} {f : State → State} (h : KeepsRanges s (f s)) : KeepsRanges s (doIf b f s) :=
  .ite (fun _ => h) fun _ => .refl s

theorem trimStrikes_ranges : KeepsRanges s (trimStrikes s) := modLsq_ranges _

theorem nosigDimWritten_ranges : KeepsRanges s (nosigDimWritten s) :=
  .ite (fun _ => modSsw_ranges _) fun _ => nosigDim_ranges

theorem autoscanWritten_ranges : KeepsRanges s (autoscanWritten s) := .ite (fun _ => .refl s) fun _ => endScan_ranges

theorem guardEffects_ranges (g : RawGuard) (n : Nat) : KeepsRanges s (guardEffects g n s) := by
  unfold guardEffects
  exact .trans (.doIf trimStrikes_ranges) <| .trans (.doIf (minOnTest_ranges _)) <| .trans (.doIf testHold_ranges) <|
    .trans (.doIf nosigDimWritten_ranges) <| .trans (.doIf autoscanWritten_ranges) <| .doIf autoOff_ranges

theorem guardSetRequest_ranges (g : RawGuard) : KeepsRanges s (guardSetRequest g s).1 := by
  unfold guardSetRequest
  split
  · exact .refl s
  · exact (guardWrite_ranges g).trans (guardEffects_ranges g _)

/-! ### INPUTS and the picture -/

theorem selectRequest_ranges (o : Origin) (i : Byte) : KeepsRanges s (selectRequest o i s).1 := by
  unfold selectRequest
  split
  · exact .refl s
  · exact sswSelect_ranges _ _

theorem retrainRequest_ranges (o : Origin) (i : Byte) : KeepsRanges s (retrainRequest o i s).1 := by
  unfold retrainRequest
  split
  · exact .refl s
  split
  · exact endScan_ranges.trans (retrainSelected_ranges _ _)
  · exact .refl s

theorem muteSetRequest_ranges (v : Byte) : KeepsRanges s (muteSetRequest v s).1 := by
  unfold muteSetRequest
  split
  · exact .refl s
  · exact (modSsw_ranges _).trans (.of_unranged (muteCheck_keeps _))

/-- The preset stored is the live keystone, which keeps its limits (R93). -/
theorem presetStoreRequest_ranges : KeepsRanges s (presetStoreRequest s).1 := by
  unfold presetStoreRequest
  split
  · exact .refl s
  next i _ =>
    refine .trans (.of_part .inputs (modInputs_keeps _ s) fun hs => ?_) (markDirty_ranges _)
    obtain ⟨hi, -⟩ := (inputsOk_iff _).mp (hs .inputs)
    obtain ⟨hl, hp, -⟩ := (inputOk_iff _).mp (hi i)
    have hg : liveFits s.geo = true := hs .geo
    simp only [liveFits, Bool.and_eq_true] at hg
    exact inputsOk_set (hs .inputs) ((inputOk_iff _).mpr ⟨hl, hp, hg.1.1⟩)

theorem panelSetRequest_ranges (w h : Half) : KeepsRanges s (panelSetRequest w h s).1 := by
  refine .trans (modInputs_ranges _ fun hi => ?_) <| (markDirty_ranges _).trans (recompute_ranges _)
  obtain ⟨he, -⟩ := (inputsOk_iff _).mp hi
  exact (inputsOk_iff _).mpr ⟨he, range_holds_clamp _ _ (by decide), range_holds_clamp _ _ (by decide)⟩

theorem restPathOf_ranges (i : Fin 6) : KeepsRanges s (restPathOf i s) := by
  have h : KeepsRanges s (restInput i s) := .of_unranged (restInput_keeps i s)
  exact .ite (fun _ => h.trans (.of_unranged (raiseSource_keeps _ _))) fun _ => h

theorem sswRise_ranges (i : Fin 6) : KeepsRanges s (sswRise i s) := by
  unfold sswRise risesElsewhere
  refine .ite (fun _ => .ite (fun _ => retrainSelected_ranges _ _) fun _ => .refl s) fun _ => .ite (fun _ => ?_) fun _ => .refl s
  split
  · exact .ite (fun _ => .refl s) fun _ => modSsw_ranges _
  · exact .ite (fun _ => .refl s) fun _ => modSsw_ranges _
  · exact .ite (fun _ => startScan_ranges) fun _ => .refl s

theorem inputConfigRequest_ranges (i : Byte) (c : RawInputConfig) : KeepsRanges s (inputConfigRequest i c s).1 := by
  have hg (i : Fin 6) (t : State) : KeepsRanges t (geometryWritten i c t) :=
    .ite (fun _ => .ite (fun _ => applyPreset_ranges _) fun _ => .ite (fun _ => recompute_ranges _) fun _ => .refl t) fun _ =>
      .refl t
  have he (i : Fin 6) (b : Bool) (t : State) : KeepsRanges t (enabledWritten i b t) :=
    .ite (fun _ => .refl t) fun _ => .ite (fun _ => .refl t) fun _ =>
      .ite (fun _ => (restPathOf_ranges i).trans (sswRise_ranges i)) fun _ => restPathOf_ranges i
  unfold inputConfigRequest
  split
  · exact .refl s
  split
  · exact .refl s
  split
  · exact .refl s
  next hx =>
    refine .trans (modInputs_ranges _ fun hi => ?_) <| (markDirty_ranges _).trans <| (hg _ _).trans (he _ _ _)
    obtain ⟨hall, -⟩ := (inputsOk_iff _).mp hi
    exact inputsOk_set hi (inputOk_of_configEntry hx (hall _))

/-! ### TIMINGS -/

theorem reclassified_ranges (k : Fin 24) (r : Option (Fin 24)) : KeepsRanges s (reclassified k r s) := by
  unfold reclassified
  split
  · exact .refl s
  split
  · exact .ite (fun _ => .ite (fun _ => recompute_ranges _) fun _ => .refl s) fun _ => lockAt_ranges _
  · exact reach_ranges _
  · exact lockAt_ranges _
  · exact .refl s

theorem timingChanged_ranges (k : Fin 24) : KeepsRanges s (timingChanged k s) := by
  have h : KeepsRanges s (if s.timings[k].inUse then s else forgetTimings (· == k) s) :=
    .ite (fun _ => .refl s) fun _ => forgetTimings_ranges _
  unfold timingChanged
  dsimp only
  generalize (if s.timings[k].inUse then s else forgetTimings (· == k) s) = u at h
  refine h.trans (.ite (fun _ => ?_) fun _ => .refl u)
  split
  · exact .refl u
  · exact .trans (.of_unranged (modMon_keeps _ _)) (reclassified_ranges _ _)

theorem writeTiming_ranges (k : Fin 24) (e : TimingEntry) (he : timingsOk s.timings = true → timingOk e = true) :
    KeepsRanges s (writeTiming k e s) := by
  have h : KeepsRanges s (markDirty .timings (s.modTimings fun t => t.set k e)) := by
    refine .trans (.of_part .timings (modTimings_keeps _ s) fun hs => ?_) (markDirty_ranges _)
    exact timingsOk_set (hs .timings) (he (hs .timings))
  exact .ite (fun _ => h.trans (timingChanged_ranges k)) fun _ => h

theorem timingWriteRequest_ranges (i : Byte) (t : RawTiming) : KeepsRanges s (timingWriteRequest i t s).1 := by
  unfold timingWriteRequest
  split
  next ht => exact writeTiming_ranges _ _ fun _ => timingOk_of_timingOf ht
  next => exact .refl s

theorem timingOutRequest_ranges (i : Byte) : KeepsRanges s (timingOutRequest i s).1 := by
  unfold timingOutRequest
  split
  · exact .refl s
  · exact writeTiming_ranges _ _ fun ht => timingOk_outOfUse ((timingsOk_iff _).mp ht _)

/-! ### TIMETABLE and the session -/

theorem placeEntry_ranges (i : Fin 48) {e : Entry} (b : Bool) (he : entryOk e = true) :
    KeepsRanges s (placeEntry i e b s).1 := by
  unfold placeEntry
  split
  · exact .refl s
  next hc => exact modTimetable_ranges _ fun ht => timetableOk_place ht he hc

theorem entryWriteRequest_ranges (w : RawEntryWrite) : KeepsRanges s (entryWriteRequest w s).1 := by
  unfold entryWriteRequest
  split
  · exact .refl s
  split
  next he => exact placeEntry_ranges _ _ (entryOk_of_entryOf he)
  next he =>
    split
    · exact .refl s
    · exact placeEntry_ranges _ _ (entryOk_of_entryOf he)
  next => exact .refl s

theorem entryDeleteRequest_ranges (i : Byte) : KeepsRanges s (entryDeleteRequest i s).1 := by
  unfold entryDeleteRequest
  split
  · exact .refl s
  split
  · exact modTimetable_ranges _ (timetableOk_delete _)
  · exact .refl s

theorem holidayAddRequest_ranges (d : RawDate) : KeepsRanges s (holidayAddRequest d s).1 := by
  unfold holidayAddRequest
  dsimp only
  split_ifs with hd hc hl
  · exact .refl s
  · exact .refl s
  · exact .refl s
  · exact modTimetable_ranges _ fun ht =>
      timetableOk_holidayAdd ht (by simpa using hd) (by simpa using hc) (Nat.lt_of_not_le hl)

theorem holidayRemoveRequest_ranges (d : RawDate) : KeepsRanges s (holidayRemoveRequest d s).1 := by
  unfold holidayRemoveRequest
  dsimp only
  split_ifs
  · exact .refl s
  · exact modTimetable_ranges _ (timetableOk_holidayRemove _)
  · exact .refl s

theorem extendRequest_ranges : KeepsRanges s (extendRequest s).1 := by
  unfold extendRequest
  split
  · exact .refl s
  split_ifs
  · exact .refl s
  · exact .refl s
  · exact modSes_ranges _

theorem endSessionRequest_ranges : KeepsRanges s (endSessionRequest s).1 := by
  unfold endSessionRequest
  split
  · exact closeThenLate_ranges _
  · exact .refl s

/-! ### Every request -/

theorem ownerAct_ranges (p : PortId) (o : Origin) (r : Request) (s : State) : KeepsRanges s (ownerAct p o r s).1 := by
  cases r
  case powerOn => exact userPowerOn_ranges o
  case powerOff => exact userPowerOff_ranges
  case lampMode m => exact lampModeRequest_ranges m
  case select i => exact selectRequest_ranges o i
  case retrain i => exact retrainRequest_ranges o i
  case muteSet v => exact muteSetRequest_ranges v
  case keystone k => exact keystoneRequest_ranges k
  case presetStore => exact presetStoreRequest_ranges
  case extendEnd => exact extendRequest_ranges
  case endSession => exact endSessionRequest_ranges
  case timeSet d t => exact timeSetRequest_ranges d t
  case entryWrite w => exact entryWriteRequest_ranges w
  case entryDelete i => exact entryDeleteRequest_ranges i
  case holidayAdd d => exact holidayAddRequest_ranges d
  case holidayRemove d => exact holidayRemoveRequest_ranges d
  case lampReplace => exact lampReplaceRequest_ranges
  case lampLimits w => exact lampLimitsRequest_ranges w
  case lampCeiling l => exact lampCeilingRequest_ranges l
  case faultClear => exact faultClearRequest_ranges
  case inputConfig i c => exact inputConfigRequest_ranges i c
  case timingWrite i t => exact timingWriteRequest_ranges i t
  case timingOut i => exact timingOutRequest_ranges i
  case panelSet w h => exact panelSetRequest_ranges w h
  case guardSet g => exact guardSetRequest_ranges g
  case subscribe m => exact subscribeRequest_ranges p m
  case lockoutBase l => exact lockoutBaseRequest_ranges l
  case presenterHold a => exact presenterHoldRequest_ranges a
  case service a => exact serviceRequest_ranges a
  case noticesRead => exact .of_unranged (modPort_keeps p _ s)
  case historyRead i => exact (historyReadRequest_state i (s := s)).symm ▸ .refl s
  case inputRead i => exact (inputReadRequest_state i (s := s)).symm ▸ .refl s
  case timingRead i => exact (timingReadRequest_state i (s := s)).symm ▸ .refl s
  case entryRead i => exact (entryReadRequest_state i (s := s)).symm ▸ .refl s
  all_goals exact .refl s

end

end Sys2Proof.Machine
end

section
/-! PROOFS. The ports keep what the owning blocks keep: whatever takes a request, a byte, a transaction or the end of a
transmission adds changes of the ports alone. -/

namespace Sys2Proof.Machine

set_option Elab.async false

/-- A relation of states that chains, and that a change of the ports, what stands at the end of a command, and every owning
block's act on a request stand in. -/
structure KeptAtPorts (R : State → State → Prop) : Prop where
  refl : ∀ s, R s s
  trans : ∀ {s t u}, R s t → R t u → R s u
  ports : ∀ {s t}, Keeps [.ports] s t → R s t
  settle : ∀ s, R s (settle s)
  owner : ∀ p o r s, R s (ownerAct p o r s).1

namespace KeptAtPorts

theorem ite {R : State → State → Prop} (_ : KeptAtPorts R) {s t u : State} {p : Prop} [Decidable p] (h₁ : R s t) (h₂ : R s u) :
    R s (if p then t else u) := by
  split
  · exact h₁
  · exact h₂

variable {R : State → State → Prop} (h : KeptAtPorts R)

include h

/-! ### Taking (R166, R167) -/

theorem takeRequest (p : PortId) (o : Byte) (r : Request) (s : State) : R s (takeRequest p o r s) := by
  have hreply (c : Byte) (a : Answer) (t : State) : R t (hasReply p c a t) := h.ports (hasReply_keeps p c a t)
  unfold Machine.takeRequest
  split
  · exact hreply _ _ s
  · exact h.ite (h.trans (h.owner p _ r s) (hreply _ _ _)) (hreply _ _ s)

theorem takeFrame (p : PortId) (b : List Byte) (s : State) : R s (takeFrame p b s) := by
  unfold Machine.takeFrame
  split
  · exact h.refl s
  · exact h.ports (hasReply_keeps p _ _ s)
  · exact h.ports (hasReply_keeps p _ _ s)
  · exact h.takeRequest _ _ _ s

theorem takeWaiting (p : PortId) (n : Nat) : ∀ s, R s (takeWaiting p n s) := by
  induction n with
  | zero => exact h.refl
  | succ n ih =>
    intro s
    refine h.ite (h.refl s) ?_
    split
    · exact h.refl s
    · exact h.trans (h.ports (modPort_keeps p _ s)) (h.trans (h.takeFrame p _ _) (ih _))

theorem takeAll (p : PortId) (s : State) : R s (takeAll p s) := h.ite (h.takeWaiting _ _ s) (h.refl s)

theorem frameArrives (p : PortId) (b : List Byte) (f : State → State) (s : State) (hf : R s (f s)) :
    R s (frameArrives p b f s) :=
  h.ite (h.trans (h.ite hf (h.ite (h.ports (modPort_keeps p _ s)) (h.refl s))) (h.settle _)) (h.refl s)

theorem requestArrives (p : PortId) (o : Byte) (r : Request) (s : State) : R s (requestArrives p o r s) :=
  h.frameArrives _ _ _ s (h.takeRequest p o r s)

theorem bodyArrives (p : PortId) (b : List Byte) (s : State) : R s (bodyArrives p b s) :=
  h.ite (h.frameArrives _ _ _ s (h.takeFrame p b s)) (h.refl s)

/-! ### Bytes, transactions and transmissions (R164, R167 to R169) -/

theorem uartByte (u : UartId) (b : Byte) (s : State) : R s (uartByte u b s) :=
  h.trans (h.ports (modPort_keeps _ _ s)) (h.takeAll _ _)

theorem setTxn (t : Transaction) (l : List Byte) (s : State) : R s (setTxn t l s) := h.ports (modPtc_keeps _ s)

theorem moreBytes (l : List Byte) (s : State) : R s (moreBytes l s) := by
  unfold Machine.moreBytes writeBytes
  split
  · exact h.ite (h.trans (h.setTxn _ _ s) (h.trans (h.ports (modPtc_keeps _ _)) (h.takeAll _ _))) (h.setTxn _ _ s)
  · exact h.setTxn _ _ s
  · exact h.setTxn _ _ s
  · exact h.setTxn _ _ s

theorem startRead (s : State) : R s (startRead s) := by
  unfold Machine.startRead
  split
  · exact h.ite (h.setTxn _ _ s) (h.setTxn _ _ s)
  · exact h.setTxn _ _ s

theorem sdiBytes (l : List Byte) (s : State) : R s (sdiBytes l s) := by
  have hs (t : Transaction) (l : List Byte) : R s (Machine.moreBytes l (startTxn t s)) :=
    h.trans (h.setTxn t [] s) (h.moreBytes l _)
  unfold Machine.sdiBytes
  split
  · exact h.refl s
  · exact h.ite (hs _ _) (h.ite (hs _ _) (h.ite (h.trans (h.startRead s) (h.moreBytes _ _)) (hs _ _)))
  · exact h.moreBytes _ s

theorem txnEnds (s : State) : R s (txnEnds s) := by
  unfold Machine.txnEnds
  dsimp only
  split
  · exact h.ite (h.trans (h.ports (modPtc_keeps _ s)) (h.trans (h.ports (modPort_keeps _ _ _)) (h.takeAll _ _)))
      (h.ports (modPtc_keeps _ s))
  · exact h.ports (modPtc_keeps _ s)

theorem transaction (l : List Byte) (b : Bool) (s : State) : R s (transaction l b s) :=
  h.ite (h.trans (h.sdiBytes l s) (h.txnEnds _)) (h.sdiBytes l s)

theorem sent (u : UartId) (b : Bool) (s : State) : R s (sent u b s) := by
  have hc (t : State) : R t (chooseFirst u b t) := h.ite (h.ports (startTx_keeps u t)) (h.refl t)
  unfold Machine.sent
  dsimp only
  split
  · exact h.trans (h.ports (modPtc_keeps _ s)) (h.trans (h.ports (modPort_keeps _ _ _)) (h.trans (hc _) (h.takeAll _ _)))
  · exact h.ports (modPtc_keeps _ s)
  · exact h.ports (modPtc_keeps _ s)

/-! ### Commands of a part that runs, or that is supplied -/

theorem whenOperating (f : State → State) (s : State) (hf : R s (f s)) : R s (whenOperating f s) :=
  h.ite (h.trans hf (h.settle _)) (h.refl s)

theorem whenSupplied (f : State → State) (s : State) (hf : R s (f s)) : R s (whenSupplied f s) :=
  h.ite (h.trans hf (h.settle _)) (h.refl s)

end KeptAtPorts

end Sys2Proof.Machine
end

section
/-! PROOFS. Every step keeps the records, the calendar and the live keystone within their ranges (O11). -/

namespace Sys2Proof.Machine

set_option Elab.async false

theorem settle_ranges (s : State) : KeepsRanges s (settle s) := .of_unranged (settle_keeps_parts s)

theorem keptAtPorts_ranges : KeptAtPorts KeepsRanges where
  refl := .refl
  trans := .trans
  ports h := .of_unranged h
  settle := settle_ranges
  owner := ownerAct_ranges

section

variable {s : State}

/-! ### The picture's and the keypad's events -/

theorem modLines_ranges (f : Lines → Lines) : KeepsRanges s (s.modLines f) := .of_unranged (l := [.lines]) (by simp [keeps_iff])

theorem modKpi_ranges (f : Kpi → Kpi) : KeepsRanges s (s.modKpi f) := .of_unranged (l := [.kpi]) (by simp [keeps_iff])

theorem modUptime_ranges (f : Nat → Nat) : KeepsRanges s (s.modUptime f) :=
  .of_unranged (l := [.uptime]) (by simp [keeps_iff])

theorem modSto_ranges (f : Sto → Sto) : KeepsRanges s (s.modSto f) := .of_unranged (modSto_keeps f s)

theorem presenceChange_ranges (i : Fin 6) (b : Bool) : KeepsRanges s (presenceChange i b s) :=
  .trans (.of_unranged (setPresence_keeps i b s)) <|
    .ite (fun _ => .ite (fun _ => sswRise_ranges i) fun _ => .ite (fun _ => .refl _) fun _ => reach_ranges _) fun _ =>
      .ite (fun _ => (restPathOf_ranges i).trans (sswRise_ranges i)) fun _ => restPathOf_ranges i

theorem debounceExpiry_ranges (i : Fin 6) : KeepsRanges s (debounceExpiry i s) := by
  unfold debounceExpiry
  split
  · exact .refl s
  · exact .ite (fun _ => presenceChange_ranges i _) fun _ => .of_unranged (setPresence_keeps _ _ s)

/-- A stable result changes nothing, or it is a lock or an UNSUPPORTED outcome (R68, R69). -/
theorem stableResult_cases (e : Option (Fin 24)) (s : State) :
    stableResult e s = s ∨ (∃ k, stableResult e s = lockAt k s) ∨ stableResult e s = unsupportedAt s := by
  unfold stableResult
  cases s.ssw.selected with
  | none => exact .inl rfl
  | some i =>
    cases e with
    | none =>
      dsimp only
      split_ifs
      · split <;> simp
      · exact .inl rfl
    | some k =>
      have hk : lockAt k s = s ∨ (∃ x, lockAt k s = lockAt x s) ∨ lockAt k s = unsupportedAt s := .inr (.inl ⟨k, rfl⟩)
      dsimp only
      split_ifs
      · split
        · exact hk
        · exact hk
        · exact hk
        · exact .inl rfl
      · exact .inl rfl

theorem stableResult_ranges (e : Option (Fin 24)) : KeepsRanges s (stableResult e s) := by
  obtain h | ⟨k, h⟩ | h := stableResult_cases e s
  · rw [h]
    exact .refl s
  · rw [h]
    exact lockAt_ranges k
  · rw [h]
    exact .trans (.of_unranged (track_keeps s)) (reach_ranges _)

theorem lockLoss_ranges : KeepsRanges s (lockLoss s) := by
  unfold lockLoss
  split
  · exact .refl s
  next i _ =>
    refine .ite (fun _ => ?_) fun _ => .refl s
    have h : KeepsRanges s (openRecord .recovery .part i (unready (setPath i .recovery s))) :=
      .trans (.of_unranged (setPath_keeps _ _ s)) <| .trans (.of_unranged (unready_keeps _)) (.of_unranged (openRecord_keeps _ _ _ _))
    exact h.trans <| .trans (.of_unranged (raiseSource_keeps _ _)) (leftLocked_ranges _)

theorem takeMonitor_ranges (e : Option MonitorEvent) : KeepsRanges s (takeMonitor e s) := by
  unfold takeMonitor
  split
  · exact .refl s
  · exact stableResult_ranges _
  · exact lockLoss_ranges

theorem framePulseAll_ranges (n : Nat) (b : Bool) : KeepsRanges s (framePulseAll n b s) := by
  have hi (t : State) : KeepsRanges t (inmFrame n t) := .trans (.of_unranged (monitorFrame_keeps n t)) (takeMonitor_ranges _)
  have hg (t : State) : KeepsRanges t (geoFrame t) := .ite (fun _ => takePending_ranges) fun _ => .refl t
  exact .trans (.ite (fun _ => (hg s).trans (hi _)) fun _ => (hi s).trans (hg _)) (.of_unranged (releasePoint_keeps _))

theorem watchdogAll_ranges : KeepsRanges s (watchdogAll s) :=
  .trans (.of_unranged (monitorWatchdog_keeps s)) (takeMonitor_ranges _)

theorem switchTimeout_ranges : KeepsRanges s (switchTimeout s) := by
  unfold switchTimeout
  split
  · exact .ite (fun _ => reach_ranges _) fun _ => .refl s
  · exact .refl s

theorem dialMoved_ranges (a b : Bool) : KeepsRanges s (dialMoved a b s) := by
  have hc (t : State) : KeepsRanges t (handCount (dialCount s.kpi.pairA s.kpi.pairB a b) t) := by
    unfold handCount
    split
    · exact .refl t
    next n hn => exact .ite (fun _ => dialCounted_ranges (dialCount_eq_some hn)) fun _ => .refl t
  exact .ite (fun _ => (modLines_ranges _).trans <| (modKpi_ranges _).trans (hc _)) fun _ => modLines_ranges _

theorem sourcePress_ranges : KeepsRanges s (sourcePress s) := by
  unfold sourcePress
  split
  · exact .refl s
  · exact sswSelect_ranges _ _

theorem axisPress_ranges : KeepsRanges s (axisPress s) :=
  .ite (fun _ => dialCleared_ranges _ rfl rfl rfl) fun _ => raise_ranges _

/-! ### The store, reset and start-up -/

theorem commitDone_ranges : KeepsRanges s (commitDone s) := by
  unfold commitDone
  split
  · exact .refl s
  · exact modSto_ranges _

theorem engineReturns_ranges : KeepsRanges s (engineReturns s) := by
  unfold engineReturns
  split
  · exact .refl s
  · exact raise_ranges _

/-- The defaults are in range. -/
theorem reset_inRange (x : Part) : x.inRange State.reset := by
  obtain ⟨-, -, -, -, -, h, -⟩ := resetMeetsLaws
  exact (recordsFit_iff _).mp h x

/-- After a power-on reset every part but CAL stands at its default. -/
theorem resetBlocks_inRange (h : s.cal.inRange) (x : Part) : x.inRange (resetBlocks s) := by
  cases x
  case settings => exact reset_inRange .settings
  case lamp => exact reset_inRange .lamp
  case inputs => exact reset_inRange .inputs
  case timings => exact reset_inRange .timings
  case timetable => exact reset_inRange .timetable
  case geo => exact reset_inRange .geo
  case cal => exact h
  all_goals trivial

/-- A record loaded has passed its check, or is its default. -/
theorem loadedFrom_ok {α : Type} {ok : α → Bool} {d : α} (i : Image α) (h : ok d = true) : ok (loadedFrom i ok d) = true := by
  unfold loadedFrom badImage
  cases hi : i.intact <;> cases hc : ok i.content <;> simp [h, hc]

theorem loadRecords_ranges : KeepsRanges s (loadRecords s) := by
  intro hs x
  rw [loadRecords_eq]
  cases x
  case settings => exact loadedFrom_ok _ (reset_inRange .settings)
  case lamp => exact loadedFrom_ok _ (reset_inRange .lamp)
  case inputs => exact loadedFrom_ok _ (reset_inRange .inputs)
  case timings => exact loadedFrom_ok _ (reset_inRange .timings)
  case timetable => exact loadedFrom_ok _ (reset_inRange .timetable)
  case cal => exact hs .cal
  case geo => exact hs .geo
  all_goals trivial

theorem settlingEvents_ranges (k : Nat) (l : List SettlingEvent) : ∀ s, KeepsRanges s (settlingEvents k l s) := by
  have he (e : SettlingEvent) (s : State) : KeepsRanges s (settlingEvent k s e) := by
    cases e with
    | second =>
      have h : KeepsRanges s (lsqSecond (s.modUptime (· + 1))) := (modUptime_ranges _).trans lsqSecond_ranges
      exact .ite (fun _ => h.trans sswSecond_ranges) fun _ => h
    | calendar =>
      refine .ite (fun _ => ?_) fun _ => modCal_ranges _ Cal.inRange_next
      exact .ite (fun _ => calCounted_ranges.trans (purge_ranges _)) fun _ => calCounted_ranges
  induction l with
  | nil => exact .refl
  | cons e l ih => exact fun s => (he e s).trans (ih _)

theorem settleLamp_ranges : KeepsRanges s (settleLamp s) := (modLsq_ranges _).trans (raise_ranges _)

theorem settleInputs_ranges : KeepsRanges s (settleInputs s) :=
  (forgetTimings_ranges _).trans (.of_unranged (modInm_keeps _ _))

theorem settleSource_ranges : KeepsRanges s (settleSource s) := (modSsw_ranges _).trans (.of_unranged (raiseSource_keeps _ _))

/-- The live keystone starts at the preset of POWER_ON_INPUT, the accumulator at 0 (R104). -/
theorem settleGeometry_ranges : KeepsRanges s (settleGeometry s) := by
  unfold settleGeometry
  dsimp only
  refine .trans (.of_part .geo (modGeo_keeps _ s) fun hs => ?_) <| .trans (modGeo_ranges _ fun h => ?_) (raise_ranges _)
  · obtain ⟨hi, -⟩ := (inputsOk_iff _).mp (hs .inputs)
    obtain ⟨-, -, hv, hh⟩ := (inputOk_iff _).mp (hi s.inputs.powerOnInput)
    simp only [Part.inRange, liveFits, Bool.and_eq_true, State.modGeo_geo]
    exact ⟨⟨⟨hv, hh⟩, rfl⟩, rfl⟩
  · exact h

theorem settleTimetable_ranges : KeepsRanges s (settleTimetable s) :=
  (purge_ranges s.cal.date).trans (.ite (fun _ => .refl _) fun _ => raise_ranges _)

theorem startUp_ranges (f : Vector (List SettlingEvent) 5) : KeepsRanges s (startUp f s) := by
  have h : KeepsRanges s (setPhase .settling (loadRecords s)) := loadRecords_ranges.trans (modSto_ranges _)
  unfold startUp
  dsimp only
  refine (h.trans settleLamp_ranges).trans <| (settlingEvents_ranges 1 f[0] _).trans ?_
  refine settleInputs_ranges.trans <| (settlingEvents_ranges 2 f[1] _).trans ?_
  refine settleSource_ranges.trans <| (settlingEvents_ranges 3 f[2] _).trans ?_
  refine settleGeometry_ranges.trans <| (settlingEvents_ranges 4 f[3] _).trans ?_
  refine settleTimetable_ranges.trans <| (settlingEvents_ranges 5 f[4] _).trans ?_
  exact (lateCheck_ranges _ _).trans (modSto_ranges _)

/-! ### The commands -/

theorem exec_ranges (c : Instr) {s t : State} (h : exec c s = .next t) : KeepsRanges s t := by
  have hp := keptAtPorts_ranges
  have hl (f : Lines → Lines) : KeepsRanges s (s.modLines f) := modLines_ranges f
  cases c <;> cases h
  case unknownRequestCode p b | nonRequestFrame p b => exact hp.bodyArrives p b s
  case uartByteReceived u b e => exact .ite (fun _ => .refl s) fun _ => hp.whenOperating _ _ (hp.uartByte u b s)
  case eWriteTransaction | eReadTransaction => exact hp.whenSupplied _ _ (hp.transaction _ _ s)
  case sselNegated => exact hp.whenSupplied _ _ (hp.txnEnds s)
  case gapTimerExpiry p => exact hp.whenOperating _ _ (hp.ports (modPort_keeps p _ s))
  case transmissionEnd u b => exact hp.whenOperating _ _ (hp.sent u b s)
  case litRise => exact (hl _).trans (hp.whenOperating _ _ litRises_ranges)
  case litFall => exact (hl _).trans (hp.whenOperating _ _ litFalls_ranges)
  case bfaultRise => exact (hl _).trans (hp.whenOperating _ _ bfaultRises_ranges)
  case bfaultFall => exact hl _
  case secondEvent l =>
    exact .ite (fun _ => (modUptime_ranges _).trans (hp.whenOperating _ _ (secondTaken_ranges l))) fun _ => .refl s
  case attemptTimerExpiry | retryGapExpiry | warmupTimerExpiry | coolTimerExpiry | minOnReached | holdReleaseWindow |
      nosigDimReached | nosigOffReached => exact hp.whenOperating _ _ (dueTest_ranges _)
  case litCommitCountReached => exact hp.whenOperating _ _ (markIf_ranges _ _)
  case presLineChange i b => exact .ite (fun _ => (hl _).trans (.of_unranged (modInm_keeps _ _))) fun _ => hl _
  case presenceDebounceExpiry i => exact .ite (fun _ => (debounceExpiry_ranges i).trans (settle_ranges _)) fun _ => .refl s
  case framePulse n b => exact hp.whenOperating _ _ (framePulseAll_ranges n b)
  case linePulse => exact hp.whenOperating _ _ (.of_unranged (monitorLine_keeps s))
  case frameWatchdogExpiry => exact hp.whenOperating _ _ watchdogAll_ranges
  case switchTimerExpiry => exact hp.whenOperating _ _ switchTimeout_ranges
  case dialEdge a b => exact (dialMoved_ranges a b).trans (settle_ranges _)
  case kpPowerPress => exact (modKpi_ranges _).trans (hp.whenOperating _ _ powerPress_ranges)
  case kpSourcePress =>
    exact (modKpi_ranges _).trans (hp.whenOperating _ _ (.ite (fun _ => sourcePress_ranges) fun _ => raise_ranges _))
  case kpAxisPress => exact (modKpi_ranges _).trans (hp.whenOperating _ _ axisPress_ranges)
  case keylockChange => exact (hl _).trans (modLkc_ranges _)
  case confirmWindowExpiry => exact hp.whenOperating _ _ (setConfirm_ranges _)
  case calendarSecond =>
    exact .ite (fun _ => .refl s) fun _ => .ite (fun _ => calendarTick_ranges.trans (settle_ranges _)) fun _ =>
      modCal_ranges _ Cal.inRange_next
  case commitComplete => exact .ite (fun _ => commitDone_ranges.trans (settle_ranges _)) fun _ => .refl s
  case pfailAsserted =>
    exact .ite (fun _ => (hl _).trans <| (modSto_ranges _).trans <| (markDirty_ranges _).trans (settle_ranges _)) fun _ => hl _
  case pfailNegated => exact .ite (fun _ => (hl _).trans <| (modSto_ranges _).trans (settle_ranges _)) fun _ => hl _
  case supplyFall => exact (hl _).trans (modSto_ranges _)
  case powerOnReset x =>
    cases x with
    | resetLine =>
      refine .ite (fun _ hs => ?_) fun _ => hl _
      exact resetBlocks_inRange ((commitDone_ranges.trans (modLines_ranges _)) hs .cal)
    | supplyRise => exact fun hs => resetBlocks_inRange (Cal.inRange_calAtRise (hs .cal))
  case resetRelease => exact hl _
  case startupLoadComplete f => exact .ite (fun _ => (startUp_ranges f).trans (settle_ranges _)) fun _ => .refl s
  case engRstAsserted =>
    exact .ite (fun _ => (hl _).trans <| (hp.ports (modPtc_keeps _ _)).trans (settle_ranges _)) fun _ => hl _
  case engRstReleased => exact .ite (fun _ => (hl _).trans <| engineReturns_ranges.trans (settle_ranges _)) fun _ => hl _
  case backupDomainLoss => exact .ite (fun _ => .refl s) fun _ => modCal_ranges _ fun _ => ⟨rfl, rfl⟩
  all_goals exact hp.requestArrives _ _ _ s

theorem step_ranges {s t : State} (h : step s = .next t) : KeepsRanges s t := by
  unfold step at h
  split at h
  · cases h
    exact .refl s
  next c rest _ =>
    have hq : KeepsRanges s { s with pending := rest } := .of_unranged (l := [.queue]) (by simp [keeps_iff])
    exact hq.trans (exec_ranges c h)

end

end Sys2Proof.Machine

open Sys2Proof Sys2Proof.Machine

/-- Settles O11: what every command writes has been clamped or checked, counted up to its ceiling, or taken from a part in
range. -/
theorem recordsStayInRange : Obligations.RecordsStayInRange := by
  unfold Obligations.RecordsStayInRange
  intro s t hs h
  exact (recordsFit_iff t).mpr (step_ranges h ((recordsFit_iff s).mp hs))

end

section
/-! PROOFS. What settle begins: a transmission on each idle UART, and a commit (O4). -/

namespace Sys2Proof.Machine

set_option Elab.async false

/-! ### The transmitters (R167, R173) -/

/-- A transmitter and its port once an idle one has chosen: the reply held, otherwise the oldest notice, which leaves the
queue. -/
def sendNext (now : TimeOfDay) (x : Transmitter) (q : Port) : Transmitter × Port :=
  if x = .idle then
    match q.reply, q.queue with
    | some r, _ => (.reply (frameBytes (replyBody r)), q)
    | none, [] => (.idle, q)
    | none, n :: _ => (.notice (frameBytes (noticeBody n)), q.dropNotices 1 now)
  else (x, q)

theorem sendNext_sending {now : TimeOfDay} {x : Transmitter} {q : Port} (h : x ≠ .idle) : sendNext now x q = (x, q) := if_neg h

theorem sendNext_reply {now : TimeOfDay} {q : Port} {r : Reply} (h : q.reply = some r) :
    sendNext now .idle q = (.reply (frameBytes (replyBody r)), q) := by simp [sendNext, h]

theorem sendNext_notice {now : TimeOfDay} {q : Port} {n : Notice} {rest : List Notice} (h : q.reply = none)
    (hq : q.queue = n :: rest) : sendNext now .idle q =
      (.notice (frameBytes (noticeBody n)),
        { q with overflow := false, queue := rest ++ (if q.overflow then [⟨.overflow, now⟩] else []) }) := by
  simp only [sendNext, h, hq, Port.dropNotices, Port.afterLeave, if_true]
  cases ho : q.overflow <;> simp

theorem sendNext_quiet {now : TimeOfDay} {q : Port} (h : q.reply = none) (hq : q.queue = []) :
    sendNext now .idle q = (.idle, q) := by simp [sendNext, h, hq]

/-- In the running part a transmitter and its port go on as `sendNext` says. -/
theorem startTx_self {s : State} (u : UartId) (ho : s.operating = true) :
    ((startTx u s).ptc.tx u, (startTx u s).port u.port) = sendNext s.cal.time (s.ptc.tx u) (s.port u.port) := by
  by_cases hx : s.ptc.tx u = .idle
  · unfold startTx
    simp only [ho, hx, beq_self_eq_true, Bool.and_self, if_true]
    split
    next r hr => rw [sendNext_reply hr]; simp [State.port]
    next hr =>
      split
      next hq => rw [sendNext_quiet hr hq, hx]
      next n rest hq =>
        have hs : sendNext s.cal.time .idle (s.port u.port) =
            (.notice (frameBytes (noticeBody n)), (s.port u.port).dropNotices 1 s.cal.time) := by simp [sendNext, hr, hq]
        rw [hs]
        simp [State.port]
  · rw [sendNext_sending hx]
    simp [startTx, hx]

/-- What one transmitter begins leaves the other UART and the E port as they stand. -/
theorem startTx_other {u v : UartId} (h : v ≠ u) (s : State) :
    (startTx u s).ptc.tx v = s.ptc.tx v ∧ (startTx u s).port v.port = s.port v.port := by
  have hp : v.port ≠ u.port := by cases u <;> cases v <;> simp_all [UartId.port]
  unfold startTx
  split
  · split
    · simp [State.port, h]
    · split
      · simp
      · simp [State.port, h, hp]
  · simp

theorem startTx_engine (u : UartId) (s : State) :
    (startTx u s).ptc.e = s.ptc.e ∧ (startTx u s).ptc.txn = s.ptc.txn ∧ (startTx u s).ptc.sdo = s.ptc.sdo := by
  unfold startTx
  split
  · split
    · cases u <;> simp [Ptc.setTx]
    · split
      · simp
      · cases u <;> simp [Ptc.setTx, Ptc.mod, UartId.port]
  · simp

/-! ### The commit (R42, R180, R183) -/

theorem beginCommit_some {s : State} {r : RecordName} (ho : s.operating = true) (hi : s.sto.inflight = none)
    (hn : s.nextCommit = some r) : beginCommit s =
      { s with
        sinceCommit := if r = .lamp then 0 else s.sinceCommit
        sto := { s.sto with
          dirty := s.sto.dirty.erase r
          inflight := some (s.copyOf r)
          pf := if s.sto.pf = .owed then .begun else s.sto.pf } } := by
  simp [beginCommit, ho, hi, hn]

theorem beginCommit_idle {s : State} (h : s.operating = false ∨ s.sto.inflight ≠ none ∨ s.nextCommit = none) :
    beginCommit s = s := by
  unfold beginCommit
  split
  next hc =>
    obtain ⟨ho, hi⟩ := Bool.and_eq_true_iff.mp hc
    have hn : s.nextCommit = none := by simpa [ho, Option.isNone_iff_eq_none.mp hi] using h
    rw [hn]
  next => rfl

/-- No commit looks at the ports. -/
theorem beginCommit_of_ports {s t : State} (h : Keeps [.ports] s t) :
    (beginCommit t).sto = (beginCommit s).sto ∧ (beginCommit t).sinceCommit = (beginCommit s).sinceCommit := by
  have he : t = { s with ptc := t.ptc } := by
    have hk := keeps_iff.mp h
    cases t
    simp_all
  have hb (c : Ptc) : beginCommit { s with ptc := c } = { beginCommit s with ptc := c } := by
    have ho : State.operating { s with ptc := c } = s.operating := rfl
    have hn : State.nextCommit { s with ptc := c } = s.nextCommit := rfl
    unfold beginCommit
    rw [ho, hn]
    split
    · cases s.nextCommit <;> rfl
    · rfl
  rw [he, hb]
  exact ⟨rfl, rfl⟩

theorem nextCommit_of_mem {s : State} (hp : s.sto.pf = .off) (hd : .lamp ∈ s.sto.dirty) : s.nextCommit = some .lamp := by
  simp [State.nextCommit, hp, hd]

theorem nextCommit_of_not_mem {s : State} (hp : s.sto.pf = .off) (hd : .lamp ∉ s.sto.dirty) :
    s.nextCommit = s.sto.dirty.head? := by
  simp [State.nextCommit, hp, hd]

/-! ### Both together -/

theorem startTx_both_keeps (s : State) : Keeps [.ports] s (startTx .f (startTx .l s)) :=
  (startTx_keeps .l s).seq (startTx_keeps .f _)

theorem settle_commit (s : State) :
    (settle s).sto = (beginCommit s).sto ∧ (settle s).sinceCommit = (beginCommit s).sinceCommit :=
  beginCommit_of_ports (startTx_both_keeps s)

theorem settle_ptc (s : State) : (settle s).ptc = (startTx .f (startTx .l s)).ptc := beginCommit_keeps _ .ports (by decide)

theorem operating_startTx (u : UartId) (s : State) : (startTx u s).operating = s.operating := by
  have hl : (startTx u s).lines = s.lines := startTx_keeps u s .lines (by decide)
  have hs : (startTx u s).sto = s.sto := startTx_keeps u s .store (by decide)
  simp [State.operating, State.powered, hl, hs]

theorem settle_sends {s : State} (x : UartId) (ho : s.operating = true) :
    ((settle s).ptc.tx x, (settle s).port x.port) = sendNext s.cal.time (s.ptc.tx x) (s.port x.port) := by
  rw [State.port, settle_ptc]
  cases x with
  | l =>
    obtain ⟨ht, hp⟩ := startTx_other (u := .f) (v := .l) (by decide) (startTx .l s)
    rw [ht, ← startTx_self .l ho]
    exact congrArg _ hp
  | f =>
    obtain ⟨ht, hp⟩ := startTx_other (u := .l) (v := .f) (by decide) s
    have hc : (startTx .l s).cal = s.cal := startTx_keeps .l s .cal (by decide)
    rw [← ht, ← hp, ← hc]
    exact startTx_self .f ((operating_startTx .l s).trans ho)

end Sys2Proof.Machine

open Sys2Proof Sys2Proof.Machine

/-- Settles O4: each transmitter by what its port holds, and the commit by the record that comes next. -/
theorem settleBeginsWhatWaits : Obligations.SettleBeginsWhatWaits := by
  unfold Obligations.SettleBeginsWhatWaits
  intro s
  obtain ⟨hsto, hsince⟩ := settle_commit s
  have hsend (x : UartId) (y : Transmitter) (q : Port) (ho : s.operating = true)
      (h : sendNext s.cal.time (s.ptc.tx x) (s.port x.port) = (y, q)) :
      (settle s).ptc.tx x = y ∧ (settle s).port x.port = q := Prod.mk.inj ((settle_sends x ho).trans h)
  refine ⟨settle_idle, settle_keeps_parts s, fun ho hi hp hd => ?_, fun ho hi hp => ?_, fun ho hi hp hd => ⟨?_, ?_⟩,
    fun h => ?_, fun ho x hx => hsend x _ _ ho (sendNext_sending hx), fun ho x y hx hr => ?_,
    fun ho x n rest hx hr hq => ?_, fun ho x hx hr hq => ?_, ?_⟩
  · rw [hsto, hsince, beginCommit_some ho hi (nextCommit_of_mem hp hd)]
    simp [hp, State.copyOf]
  · have hn : s.nextCommit = some .lamp := by simp [State.nextCommit, hp]
    rw [hsto, hsince, beginCommit_some ho hi hn]
    simp [hp, State.copyOf]
  · intro r rest hr
    have hn : s.nextCommit = some r := by rw [nextCommit_of_not_mem hp hd, hr]; rfl
    rw [hsto, beginCommit_some ho hi hn]
    simp [hp, hr]
  · rw [hsince]
    cases hr : s.sto.dirty with
    | nil => rw [beginCommit_idle (.inr (.inr (by rw [nextCommit_of_not_mem hp hd, hr]; rfl)))]
    | cons r rest =>
      have hn : s.nextCommit = some r := by rw [nextCommit_of_not_mem hp hd, hr]; rfl
      have hl : r ≠ .lamp := by rintro rfl; simp [hr] at hd
      rw [beginCommit_some ho hi hn]
      simp [hl]
  · have hn : s.sto.inflight ≠ none ∨ s.nextCommit = none := by
      obtain h | h | h | ⟨h, hd⟩ := h
      · exact .inl h
      · exact .inr (by simp [State.nextCommit, h])
      · exact .inr (by simp [State.nextCommit, h])
      · exact .inr (by simp [State.nextCommit, h, hd])
    rw [hsto, hsince, beginCommit_idle (.inr hn)]
    exact ⟨rfl, rfl⟩
  · exact hsend x _ _ ho (by rw [hx, sendNext_reply hr])
  · exact hsend x _ _ ho (by rw [hx, sendNext_notice hr hq])
  · exact hsend x _ _ ho (by rw [hx, sendNext_quiet hr hq])
  · obtain ⟨he, ht, hd⟩ := startTx_engine .l s
    obtain ⟨he', ht', hd'⟩ := startTx_engine .f (startTx .l s)
    rw [settle_ptc]
    exact ⟨he'.trans he, ht'.trans ht, hd'.trans hd⟩

end

section
/-! PROOFS. LAMP_LIMITS (O34). -/

namespace Sys2Proof.Machine

set_option Elab.async false

/-- A limit carried, held to 100..65,000, or the limit as it stood (R32). -/
def limitAfter (w : Option Half) (old : Nat) : Nat := (w.map fun n => max 100 (min n.toNat 65000)).getD old

/-- A limit carried lies within 100..65,000. -/
def limitHolds (w : Option Half) : Bool := w.all fun n => decide (100 ≤ n.toNat ∧ n.toNat ≤ 65000)

theorem clamp_lampHours (n : Nat) : Config.lampHours.clamp n = max 100 (min n 65000) := by
  have hlo : Config.lampHours.lo = 100 := rfl
  have hhi : Config.lampHours.hi = 65000 := rfl
  rw [Config.Range.clamp]
  split
  · omega
  · split <;> omega

theorem newLimits_eq (w : RawLimits) (r : LampRecord) : newLimits w r =
    (min (limitAfter w.warn r.warnHours) (limitAfter w.life r.lifeHours), limitAfter w.life r.lifeHours) := by
  simp only [newLimits, clamp_lampHours, limitAfter]
  cases w.warn <;> cases w.life <;> rfl

/-- A LIFE_HOURS in range is one after any LAMP_LIMITS. -/
theorem le_limitAfter {w : Option Half} {old : Nat} (h : 100 ≤ old) : 100 ≤ limitAfter w old := by
  cases w with
  | none => exact h
  | some n => exact Nat.le_max_left _ _

/-- The two steps leave WARN_HOURS as carried, or as it stood, exactly where it is in range and not above LIFE_HOURS. -/
theorem warn_unchanged_iff {w : Option Half} {old life : Nat} (h : 100 ≤ life) :
    min (limitAfter w old) life = (w.map BitVec.toNat).getD old ↔ limitHolds w = true ∧ limitAfter w old ≤ life := by
  cases w with
  | none => simp [limitAfter, limitHolds]
  | some n =>
    simp only [limitAfter, limitHolds, Option.map_some, Option.getD_some, Option.all_some, decide_eq_true_eq]
    omega

theorem life_unchanged_iff {w : Option Half} :
    (w.any fun n => Config.lampHours.clamp n.toNat != n.toNat) = false ↔ limitHolds w = true := by
  cases w with
  | none => simp [limitHolds]
  | some n =>
    simp only [limitHolds, Option.any_some, Option.all_some, clamp_lampHours, bne_eq_false_iff_eq, decide_eq_true_eq]
    omega

theorem limitsClamped_eq_or (w : RawLimits) (r : LampRecord) : limitsClamped w r =
    ((w.life.any fun n => Config.lampHours.clamp n.toNat != n.toNat) ||
      (newLimits w r).1 != (w.warn.map BitVec.toNat).getD r.warnHours) := by
  rw [limitsClamped]
  cases w.warn <;> rfl

/-- The limits are CLAMPED where one carried lies out of range, or where WARN_HOURS would stand above LIFE_HOURS. -/
theorem limitsClamped_eq {w : RawLimits} {r : LampRecord} (h : 100 ≤ r.lifeHours) : limitsClamped w r =
    !(limitHolds w.life && limitHolds w.warn &&
      decide (limitAfter w.warn r.warnHours ≤ limitAfter w.life r.lifeHours)) := by
  rw [limitsClamped_eq_or, newLimits_eq, Bool.eq_iff_iff, ← not_iff_not]
  simp only [Bool.not_eq_true, Bool.or_eq_false_iff, life_unchanged_iff, bne_eq_false_iff_eq,
    warn_unchanged_iff (le_limitAfter h), Bool.not_eq_false', Bool.and_eq_true, decide_eq_true_eq, and_assoc]

/-- A reply whose status and fields are given another way. -/
theorem told_hasReply_of {p : PortId} {c : Byte} {a : Answer} {st : Status} {l : List Byte} {ns : List Payload} {s u : State}
    (hs : a.status = st) (hl : a.fields = l) (h : u.ptc = s.heard ns) : Told p c st l ns s (hasReply p c a u) := by
  subst hs hl
  exact told_hasReply h

end Sys2Proof.Machine

open Sys2Proof Sys2Proof.Machine

/-- Settles O34: the limits by R32's two steps, the condition evaluated after them. -/
theorem lampLimitsWritten : Obligations.LampLimitsWritten := by
  unfold Obligations.LampLimitsWritten
  intro p o a w s ht hs
  refine settles_request ht rfl ?_
  obtain ⟨-, -, ⟨-, hlife, -⟩, -⟩ := (lampOk_iff _).mp ((recordsFit_iff s).mp hs .lamp)
  have hcl := limitsClamped_eq (w := w) ((range_holds_iff _ _).mp hlife).1
  by_cases hi : w.spare ≠ 0 ∨ (w.warn = none ∧ w.life = none)
  · have he : ownerAct p a (.lampLimits w) s = (s, .invalid) := if_pos hi
    rw [he]
    refine ⟨fun _ => onlyReplied_hasReply _ _ _ _, fun h₀ hc => absurd hi ?_⟩
    simpa [h₀, or_iff_not_imp_left] using hc
  · have he : ownerAct p a (.lampLimits w) s =
        (markDirty .lamp (evaluated (fun r => { r with
            warnHours := min (limitAfter w.warn s.lamp.warnHours) (limitAfter w.life s.lamp.lifeHours)
            lifeHours := limitAfter w.life s.lamp.lifeHours }) s),
         .clampedIf (limitsClamped w s.lamp)
          (byte2 (min (limitAfter w.warn s.lamp.warnHours) (limitAfter w.life s.lamp.lifeHours)) ++
            byte2 (limitAfter w.life s.lamp.lifeHours))) := by
      simp only [ownerAct, lampLimitsRequest, if_neg hi, newLimits_eq]
    rw [he, hcl, markDirty_eq, evaluated_eq]
    refine ⟨fun h => absurd h hi, fun _ _ => ⟨rfl, rfl, by simp [keeps_iff, hasReply, State.modPort], ?_⟩⟩
    exact told_hasReply_of (clampedIf_not_status _ _) rfl rfl

end

section
/-! PROOFS. What the switch and the geometry leave of the picture, each operation said once as an equation. -/

namespace Sys2Proof.Machine

set_option Elab.async false

/-! ### The take and the placement of a warp (R99, R101) -/

section

variable {s : State} {i : Fin 6}

/-- MUTE is released only on a LOCKED path (R80). -/
theorem showable_unlocked (h : s.locked = false) : s.showable = false := by simp [State.showable, h]

theorem releasePoint_unlocked (h : s.locked = false) : releasePoint s = s := by simp [releasePoint, showable_unlocked h]

/-- A warp taken on a path that is not LOCKED reports to no one (R101). -/
theorem takeWarp_unlocked (w : Warp) (h : s.locked = false) : takeWarp w s =
    { s with
      geo := tookWarp w s.geo
      ptc := s.heard [.warpReady (nextGeneration s.geo.active) w.input w.cause] } := by
  unfold takeWarp takeReported
  dsimp only
  rw [if_neg (by exact fun hl => Bool.false_ne_true (h.symm.trans hl))]
  rfl

/-- A warp taken on a LOCKED path makes the picture ready, and its report is a release point (R80, R101). -/
theorem takeWarp_locked (w : Warp) (h : s.locked = true) : ∃ m, takeWarp w s =
    { s with
      geo := tookWarp w s.geo
      ssw := { s.ssw with ready := true, mute := m }
      ptc := s.heard [.warpReady (nextGeneration s.geo.active) w.input w.cause] } := by
  unfold takeWarp takeReported
  dsimp only
  rw [if_pos (by exact h)]
  unfold releasePoint
  split
  · exact ⟨false, rfl⟩
  · exact ⟨s.ssw.mute, rfl⟩

/-- A recompute places its warp: pending on a LOCKED path, otherwise taken (R99). -/
theorem recompute_placed (c : WarpCause) (h : s.ssw.selected = some i) : recompute c s =
    { s with
      geo := placedGeo s (s.warpFor i c) s.geo
      ptc := s.heard (placedNotice s (s.warpFor i c)) } := by
  unfold recompute placedGeo placedNotice
  rw [h]
  dsimp only
  split
  next => rfl
  next hl => rw [takeWarp_unlocked _ (by simpa using hl)]

/-- The selected input's preset becomes the live keystone, and the warp is placed (R91). -/
theorem applyPreset_placed (c : WarpCause) (h : s.ssw.selected = some i) : applyPreset c s =
    { s with
      geo := placedGeo s (presetWarp s i c) (presetGeo s i)
      ptc := s.heard (placedNotice s (presetWarp s i c)) } := by
  unfold applyPreset
  rw [h]
  exact recompute_placed c h

/-- The path has left LOCKED: the warp then pending is taken (R101). -/
theorem leftLocked_eq {t : State} (ht : t.locked = false) (hg : t.geo = s.geo) : leftLocked s.locked t =
    { t with
      geo := leftGeo s
      ptc := t.heard (leftNotice s) } := by
  unfold leftLocked leftGeo leftNotice takePending
  rw [ht, hg]
  cases s.locked with
  | false => simp [← hg]
  | true =>
    cases s.geo.pendingWarp with
    | none => simp [← hg]
    | some w => simp [takeWarp_unlocked w ht, hg]

end

/-! ### A training (R62 to R67) -/

/-- The path states once the selection has moved to `i` (R62). -/
def movedPath (i : Fin 6) (s : State) : Vector PathState 6 :=
  match s.ssw.selected with
  | none => s.inm.path
  | some j => if j = i then s.inm.path else s.inm.path.set j (s.restPath j)

section

variable (k : SwitchKind) (o : Origin) (i : Fin 6) (s : State)

theorem moveSelection_eq : moveSelection i s =
    { s with
      ssw := { s.ssw with selected := some i }
      inm := { s.inm with path := movedPath i s } } := by
  unfold moveSelection movedPath
  cases s.ssw.selected with
  | none => rfl
  | some j =>
    dsimp only
    split <;> rfl

theorem portOfOrigin_eq : portOfOrigin o = supersededTo o := by
  funext p
  cases o <;> cases p <;> rfl

/-- SES is handed the outcome of a record by its origin (R63). -/
theorem handSource_eq (r : SwitchRecord) (x : SourceState) (h : s.ssw.record = some r) : handSource r x s =
    { s with ses := handedSes x s } := by
  unfold handSource handedSes
  rw [h]
  by_cases ho : r.origin = .timetable <;> simp [ho, sesSource, State.modSes]

/-- A supersession is told to SES and at the ports (R64, R66). -/
theorem supersede_eq : supersede s = { s with ses := supersededSes s, ptc := (supersede s).ptc } := by
  unfold supersede
  cases hr : s.ssw.record with
  | none => simp [supersededSes, handedSes, hr]
  | some r =>
    dsimp only
    rw [handSource_eq s r _ hr]
    cases s.ssw.selected <;> rfl

theorem supersede_none (h : s.ssw.record = none) : supersede s = s := by simp [supersede, h]

theorem supersede_ptc {r : SwitchRecord} {j : Fin 6} (hr : s.ssw.record = some r) (hj : s.ssw.selected = some j) :
    (supersede s).ptc = (superseding j r s).ptc := by
  simp only [supersede, hr, hj, portOfOrigin_eq, handSource_eq s r _ hr]
  rfl

/-- What a training leaves: the record opened, the paths, the monitor seeking, and the notices of the supersession and of
TRAINING. -/
theorem beginTraining_leaves : beginTraining k o i s =
    { s with
      inm := { s.inm with path := (movedPath i s).set i .training, mon := sought s.inm.mon }
      ssw := trainingSsw i o k s.settings.switchTimeout s.ssw
      ses := supersededSes s
      ptc := (supersede s).heard [sourceTold s i (some .training) (some ⟨i, o, k, s.ssw.record.isSome⟩)] } := by
  unfold beginTraining
  rw [moveSelection_eq, supersede_eq]
  simp [raiseSource, raise_eq, sourcePayload, sourceTold, seek, modMon, setPath, openRecord, unready, trainingSsw, sought, movedPath,
    State.restPath, State.modInm, State.modSsw]

theorem beginTraining_unlocked : (beginTraining k o i s).locked = false := by
  rw [beginTraining_leaves]
  simp [State.locked, State.selPath, trainingSsw]

/-- A training with the preset of its input, whose warp is taken at once (R65, R75, R91). -/
theorem presetTraining_leaves : applyPreset .select (beginTraining k o i s) =
    { s with
      inm := { s.inm with path := (movedPath i s).set i .training, mon := sought s.inm.mon }
      ssw := trainingSsw i o k s.settings.switchTimeout s.ssw
      ses := supersededSes s
      geo := tookWarp (presetWarp s i .select) (presetGeo s i)
      ptc := (supersede s).heard [sourceTold s i (some .training) (some ⟨i, o, k, s.ssw.record.isSome⟩),
        .warpReady (nextGeneration s.geo.active) i .select] } := by
  have hu := beginTraining_unlocked k o i s
  rw [applyPreset_placed (i := i) .select (by rw [beginTraining_ssw]; rfl), placedGeo, placedNotice, hu, beginTraining_leaves,
    supersede_eq]
  rfl

/-- The ports after a supersession and the notices that follow it. -/
theorem supersede_heard {r : SwitchRecord} {j : Fin 6} (hr : s.ssw.record = some r) (hj : s.ssw.selected = some j)
    (ns : List Payload) : (supersede s).heard ns = (superseding j r s).heard ns := by
  rw [supersede_eq, supersede_ptc s hr hj]
  rfl

end

/-- An input left behind takes its unselected path state, and no other path moves (R62). -/
theorem movedPath_other {i j : Fin 6} (h : j ≠ i) (s : State) :
    (movedPath i s)[j] = if s.ssw.selected = some j then s.restPath j else s.inm.path[j] := by
  unfold movedPath
  cases s.ssw.selected with
  | none => simp
  | some x =>
    dsimp only
    by_cases hi : x = i
    · simp [hi, h.symm]
    · by_cases hx : x = j
      · simp [hx, h]
      · simp [hi, hx, Fin.val_inj]

theorem movedPath_selected {i : Fin 6} {s : State} (h : s.ssw.selected = some i) : movedPath i s = s.inm.path := by
  simp [movedPath, h]

/-- A training of the selected input in place: the selection and the live keystone stand, and a warp pending on the LOCKED
path is taken (R67, R101). -/
theorem retrainSelected_leaves (o : Origin) {i : Fin 6} {s : State} (h : s.ssw.selected = some i) :
    retrainSelected o i s =
      { s with
        inm := trainingInm i s.inm
        ssw := trainingSsw i o .retrain s.settings.switchTimeout s.ssw
        ses := supersededSes s
        geo := leftGeo s
        ptc := (supersede s).heard
          (sourceTold s i (some .training) (some ⟨i, o, .retrain, s.ssw.record.isSome⟩) :: leftNotice s) } := by
  rw [retrainSelected, leftLocked_eq (beginTraining_unlocked _ _ _ _) (beginTraining_keeps _ _ _ s .geo (by decide)),
    beginTraining_leaves, movedPath_selected h, supersede_eq]
  rfl

/-! ### SELECT and RETRAIN (R65, R67) -/

theorem endScan_eq (s : State) : endScan s = { s with ssw := scanless s.ssw } := rfl

/-- A SELECT of an enabled input that is not the one LOCKED trains it with its preset (R65). -/
theorem selectRequest_trains (a : Origin) {b : Byte} {i : Fin 6} {s : State} (hb : b.toNat = i.val)
    (he : s.inputs.entries[i].enabled = true) (hl : ¬(s.ssw.selected = some i ∧ s.locked = true)) :
    selectRequest a b s = (applyPreset .select (beginTraining .select a i (endScan s)), .accepted) := by
  simp only [selectRequest, (indexOf_eq_some 6 b i).mpr hb, sswSelect, he, if_neg hl]
  rfl

/-- A RETRAIN of the selected input trains it in place (R67). -/
theorem retrainRequest_trains (a : Origin) {b : Byte} {i : Fin 6} {s : State} (hb : b.toNat = i.val)
    (h : s.ssw.selected = some i) : retrainRequest a b s = (retrainSelected a i (endScan s), .accepted) := by
  simp only [retrainRequest, (indexOf_eq_some 6 b i).mpr hb, if_pos h]

end Sys2Proof.Machine

open Sys2Proof Sys2Proof.Machine

/-- Settles O20: the scan is abandoned, and the input is trained with its preset. -/
theorem selectTrains : Obligations.SelectTrains := by
  unfold Obligations.SelectTrains
  intro p o a b i s ht hb he hl
  refine settles_request ht rfl ?_
  rw [show ownerAct p a (.select b) s = _ from selectRequest_trains a hb he hl, presetTraining_leaves]
  refine ⟨rfl, rfl, ?_, rfl, rfl, fun j hj => ?_, rfl, rfl, hasReply_answers _ _ _ _,
    by simp [keeps_iff, hasReply, State.modPort, endScan_eq], fun hr => told_hasReply ?_, fun r j hr hj => told_hasReply ?_⟩
  · simp [hasReply, State.modPort]
  · refine Eq.trans ?_ (movedPath_other hj (endScan s))
    simp [hasReply, State.modPort, hj.symm, Fin.val_inj]
  · rw [supersede_none _ (by exact hr), endScan_eq]
    dsimp only [scanless]
    rw [hr]
    rfl
  · rw [supersede_heard _ (r := r) (j := j) (by exact hr) (by exact hj), endScan_eq]
    dsimp only [scanless]
    rw [hr]
    rfl

/-- Settles O22: the scan is abandoned, and the selected input is trained in place. -/
theorem retrainTrains : Obligations.RetrainTrains := by
  unfold Obligations.RetrainTrains
  intro p o a b i s ht hb hi
  refine settles_request ht rfl ?_
  rw [show ownerAct p a (.retrain b) s = _ from retrainRequest_trains a hb hi, retrainSelected_leaves a (by exact hi)]
  refine ⟨rfl, rfl, rfl, rfl, hasReply_answers _ _ _ _, by simp [keeps_iff, hasReply, State.modPort, endScan_eq],
    fun hr => told_hasReply ?_, fun r hr => told_hasReply ?_⟩
  · rw [supersede_none _ (by exact hr), endScan_eq]
    dsimp only [scanless]
    rw [hr]
    rfl
  · rw [supersede_heard _ (r := r) (j := i) (by exact hr) (by exact hi), endScan_eq]
    dsimp only [scanless]
    rw [hr]
    rfl

end

section
/-! PROOFS. The outcomes of a training, the scans that follow them, locks and losses, each said once (4.3, 4.4). -/

namespace Sys2Proof.Machine

set_option Elab.async false

/-! ### The scan list (R75) -/

theorem mem_insertByPriority {f : Fin 6 → Nat} {i x : Fin 6} {l : List (Fin 6)} :
    x ∈ insertByPriority f i l ↔ x = i ∨ x ∈ l := by
  induction l with
  | nil => simp [insertByPriority]
  | cons j rest ih =>
    unfold insertByPriority
    split
    · simp
    · simp [ih, or_left_comm]

theorem pairwise_insertByPriority {s : State} {i : Fin 6} {l : List (Fin 6)} (hi : ∀ j ∈ l, i < j)
    (hl : l.Pairwise (scansBefore s)) :
    (insertByPriority (fun x => s.inputs.entries[x].priority) i l).Pairwise (scansBefore s) := by
  induction l with
  | nil => simp [insertByPriority]
  | cons j rest ih =>
    obtain ⟨hj, hr⟩ := List.pairwise_cons.mp hl
    unfold insertByPriority
    split
    next hp =>
      refine List.pairwise_cons.mpr ⟨fun x hx => ?_, hl⟩
      have hle : s.inputs.entries[j].priority ≤ s.inputs.entries[x].priority := by
        obtain rfl | hx := List.mem_cons.mp hx
        · exact Nat.le_refl _
        · exact (hj x hx).elim Nat.le_of_lt fun h => Nat.le_of_eq h.1
      exact (Nat.lt_or_eq_of_le (Nat.le_trans hp hle)).imp id fun h => ⟨h, hi x hx⟩
    next hp =>
      refine List.pairwise_cons.mpr ⟨fun x hx => ?_, ih (fun x hx => hi x (List.mem_cons_of_mem _ hx)) hr⟩
      obtain rfl | hx := mem_insertByPriority.mp hx
      · exact .inl (Nat.lt_of_not_le hp)
      · exact hj x hx

/-- The insertions one by one hold what was inserted, in the order of a scan. -/
theorem insertedByPriority (s : State) {l : List (Fin 6)} (hl : l.Pairwise (· < ·)) :
    (∀ x, x ∈ l.foldr (insertByPriority fun x => s.inputs.entries[x].priority) [] ↔ x ∈ l) ∧
    (l.foldr (insertByPriority fun x => s.inputs.entries[x].priority) []).Pairwise (scansBefore s) := by
  induction l with
  | nil => simp
  | cons i rest ih =>
    obtain ⟨hi, hr⟩ := List.pairwise_cons.mp hl
    obtain ⟨hm, hp⟩ := ih hr
    exact ⟨fun x => by rw [List.foldr_cons, mem_insertByPriority, hm, List.mem_cons],
      pairwise_insertByPriority (fun j hj => hi j ((hm j).mp hj)) hp⟩

theorem buildScan_pairwise (s : State) (h : Fin 6) : (s.buildScan h).Pairwise (scansBefore s) :=
  (insertedByPriority s (.filter _ (by decide))).2

theorem mem_buildScan {s : State} {h x : Fin 6} : x ∈ s.buildScan h ↔ x ≠ h ∧ s.attached x = true := by
  have hx : x ∈ allInputs := by revert x; decide
  rw [State.buildScan, (insertedByPriority s (.filter _ (by decide))).1]
  simp [hx]

/-! ### Trials (R75, R76) -/

/-- The state `t` stands as `s` in all that a trial reads or leaves, and holds no switch record. -/
structure ScanFrom (s t : State) : Prop where
  settings : t.settings = s.settings
  inputs : t.inputs = s.inputs
  timings : t.timings = s.timings
  geo : t.geo = s.geo
  selected : t.ssw.selected = s.ssw.selected
  mon : sought t.inm.mon = sought s.inm.mon
  record : t.ssw.record = none

section

variable {s t : State} {h x : Fin 6}

/-- A trial's SSW, and what of the inputs stands as it did. -/
theorem scanSelect_ssw (x : Fin 6) (t : State) :
    (scanSelect x t).ssw = trainingSsw x .part .scan t.settings.switchTimeout t.ssw := by
  rw [scanSelect, presetTraining_leaves]

theorem scanSelect_inputs (x : Fin 6) (t : State) : (scanSelect x t).inputs = t.inputs :=
  scanSelect_keeps x t .inputs (by decide)

theorem scanSelect_deb (x : Fin 6) (t : State) : (scanSelect x t).inm.deb = t.inm.deb := by
  rw [scanSelect, presetTraining_leaves]

theorem attached_of_same {s t : State} (hi : t.inputs = s.inputs) (hd : t.inm.deb = s.inm.deb) : t.attached = s.attached := by
  funext y
  rw [State.attached, State.attached, hi, hd]

theorem attached_scanSelect (x : Fin 6) (t : State) : (scanSelect x t).attached = t.attached :=
  attached_of_same (scanSelect_inputs x t) (scanSelect_deb x t)

theorem tries_scanSelect (hf : ScanFrom s t) (x : Fin 6) : Tries x s (scanSelect x t) := by
  have hw := presetWarp_of_same hf.inputs hf.timings x .select
  have hg : presetGeo t x = presetGeo s x := by simp [presetGeo, hf.geo, hf.inputs]
  rw [scanSelect, presetTraining_leaves, hw, hg, hf.mon, hf.settings]
  refine ⟨rfl, rfl, ?_, rfl, rfl, rfl, by simp, rfl, fun j hj hx => ?_, rfl⟩
  · simp [trainingSsw, hf.record]
  · refine Eq.trans ?_ ((movedPath_other hx t).trans (if_pos (hf.selected.trans hj)))
    simp [hx.symm, Fin.val_inj]

/-- The entries left are tried in turn: those not attached are passed over (R75). -/
theorem scanTry_passes {before : List (Fin 6)} (hb : ∀ y ∈ before, t.attached y = false) (l : List (Fin 6)) :
    scanTry (before ++ l) t = scanTry l { t with ssw := { t.ssw with scanPos := t.ssw.scanPos + before.length } } := by
  induction before generalizing t with
  | nil => rfl
  | cons y rest ih =>
    have hy : t.attached y = false := hb y List.mem_cons_self
    rw [List.cons_append, scanTry]
    dsimp only
    rw [if_neg (by exact fun h => Bool.false_ne_true (hy.symm.trans h)),
      ih (by exact fun z hz => hb z (List.mem_cons_of_mem _ hz))]
    simp [State.modSsw, Nat.add_assoc, Nat.add_comm 1]

theorem scanTry_attached (hx : t.attached x = true) (l : List (Fin 6)) :
    scanTry (x :: l) t = scanSelect x { t with ssw := { t.ssw with scanPos := t.ssw.scanPos + 1 } } := by
  rw [scanTry]
  exact if_pos hx

/-- A scan moves no debouncer. -/
theorem scanTry_deb (l : List (Fin 6)) (t : State) : (scanTry l t).inm.deb = t.inm.deb := by
  induction l generalizing t with
  | nil =>
    unfold scanTry scanReturn
    split
    · rfl
    · exact scanSelect_deb _ _
  | cons y rest ih =>
    rw [scanTry]
    split
    · exact scanSelect_deb _ _
    · exact ih _

theorem attached_scanTry (l : List (Fin 6)) (t : State) : (scanTry l t).attached = t.attached :=
  attached_of_same (scanTry_keeps l t .inputs (by decide)) (scanTry_deb l t)

/-- What a scan counts and lists is no part of what a trial reads. -/
theorem ScanFrom.listed (hf : ScanFrom s t) {w : Ssw} (hs : w.selected = t.ssw.selected) (hr : w.record = t.ssw.record) :
    ScanFrom s { t with ssw := w } :=
  ⟨hf.settings, hf.inputs, hf.timings, hf.geo, hs.trans hf.selected, hf.mon, hr.trans hf.record⟩

/-- A trial is followed by that of the next entry attached, or by the return to the home input (R75, R76). -/
theorem scanNext_movesOn (hf : ScanFrom s t) (hl : t.ssw.scanList = s.ssw.scanList) (hp : t.ssw.scanPos = s.ssw.scanPos)
    (hh : t.ssw.home = some h) (ht : t.ssw.phase = .trying) : ScanMovesOn h s (scanNext t) := by
  rw [scanNext, hl, hp, ScanMovesOn, attached_scanTry]
  refine ⟨fun x before after he hb hx => ?_, fun hn => ?_⟩
  · rw [he, scanTry_passes hb, scanTry_attached (by exact hx)]
    refine ⟨tries_scanSelect (hf.listed (by rfl) (by rfl)) x, ?_⟩
    rw [scanSelect_ssw]
    exact ⟨ht, hh, hl, by rw [← hp]; rfl⟩
  · rw [← List.append_nil (s.ssw.scanList.drop s.ssw.scanPos), scanTry_passes hn, scanTry, scanReturn]
    dsimp only
    rw [hh]
    refine ⟨tries_scanSelect (hf.listed (by rfl) (by rfl)) h, ?_⟩
    rw [scanSelect_ssw]
    exact ⟨rfl, rfl, rfl, rfl⟩

/-- A scan with an input to try begins with the first of its list (R74, R75). -/
theorem startScan_begins {rest : List (Fin 6)} (hs : t.ssw.selected = some h) (hl : t.buildScan h = x :: rest) :
    startScan t = scanSelect x { t with ssw := { t.ssw with
      phase := .trying, scanList := x :: rest, scanPos := 1, home := some h, rescan := false } } := by
  have hx : t.attached x = true := (mem_buildScan.mp (hl ▸ List.mem_cons_self)).2
  rw [startScan, hs]
  dsimp only
  rw [hl]
  exact scanTry_attached (by exact hx) rest

/-- With no other input enabled and present no scan starts (R74). -/
theorem startScan_idle (hs : t.ssw.selected = some h) (ha : ∀ x, x ≠ h → t.attached x = false) : startScan t = t := by
  have hl : t.buildScan h = [] := List.eq_nil_iff_forall_not_mem.mpr fun x hx => by
    obtain ⟨hn, hx⟩ := mem_buildScan.mp hx
    exact Bool.false_ne_true ((ha x hn).symm.trans hx)
  rw [startScan, hs]
  dsimp only
  rw [hl]

/-- With another input enabled and present a scan starts from the selected one (R74, R75). -/
theorem startScan_starts (hf : ScanFrom s t) (hs : t.ssw.selected = some h) (ha : ∃ x, x ≠ h ∧ t.attached x = true) :
    ScanStarts h s (startScan t) := by
  obtain ⟨y, hy⟩ := ha
  cases hl : t.buildScan h with
  | nil => exact absurd (hl ▸ mem_buildScan.mpr hy) List.not_mem_nil
  | cons x rest =>
    have hi := scanSelect_inputs x { t with ssw := { t.ssw with
      phase := .trying, scanList := x :: rest, scanPos := 1, home := some h, rescan := false } }
    have hb : scansBefore (startScan t) = scansBefore t := by
      funext a b
      rw [startScan_begins hs hl, scansBefore, scansBefore, hi]
    rw [ScanStarts, hb, startScan_begins hs hl, attached_scanSelect, scanSelect_ssw]
    refine ⟨rfl, rfl, rfl, rfl, fun z => ?_, ?_, x, rfl, tries_scanSelect (hf.listed (by rfl) (by rfl)) x⟩
    · show z ∈ x :: rest ↔ _
      rw [← hl]
      exact mem_buildScan
    · show (x :: rest).Pairwise _
      rw [← hl]
      exact buildScan_pairwise t h

theorem startScan_deb (t : State) : (startScan t).inm.deb = t.inm.deb := by
  unfold startScan
  split
  · rfl
  · split
    · rfl
    · exact scanTry_deb _ _

end

/-! ### The outcome of a training that is no lock (R63, R69, R70, R74, R76) -/

/-- A record ends, and SES is handed its outcome where its origin is TIMETABLE (R63). -/
theorem closeRecord_eq (x : SourceState) (s : State) : closeRecord x s =
    { s with ssw := { s.ssw with record := none, timer := none }, ses := handedSes x s } := by
  unfold closeRecord
  dsimp only
  cases hr : s.ssw.record with
  | none => simp [handedSes, hr, State.modSsw]
  | some r => by_cases ho : r.origin = .timetable <;> simp [handSource, handedSes, hr, ho, sesSource, State.modSes, State.modSsw]

/-- The state once the path of the selected input `i` has reached `p` and the record has ended, before any scan follows. -/
def reached (p : PathState) (i : Fin 6) (s : State) : State :=
  { s with
    inm := { s.inm with path := s.inm.path.set i p }
    ssw := outcomeSsw s.ssw
    ses := handedSes (outcomeState p) s
    geo := leftGeo s
    ptc := s.heard (sourceTold s i (some p) s.ssw.record :: leftNotice s) }

section

variable {s : State} {i : Fin 6} {p : PathState}

theorem selPath_of_selected (h : s.ssw.selected = some i) : s.selPath = some s.inm.path[i] := by simp [State.selPath, h]

theorem locked_iff_of_selected (h : s.ssw.selected = some i) :
    s.locked = true ↔ s.ssw.trained = true ∧ s.inm.path[i] = .locked := by
  simp [State.locked, selPath_of_selected h]

theorem unlocked_of_path (h : s.ssw.selected = some i) (hp : s.inm.path[i] ≠ .locked) : s.locked = false :=
  Bool.eq_false_iff.mpr fun hl => hp ((locked_iff_of_selected h).mp hl).2

theorem raiseSource_eq (r : Option SwitchRecord) (h : s.ssw.selected = some i) : raiseSource r s =
    { s with ptc := s.heard [sourceTold s i (some s.inm.path[i]) r] } := by
  rw [raiseSource, h]
  rfl

theorem leftGeo_unlocked (h : s.locked = false) : leftGeo s = s.geo := by simp [leftGeo, h]

theorem leftNotice_unlocked (h : s.locked = false) : leftNotice s = [] := by simp [leftNotice, h]

theorem reached_unlocked (h : s.ssw.selected = some i) (hp : p ≠ .locked) : (reached p i s).locked = false :=
  unlocked_of_path (i := i) (by exact h) (by simpa [reached] using hp)

/-- The outcome is told, a pending warp is taken, and a scan may follow. -/
theorem reach_eq (h : s.ssw.selected = some i) (hp : p ≠ .locked) :
    reach p s = afterOutcome s.ssw.record p (reached p i s) := by
  have hu : setSelPath p (unready s) =
      { s with
        inm := { s.inm with path := s.inm.path.set i p }
        ssw := { s.ssw with mute := true, ready := false } } := by
    simp [setSelPath, unready, h, setPath, State.modInm, State.modSsw]
  unfold reach
  dsimp only
  rw [hu, closeRecord_eq, raiseSource_eq _ (i := i) (by exact h), leftLocked_eq (s := s)]
  · simp [reached, sourceTold, outcomeSsw, handedSes]
  · exact unlocked_of_path (i := i) (by exact h) (by simpa using hp)
  · rfl

/-- Nothing follows an outcome of a record whose scan has ended, or one that starts no scan (R74, R77). -/
theorem afterOutcome_stays {r : Option SwitchRecord} (hs : ∀ x ∈ r, x.kind = .scan → s.ssw.phase = .none)
    (hn : sourceless p = false ∨ scanAfter r = false ∨ s.scanMayStart = false) : afterOutcome r p s = s := by
  have hm : (sourceless p && scanAfter r && s.scanMayStart) = false := by
    simp only [Bool.and_eq_false_iff, or_assoc]
    exact hn
  cases r with
  | none => simp [afterOutcome, hm]
  | some x =>
    by_cases hk : x.kind = .scan
    · simp [afterOutcome, scanOutcome, hk, hs x rfl hk]
    · simp [afterOutcome, hk, hm]

theorem afterOutcome_reached {r : Option SwitchRecord} (hs : ∀ x ∈ r, x.kind = .scan → s.ssw.phase = .none)
    (hn : sourceless p = false ∨ scanAfter r = false ∨ s.scanMayStart = false) :
    afterOutcome r p (reached p i s) = reached p i s := afterOutcome_stays hs hn

theorem afterOutcome_scan {r : Option SwitchRecord} (h : ∃ x ∈ r, x.kind = .scan) : afterOutcome r p s = scanOutcome p s := by
  obtain ⟨x, rfl, hk⟩ := h
  simp [afterOutcome, hk]

/-- No record, a RECOVERY or a RETRAIN of origin PART does not bar a scan (R74). -/
theorem scanAfter_iff {r : Option SwitchRecord} :
    scanAfter r = true ↔ ∀ x ∈ r, x.kind = .recovery ∨ x.kind = .retrain ∧ x.origin = .part := by
  unfold scanAfter
  cases r with
  | none => simp
  | some x => cases hk : x.kind <;> simp [hk]

theorem afterOutcome_starts {r : Option SwitchRecord} (hr : scanAfter r = true) (hp : sourceless p = true)
    (hm : s.scanMayStart = true) : afterOutcome r p s = startScan s := by
  have hn : (r.any fun x => x.kind == .scan) = false := by
    cases r with
    | none => rfl
    | some x => obtain h | ⟨h, -⟩ := scanAfter_iff.mp hr x rfl <;> simp [h]
  simp [afterOutcome, hn, hr, hp, hm]

theorem scanOutcome_trying (h : s.ssw.phase = .trying) : scanOutcome p s = scanNext s := by simp [scanOutcome, h]

theorem scanOutcome_returning (h : s.ssw.phase = .returning) : scanOutcome p s =
    if s.ssw.rescan && sourceless p then startScan (endScan s) else endScan s := by simp [scanOutcome, h]

/-- A scan that follows an outcome starts from the state with the pending warp taken. -/
theorem scanFrom_reached : ScanFrom { s with geo := leftGeo s } (reached p i s) :=
  ⟨rfl, rfl, rfl, rfl, rfl, rfl, rfl⟩

theorem afterOutcome_deb (r : Option SwitchRecord) (p : PathState) (s : State) : (afterOutcome r p s).inm.deb = s.inm.deb := by
  unfold afterOutcome scanOutcome
  split
  · split
    · rfl
    · exact scanTry_deb _ _
    · split
      · exact startScan_deb _
      · rfl
  · split
    · exact startScan_deb _
    · rfl

/-! ### Locks and losses (R60, R68, R71) -/

/-- INPUTS with the entry an input locked on recorded (R60). -/
def timedInputs (i : Fin 6) (k : Fin 24) (r : InputsRecord) : InputsRecord :=
  { r with entries := r.entries.set i { r.entries[i] with lastTiming := some k } }

theorem timedInputs_self {k : Fin 24} {r : InputsRecord} (h : r.entries[i].lastTiming = some k) : timedInputs i k r = r := by
  have he : { r.entries[i] with lastTiming := some k } = r.entries[i] := by rw [← h]
  rw [timedInputs, he]
  simp

theorem recordTiming_eq (i : Fin 6) (k : Fin 24) (s : State) : recordTiming i k s =
    { s with
      inputs := timedInputs i k s.inputs
      sto := if s.inputs.entries[i].lastTiming = some k then s.sto else dirtied .inputs s.sto } := by
  unfold recordTiming
  split
  next h => rw [timedInputs_self h]
  next h => rfl

/-- The warp of a lock at that entry (R60, R99). -/
def lockWarp (i : Fin 6) (k : Fin 24) (s : State) : Warp :=
  { s with inputs := timedInputs i k s.inputs }.warpAt i s.geo.liveV s.geo.liveH .lock

/-- The state once the selected input `i` has locked at entry `k`, the monitor tracking `m`: the entry is recorded, the warp
pends, and the record and a scan have ended. -/
def lockedAt (i : Fin 6) (k : Fin 24) (m : Measure) (s : State) : State :=
  { s with
    inm := { s.inm with
      path := s.inm.path.set i .locked
      mon := { s.inm.mon with mode := .tracking, locked := some m, watchdog := true } }
    inputs := timedInputs i k s.inputs
    sto := if s.inputs.entries[i].lastTiming = some k then s.sto else dirtied .inputs s.sto
    ssw := darkened (scanless (outcomeSsw s.ssw))
    ses := handedSes .locked s
    geo := { s.geo with pendingWarp := some (lockWarp i k s) }
    ptc := s.heard [sourceTold { s with inputs := timedInputs i k s.inputs } i (some .locked) s.ssw.record] }

/-- A lock of a TRAINED selection (R60, R68). -/
theorem lockAt_eq {k : Fin 24} {m : Stable} (h : s.ssw.selected = some i) (ht : s.ssw.trained = true)
    (hm : s.inm.mon.lastStable = some m) : lockAt k s = lockedAt i k m.measure s := by
  have hu : unready (recordTiming i k (track (setPath i .locked s))) =
      { s with
        inm := { s.inm with
          path := s.inm.path.set i .locked
          mon := { s.inm.mon with mode := .tracking, locked := some m.measure, watchdog := true } }
        inputs := timedInputs i k s.inputs
        sto := if s.inputs.entries[i].lastTiming = some k then s.sto else dirtied .inputs s.sto
        ssw := { s.ssw with mute := true, ready := false } } := by
    rw [recordTiming_eq]
    simp [track, modMon, setPath, hm, unready, State.modInm, State.modSsw]
  unfold lockAt
  rw [h]
  dsimp only
  rw [hu, recompute_placed (i := i) _ (by exact h), placedGeo, placedNotice,
    (locked_iff_of_selected (i := i) (by exact h)).mpr (by exact ⟨ht, by simp⟩), closeRecord_eq,
    endScan_eq, raiseSource_eq (i := i) _ (by exact h)]
  simp [lockedAt, stopNosig, State.modSsw, lockWarp, State.warpFor, State.warpAt, State.sourceSize, darkened, scanless, outcomeSsw, handedSes,
    sourceTold]

/-- A loss from LOCKED or UNSUPPORTED opens a RECOVERY (R71). -/
theorem lockLoss_eq (h : s.onScreen i = true) (hp : s.inm.path[i] = .locked ∨ s.inm.path[i] = .unsupported) : lockLoss s =
    { s with
      inm := { s.inm with path := s.inm.path.set i .recovery }
      ssw := { s.ssw with
        mute := true, ready := false, timer := some s.settings.switchTimeout
        record := some ⟨i, .part, .recovery, s.ssw.record.isSome⟩ }
      geo := leftGeo s
      ptc := s.heard (sourceTold s i (some .recovery) (some ⟨i, .part, .recovery, s.ssw.record.isSome⟩) :: leftNotice s) } := by
  obtain ⟨hi, ht⟩ : s.ssw.selected = some i ∧ s.ssw.trained = true := by simpa [State.onScreen] using h
  have hc : (s.ssw.trained && (s.inm.path[i] == .locked || s.inm.path[i] == .unsupported)) = true := by simpa [ht] using hp
  unfold lockLoss
  rw [hi]
  dsimp only
  rw [if_pos hc, raiseSource_eq (i := i) _ (by exact hi), leftLocked_eq (s := s)]
  · simp [openRecord, unready, setPath, State.modSsw, State.modInm, sourceTold, ht]
  · exact unlocked_of_path (i := i) (by exact hi) (by simp [openRecord, unready, setPath])
  · rfl

end

end Sys2Proof.Machine
end

section
/-! PROOFS. The expiries of the frame watchdog and of the switch timer (O55). -/

namespace Sys2Proof.Machine

set_option Elab.async false

section

variable {s : State} {i : Fin 6}

/-! ### The frame watchdog (R53, R55) -/

theorem onScreen_iff : s.onScreen i = true ↔ s.ssw.selected = some i ∧ s.ssw.trained = true := by simp [State.onScreen]

/-- A LOCKED path is that of a TRAINED selection. -/
theorem onScreen_of_locked (h : s.locked = true) (hi : s.ssw.selected = some i) :
    s.onScreen i = true ∧ s.inm.path[i] = .locked := by
  obtain ⟨ht, hp⟩ := (locked_iff_of_selected hi).mp h
  exact ⟨onScreen_iff.mpr ⟨hi, ht⟩, hp⟩

/-- A loss on a path that is neither LOCKED nor UNSUPPORTED is discarded (R71). -/
theorem lockLoss_discarded (hi : s.ssw.selected = some i) (hl : s.inm.path[i] ≠ .locked) (hu : s.inm.path[i] ≠ .unsupported) :
    lockLoss s = s := by
  have hp : ¬(s.ssw.trained && (s.inm.path[i] == .locked || s.inm.path[i] == .unsupported)) = true := by
    simp only [Bool.and_eq_true, Bool.or_eq_true, beq_iff_eq]
    exact fun h => h.2.elim hl hu
  simp only [lockLoss, hi, if_neg hp]

theorem watchdogAll_idle (h : s.inm.mon.watchdog = false ∨ s.inm.mon.mode = .idle) : watchdogAll s = s := by
  have hm : monitorWatchdog s = (s, none) := by
    unfold monitorWatchdog
    obtain h | h := h <;> simp [h]
  simp [watchdogAll, hm, takeMonitor]

theorem watchdogAll_seeking (h : s.inm.mon.watchdog = true) (hm : s.inm.mon.mode = .seeking) : watchdogAll s =
    { s with inm := { s.inm with mon := { s.inm.mon with openFrame := none, candidates := [] } } } := by
  have hw : monitorWatchdog s =
      ({ s with inm := { s.inm with mon := { s.inm.mon with openFrame := none, candidates := [] } } }, none) := by
    simp [monitorWatchdog, h, hm, modMon, State.modInm]
  simp [watchdogAll, hw, takeMonitor]

/-- The monitor once a signal has been lost for want of frames. -/
def frameless (m : Monitor) : Monitor := { m with mode := .seeking, candidates := [], locked := none, lastFrame := none }

theorem watchdogAll_tracking (h : s.inm.mon.watchdog = true) (hm : s.inm.mon.mode = .tracking) : watchdogAll s =
    lockLoss { s with inm := { s.inm with mon := frameless s.inm.mon } } := by
  have hw : monitorWatchdog s = ({ s with inm := { s.inm with mon := frameless s.inm.mon } }, some (.loss .noFrame)) := by
    simp [monitorWatchdog, h, hm, modMon, State.modInm, frameless]
  simp [watchdogAll, hw, takeMonitor]

/-! ### The switch timer (R69) -/

/-- What the expiry of the switch timer finds on the selected input's path (R69). -/
def timedOutPath (i : Fin 6) (s : State) : PathState := if s.inm.deb[i].presence = true then .noSignal else .absent

theorem timedOutPath_unlocked : timedOutPath i s ≠ .locked := by
  unfold timedOutPath
  split <;> decide

theorem sourceless_timedOutPath : sourceless (timedOutPath i s) = true := by
  unfold timedOutPath
  split <;> rfl

theorem outcomeState_timedOutPath :
    outcomeState (timedOutPath i s) = if s.inm.deb[i].presence = true then .noSignal else .absent := by
  unfold timedOutPath
  split <;> rfl

theorem switchTimeout_idle (h : s.ssw.timer ≠ some 0 ∨ s.ssw.record = none) : switchTimeout s = s := by
  unfold switchTimeout
  split
  next hr =>
    refine if_neg (h.resolve_right ?_)
    simp [hr]
  next => rfl

theorem switchTimeout_eq {r : SwitchRecord} (h : s.ssw.timer = some 0) (hi : s.ssw.selected = some i)
    (hr : s.ssw.record = some r) : switchTimeout s = afterOutcome (some r) (timedOutPath i s) (reached (timedOutPath i s) i s) := by
  have ht : switchTimeout s = reach (timedOutPath i s) s := by simp [switchTimeout, hi, hr, h, timedOutPath]
  rw [ht, reach_eq hi timedOutPath_unlocked, hr]

/-- A SELECT or a SCAN bars a scan, and so does a RETRAIN of another origin than PART (R74). -/
theorem scanAfter_barred {r : SwitchRecord} (h : r.kind = .select ∨ r.kind = .retrain ∧ r.origin ≠ .part ∨ r.kind = .scan) :
    scanAfter (some r) = false := by
  obtain h | ⟨h, ho⟩ | h := h
  · simp [scanAfter, h]
  · simp [scanAfter, h, ho]
  · simp [scanAfter, h]

theorem scanMayStart_off (h : s.inputs.autoscan = false) : s.scanMayStart = false := by simp [State.scanMayStart, h]

/-- A return that finds no signal starts another scan where the rescan mark asks for one and an input is to be tried, and
otherwise ends the scan (R76, R77). -/
theorem outcome_returns {p : PathState} (hi : s.ssw.selected = some i) (hr : ∃ r ∈ s.ssw.record, r.kind = .scan)
    (hph : s.ssw.phase = .returning) (hp : sourceless p = true) :
    (s.ssw.rescan = true → (∃ x, x ≠ i ∧ s.attached x = true) →
      ScanStarts i { s with geo := leftGeo s } (afterOutcome s.ssw.record p (reached p i s))) ∧
    (s.ssw.rescan = false ∨ (∀ x, x ≠ i → s.attached x = false) →
      afterOutcome s.ssw.record p (reached p i s) = endScan (reached p i s)) := by
  have he : afterOutcome s.ssw.record p (reached p i s) =
      if s.ssw.rescan then startScan (endScan (reached p i s)) else endScan (reached p i s) := by
    rw [afterOutcome_scan hr, scanOutcome_returning (by exact hph), hp, Bool.and_true]
    rfl
  rw [he]
  refine ⟨fun hs hx => ?_, fun hn => ?_⟩
  · rw [if_pos hs]
    exact startScan_starts (scanFrom_reached.listed rfl rfl) hi hx
  · split
    next hs => exact startScan_idle hi (hn.resolve_left (by simp [hs]))
    next => rfl

/-- An outcome after which nothing follows. -/
theorem reached_keeps (p : PathState) (i : Fin 6) (s : State) : Keeps [.inm, .ssw, .geo, .ses, .ports] s (reached p i s) := by
  simp [keeps_iff, reached]

theorem switchTimeout_keeps (s : State) : Keeps pictureParts s (switchTimeout s) := by
  unfold switchTimeout
  split
  · exact (reach_keeps _ s).ite (.refl _ s)
  · exact .refl _ s

theorem handedSes_other {r : SwitchRecord} {x : SourceState} (hr : s.ssw.record = some r) (ho : r.origin ≠ .timetable) :
    handedSes x s = s.ses := by
  simp [handedSes, hr, ho]

end

end Sys2Proof.Machine

open Sys2Proof Sys2Proof.Machine

/-- Settles O55: the watchdog's expiry is a loss or a fresh start of the seeking, the switch timer's is an outcome, and the
scan goes on from the state that outcome leaves. -/
theorem pathLostOrTimedOut : Obligations.PathLostOrTimedOut := by
  unfold Obligations.PathLostOrTimedOut
  intro i h r s ho
  refine ⟨fun hw => ?_, fun hw hm => ?_, fun hw hm hl hi => ?_, fun hw hm hs hp => ?_, fun hw hm hs hp => ?_, fun ht => ?_,
    fun ht hi hr hk => ?_, fun ht hi hr hk hph => ?_, fun ht hi hr hk ha hph htr => ?_, fun ht hi htr hr hk hph hh => ?_,
    fun ht hi htr hr hk hph => ?_⟩
  · exact settles_operating ho rfl (watchdogAll_idle hw)
  · exact settles_operating ho rfl (watchdogAll_seeking hw hm)
  · refine settles_operating ho rfl ?_
    obtain ⟨hs, hp⟩ := onScreen_of_locked hl hi
    rw [watchdogAll_tracking hw hm, lockLoss_eq (i := i) (by exact hs) (by exact .inl hp)]
    exact ⟨rfl, rfl, rfl, rfl, rfl, by simp [keeps_iff]⟩
  · refine settles_operating ho rfl ?_
    have hu : s.locked = false := unlocked_of_path (onScreen_iff.mp hs).1 (by rw [hp]; decide)
    rw [watchdogAll_tracking hw hm, lockLoss_eq (i := i) (by exact hs) (by exact .inr hp),
      leftGeo_unlocked (by exact hu), leftNotice_unlocked (by exact hu)]
    exact ⟨rfl, rfl, rfl, rfl, raised_iff.mpr rfl, by simp [keeps_iff]⟩
  · refine settles_operating ho rfl ?_
    rw [watchdogAll_tracking hw hm, lockLoss_discarded (i := i) (by exact (onScreen_iff.mp hs).1)
      (by rw [hp]; decide) (by rw [hp]; decide)]
    exact ⟨rfl, rfl, rfl, by simp [keeps_iff]⟩
  · exact settles_operating ho rfl (switchTimeout_idle ht)
  · refine settles_operating ho rfl ?_
    have hn : r.kind ≠ .scan := by obtain h | ⟨h, -⟩ | ⟨h, -⟩ := hk <;> simp [h]
    have hb : scanAfter (some r) = false ∨ s.scanMayStart = false := by
      obtain h | h | ⟨-, h⟩ := hk
      · exact .inl (scanAfter_barred (.inl h))
      · exact .inl (scanAfter_barred (.inr (.inl h)))
      · exact .inr (scanMayStart_off h)
    rw [switchTimeout_eq ht hi hr, afterOutcome_reached (fun x hx h => absurd h (Option.some.inj hx ▸ hn)) (.inr hb)]
    refine ⟨rfl, rfl, rfl, reached_keeps _ _ _, fun hn => handedSes_other hr hn, ?_⟩
    rw [← outcomeState_timedOutPath]
    rfl
  · refine settles_operating ho rfl ?_
    rw [switchTimeout_eq ht hi hr, afterOutcome_reached (by exact fun _ _ _ => hph) (.inr (.inl (scanAfter_barred (.inr (.inr hk)))))]
    exact ⟨rfl, rfl, rfl, reached_keeps _ _ _⟩
  · refine settles_operating ho rfl ?_
    have hm : (reached (timedOutPath i s) i s).scanMayStart = true := by
      simp [State.scanMayStart, reached, outcomeSsw, ha, hph, htr]
    rw [switchTimeout_eq ht hi hr, afterOutcome_starts (scanAfter_iff.mpr (by simpa using hk)) sourceless_timedOutPath hm]
    refine ⟨fun hx => startScan_starts scanFrom_reached hi hx, fun hx => ?_, ?_⟩
    · rw [startScan_idle (by exact hi) (by exact hx)]
      exact ⟨rfl, rfl, by simp [reached, timedOutPath]⟩
    · exact (reached_keeps _ _ _).seq (startScan_keeps _)
  · refine settles_operating ho rfl ?_
    refine ⟨?_, switchTimeout_keeps s⟩
    rw [switchTimeout_eq ht hi hr, afterOutcome_scan ⟨r, rfl, hk⟩, scanOutcome_trying (by exact hph)]
    exact scanNext_movesOn scanFrom_reached rfl rfl hh hph
  · refine settles_operating ho rfl ?_
    obtain ⟨h₁, h₂⟩ := outcome_returns hi ⟨r, hr, hk⟩ hph (sourceless_timedOutPath (i := i) (s := s))
    rw [hr, ← switchTimeout_eq ht hi hr] at h₁ h₂
    refine ⟨h₁, fun hn => ?_, switchTimeout_keeps s⟩
    rw [h₂ hn]
    exact ⟨rfl, rfl⟩

end

section
/-! PROOFS. The presence lines and their debouncers (O53). -/

namespace Sys2Proof.Machine

set_option Elab.async false

section

variable {s : State} {i : Fin 6} {v : Bool}

/-! ### What a debounced change leads to (R49, R50, R70) -/

/-- The state with the debounced presence of an input at `v`. -/
def debounced (i : Fin 6) (v : Bool) (s : State) : State := { s with inm := { s.inm with deb := s.inm.deb.set i ⟨v, none⟩ } }

theorem setPresence_eq (i : Fin 6) (v : Bool) (s : State) : setPresence i v s = debounced i v s := rfl

/-- Where the debouncer's timer runs, its expiry is a change of the debounced presence. -/
theorem debounceExpiry_eq (ht : s.inm.deb[i].timer = some v) : debounceExpiry i s =
    if s.operating then presenceChange i v s else debounced i v s := by
  rw [debounceExpiry, ht]
  rfl

theorem debounceExpiry_idle (ht : s.inm.deb[i].timer = none) : debounceExpiry i s = s := by rw [debounceExpiry, ht]

/-- The expiry of a debounce timer acts while main supply is present. -/
theorem settles_debounceTimer {P : State → Prop} (hs : s.lines.supply = true) (h : P (debounceExpiry i s)) :
    Settles (.presenceDebounceExpiry i) s P := ⟨_, congrArg Host.Outcome.next (if_pos hs), h⟩

/-- In the running part it settles as the change of the debounced presence does. -/
theorem settles_debounce {P : State → Prop} (ho : s.operating = true) (ht : s.inm.deb[i].timer = some v)
    (h : P (presenceChange i v s)) : Settles (.presenceDebounceExpiry i) s P := by
  refine settles_debounceTimer ((operating_iff s).mp ho).1 ?_
  rwa [debounceExpiry_eq ht, if_pos ho]

/-- An input that is no TRAINED selection takes its unselected path state; SOURCE_STATE tells a change of the selected one. -/
theorem restPathOf_eq (i : Fin 6) (s : State) : restPathOf i s =
    { s with
      inm := { s.inm with path := s.inm.path.set i (s.restPath i) }
      ptc := if s.ssw.selected = some i ∧ s.restPath i ≠ s.inm.path[i] then
          s.heard [sourceTold s i (some (s.restPath i)) s.ssw.record] else s.ptc } := by
  unfold restPathOf
  dsimp only
  by_cases h : s.ssw.selected = some i
  · rw [raiseSource_eq (i := i) _ (by exact h)]
    simp only [restInput, setPath, State.modInm, h, sourceTold, ne_eq, true_and, ite_not]
    simp
    split <;> rfl
  · simp [restInput, setPath, State.modInm, h]

/-- The selected input of a TRAINED selection falls: its path reaches ABSENT (R70). -/
theorem presenceChange_falls (h : s.onScreen i = true) (hp : s.inm.path[i] ≠ .absent) : presenceChange i false s =
    afterOutcome s.ssw.record .absent (reached .absent i (debounced i false s)) := by
  unfold presenceChange
  dsimp only
  rw [if_pos (by exact h), if_neg (by decide), if_neg (by exact hp), setPresence_eq]
  exact reach_eq (s := debounced i false s) (onScreen_iff.mp h).1 (by decide)

/-- A fall that no scan follows. -/
theorem presenceChange_ends (h : s.onScreen i = true) (hp : s.inm.path[i] ≠ .absent)
    (hs : ∀ x ∈ s.ssw.record, x.kind = .scan → s.ssw.phase = .none)
    (hn : scanAfter s.ssw.record = false ∨ s.scanMayStart = false) :
    presenceChange i false s = reached .absent i (debounced i false s) := by
  rw [presenceChange_falls h hp]
  exact afterOutcome_reached (s := debounced i false s) hs (.inr hn)

/-- It rises while ABSENT: a RETRAIN of origin PART (R70). -/
theorem presenceChange_returns (h : s.onScreen i = true) (hp : s.inm.path[i] = .absent) : presenceChange i true s =
    retrainSelected .part i (debounced i true s) := by
  obtain ⟨hi, ht⟩ := onScreen_iff.mp h
  unfold presenceChange sswRise
  dsimp only
  rw [if_pos (by exact h), if_pos rfl, if_pos (by exact hi), if_pos (by simp [setPresence, ht, hp])]
  rfl

/-- A fall of an ABSENT path, and a rise of any other, are followed by nothing. -/
theorem presenceChange_stays (h : s.onScreen i = true) (hp : s.inm.path[i] = .absent ↔ v = false) : presenceChange i v s =
    debounced i v s := by
  obtain ⟨hi, -⟩ := onScreen_iff.mp h
  unfold presenceChange sswRise
  dsimp only
  rw [if_pos (by exact h)]
  cases v with
  | true =>
    rw [if_pos rfl, if_pos (by exact hi), if_neg (by simpa [setPresence] using fun _ => by simpa using hp)]
    rfl
  | false => rw [if_neg (by decide), if_pos (by exact hp.mpr rfl), setPresence_eq]

/-- Any other input takes its unselected path state, and a rise is handed to SSW (R50, R74, R77). -/
theorem presenceChange_rests (h : s.onScreen i = false) : presenceChange i v s =
    if v then sswRise i (restPathOf i (debounced i v s)) else restPathOf i (debounced i v s) := by
  unfold presenceChange
  dsimp only
  rw [if_neg (by exact fun ht => Bool.false_ne_true (h.symm.trans ht))]
  rfl

/-! ### A rise of an unselected input (R74, R77) -/

theorem onScreen_unselected (h : s.ssw.selected ≠ some i) : s.onScreen i = false := by simp [State.onScreen, h]

theorem sswRise_elsewhere (h : s.ssw.selected ≠ some i) : sswRise i s =
    if s.inputs.entries[i].enabled then risesElsewhere i s else s := by
  rw [sswRise, if_neg h]

/-- A rise of an input of an UNTRAINED selection itself changes nothing more. -/
theorem sswRise_untrained (h : s.ssw.selected = some i) (ht : s.ssw.trained = false) : sswRise i s = s := by
  simp [sswRise, h, ht]

/-- A scan that is trying lists the input, unless it is the home input or listed (R77). -/
theorem risesElsewhere_trying (h : s.ssw.phase = .trying) : risesElsewhere i s =
    { s with ssw := { s.ssw with
      scanList := if s.ssw.home = some i ∨ i ∈ s.ssw.scanList then s.ssw.scanList else s.ssw.scanList ++ [i] } } := by
  unfold risesElsewhere
  rw [h]
  simp only [List.contains_iff_mem]
  split <;> simp [State.modSsw]

/-- A scan that is returning marks a rescan, unless it is the home input (R77). -/
theorem risesElsewhere_returning (h : s.ssw.phase = .returning) : risesElsewhere i s =
    { s with ssw := { s.ssw with rescan := if s.ssw.home = some i then s.ssw.rescan else true } } := by
  unfold risesElsewhere
  rw [h]
  dsimp only
  split <;> rfl

theorem risesElsewhere_starts {p : PathState} (hm : s.scanMayStart = true) (hp : s.selPath = some p) (hs : sourceless p = true) :
    risesElsewhere i s = startScan s := by
  have h : s.ssw.phase = .none := by simp [State.scanMayStart] at hm; exact hm.1.2
  simp [risesElsewhere, h, hm, hp, hs]

/-- With no scan in progress and none to start nothing follows. -/
theorem risesElsewhere_idle (h : s.ssw.phase = .none) (hn : s.inputs.autoscan = false ∨ s.ssw.trained = false ∨
    (s.selPath ≠ some .noSignal ∧ s.selPath ≠ some .absent)) : risesElsewhere i s = s := by
  have hc : (s.scanMayStart && s.selPath.any sourceless) = false := by
    obtain ha | ht | ⟨h₁, h₂⟩ := hn
    · simp [State.scanMayStart, ha]
    · simp [State.scanMayStart, ht]
    · cases hp : s.selPath with
      | none => simp
      | some p => cases p <;> simp_all [sourceless]
  simp [risesElsewhere, h, hc]

theorem restPathOf_unselected (h : s.ssw.selected ≠ some i) : restPathOf i s =
    { s with inm := { s.inm with path := s.inm.path.set i (s.restPath i) } } := by
  rw [restPathOf_eq, if_neg fun hc => h hc.1]

/-- SOURCE_STATE tells where the path state of the selected input changes (R64). -/
theorem restPathOf_ptc (h : s.ssw.selected = some i) : (restPathOf i s).ptc =
    s.heard (if s.restPath i = s.inm.path[i] then [] else [sourceTold s i (some (s.restPath i)) s.ssw.record]) := by
  rw [restPathOf_eq]
  by_cases hp : s.restPath i = s.inm.path[i]
  · rw [if_pos hp, if_neg fun hc => hc.2 hp]
    rfl
  · rw [if_neg hp, if_pos ⟨h, hp⟩]

/-- The unselected path state of an input whose debounced presence has become `v` (R50). -/
theorem restPath_debounced : (debounced i v s).restPath i =
    if s.inputs.entries[i].enabled = true then (if v = true then .present else .absent) else .disabled := by
  simp [State.restPath, debounced]

/-- No other input is attached or detached by it. -/
theorem attached_debounced_other {x : Fin 6} (h : x ≠ i) : (debounced i v s).attached x = s.attached x := by
  simp [State.attached, debounced, h.symm, Fin.val_inj]

/-- An unselected input with its presence at `v`: its path state follows (R50). -/
def restedAt (i : Fin 6) (v : Bool) (s : State) : State :=
  { s with inm := { s.inm with
    deb := s.inm.deb.set i ⟨v, none⟩
    path := s.inm.path.set i
      (if s.inputs.entries[i].enabled = true then (if v = true then .present else .absent) else .disabled) } }

theorem presenceChange_unselected (h : s.ssw.selected ≠ some i) : presenceChange i v s =
    if v && s.inputs.entries[i].enabled then risesElsewhere i (restedAt i v s) else restedAt i v s := by
  have hr : restPathOf i (debounced i v s) = restedAt i v s := by
    rw [restPathOf_unselected (by exact h), restPath_debounced]
    rfl
  rw [presenceChange_rests (onScreen_unselected h), hr, sswRise_elsewhere (by exact h)]
  cases v <;> rfl

theorem selPath_restedAt (h : s.ssw.selected ≠ some i) : (restedAt i v s).selPath = s.selPath := by
  unfold State.selPath restedAt
  cases hs : s.ssw.selected with
  | none => rfl
  | some j =>
    have hj : ¬ i = j := fun e => h (e ▸ hs)
    simp [hj, Fin.val_inj]

theorem restedAt_path (he : s.inputs.entries[i].enabled = true) :
    (restedAt i true s).inm.path = s.inm.path.set i .present := by simp only [restedAt, if_pos he, if_true]

theorem attached_restedAt (he : s.inputs.entries[i].enabled = true) : (restedAt i true s).attached i = true := by
  rw [State.attached, show (restedAt i true s).inputs = s.inputs from rfl, he]
  simp [restedAt]

theorem restedAt_keeps : Keeps [.inm] s (restedAt i v s) := by simp [keeps_iff, restedAt]

/-! ### What a debounced change can change -/

theorem risesElsewhere_keeps (i : Fin 6) (s : State) : Keeps pictureParts s (risesElsewhere i s) := by
  unfold risesElsewhere
  split
  · exact (Keeps.refl _ s).ite (modSsw_keeps _ s).weaken
  · exact (Keeps.refl _ s).ite (modSsw_keeps _ s).weaken
  · exact (startScan_keeps s).ite (.refl _ s)

theorem sswRise_keeps (i : Fin 6) (s : State) : Keeps pictureParts s (sswRise i s) :=
  ((retrainSelected_keeps _ _ s).ite (.refl _ s)).ite ((risesElsewhere_keeps i s).ite (.refl _ s))

theorem restPathOf_keeps (i : Fin 6) (s : State) : Keeps [.inm, .ports] s (restPathOf i s) := by
  simp [restPathOf_eq, keeps_iff]

theorem presenceChange_keeps (i : Fin 6) (v : Bool) (s : State) : Keeps pictureParts s (presenceChange i v s) :=
  (setPresence_keeps i v s).seq <|
    Keeps.ite ((sswRise_keeps i _).ite ((Keeps.refl _ _).ite (reach_keeps _ _)))
      (((restPathOf_keeps i _).seq (c := pictureParts) (sswRise_keeps i _)).ite (restPathOf_keeps i _).weaken)

theorem risesElsewhere_deb (i : Fin 6) (s : State) : (risesElsewhere i s).inm.deb = s.inm.deb := by
  unfold risesElsewhere
  split
  · split <;> rfl
  · split <;> rfl
  · split
    · exact startScan_deb s
    · rfl

theorem sswRise_deb (i : Fin 6) (s : State) : (sswRise i s).inm.deb = s.inm.deb := by
  unfold sswRise
  split
  next h =>
    split
    · rw [retrainSelected_leaves _ h]
      rfl
    · rfl
  next =>
    split
    · exact risesElsewhere_deb i s
    · rfl

theorem restPathOf_deb (i : Fin 6) (s : State) : (restPathOf i s).inm.deb = s.inm.deb := by rw [restPathOf_eq]

/-- No debouncer moves but the one that expired. -/
theorem presenceChange_deb (i : Fin 6) (v : Bool) (s : State) : (presenceChange i v s).inm.deb = s.inm.deb.set i ⟨v, none⟩ := by
  cases hs : s.onScreen i with
  | true =>
    by_cases hp : s.inm.path[i] = .absent ↔ v = false
    · rw [presenceChange_stays hs hp]
      rfl
    · cases v with
      | true =>
        rw [presenceChange_returns hs (by simpa using hp), retrainSelected_leaves _ (by exact (onScreen_iff.mp hs).1)]
        rfl
      | false =>
        rw [presenceChange_falls hs (by simpa using hp), afterOutcome_deb]
        rfl
  | false =>
    rw [presenceChange_rests hs]
    split
    · rw [sswRise_deb, restPathOf_deb]
      rfl
    · rw [restPathOf_deb]
      rfl

/-- A frame that leaves a part standing leaves it out. -/
theorem Keeps.without {l : List Part} {x : Part} {s t : State} (h : Keeps (x :: l) s t) (hx : x.same s t) : Keeps l s t := by
  intro y hy
  by_cases e : y = x
  · exact e ▸ hx
  · exact h y (by simp [e, hy])

/-- A scan that starts with no record present tells SES nothing. -/
theorem startScan_ses (hr : s.ssw.record = none) : (startScan s).ses = s.ses := by
  cases hi : s.ssw.selected with
  | none => simp [startScan, hi]
  | some h =>
    cases hl : s.buildScan h with
    | nil => simp [startScan, hi, hl]
    | cons x rest =>
      rw [startScan_begins hi hl, scanSelect, presetTraining_leaves]
      simp [supersededSes, handedSes, hr]

end

end Sys2Proof.Machine

open Sys2Proof Sys2Proof.Machine

/-- Settles O53: the debounced change by the input it is of, selected or not, and by the scan in progress. -/
theorem presenceDebounced : Obligations.PresenceDebounced := by
  unfold Obligations.PresenceDebounced
  intro i h v s
  refine ⟨fun hs => ?_, fun hs ht => ?_, fun hs ht => ?_, fun ho ht hi hq => ?_, fun ho ht hs hp ha hr => ?_,
    fun ho ht hs hp => ?_, fun ho ht hs hp => ?_, fun ho ht he hn hi htr hp ha hph hr => ?_, fun ho ht he hi hph => ?_,
    fun ho ht he hi hph => ?_, fun ho ht hi htr => ?_, fun ho ht hs hp ha hph hr => ?_, fun ho ht hs hp hr => ?_,
    fun ho ht hs hp hr hph => ?_, fun ho ht hs hp hr hph hh => ?_, fun ho ht hs hp hr hph => ?_⟩
  · exact congrArg Host.Outcome.next (if_pos hs)
  · refine settles_debounceTimer hs ?_
    exact debounceExpiry_idle ht
  · refine settles_debounceTimer hs ?_
    rw [debounceExpiry_eq ht]
    split
    · exact ⟨presenceChange_deb i v s, presenceChange_keeps i v s⟩
    · exact ⟨rfl, by simp [keeps_iff, debounced]⟩
  · refine settles_debounce ho ht ?_
    have hu : presenceChange i v s = restedAt i v s := by
      rw [presenceChange_unselected hi]
      split
      next hc =>
        obtain ⟨rfl, he⟩ := Bool.and_eq_true_iff.mp hc
        obtain hv | hd | ⟨hph, hn⟩ := hq
        · cases hv
        · rw [he] at hd
          cases hd
        · exact risesElsewhere_idle hph (by rw [selPath_restedAt hi]; exact hn)
      next => rfl
    rw [hu]
    exact ⟨rfl, restedAt_keeps⟩
  · refine settles_debounce ho ht ?_
    rw [presenceChange_ends hs hp (fun x hx hk => absurd hk (hr x hx)) (.inr (scanMayStart_off ha))]
    exact ⟨rfl, rfl, rfl, rfl⟩
  · refine settles_debounce ho ht ?_
    have hi := (onScreen_iff.mp hs).1
    rw [presenceChange_returns hs hp, retrainSelected_leaves _ (by exact hi)]
    exact ⟨rfl, rfl, leftGeo_unlocked (unlocked_of_path (i := i) (by exact hi) (by simp [debounced, hp]))⟩
  · refine settles_debounce ho ht ?_
    rw [presenceChange_stays hs (by simpa using hp)]
    exact ⟨rfl, by simp [keeps_iff, debounced]⟩
  · refine settles_debounce ho ht ?_
    have hs : s.ssw.selected ≠ some i := by simpa [hi] using hn
    have hb : (restedAt i true s).scanMayStart = true := by simp [State.scanMayStart, restedAt, ha, hph, htr]
    rw [presenceChange_unselected hs, he, Bool.and_self, if_pos rfl,
      risesElsewhere_starts hb ((selPath_restedAt hs).trans (selPath_of_selected hi)) (by obtain hp | hp := hp <;> rw [hp] <;> rfl)]
    refine ⟨startScan_starts ⟨rfl, rfl, rfl, rfl, rfl, rfl, hr⟩ hi ⟨i, hn.symm, attached_restedAt he⟩, ?_⟩
    have hk : Keeps (.ses :: [.inm, .ssw, .geo, .ports]) s (startScan (restedAt i true s)) :=
      restedAt_keeps.seq (startScan_keeps _)
    exact hk.without (startScan_ses (by exact hr))
  · refine settles_debounce ho ht ?_
    rw [presenceChange_unselected hi, he, Bool.and_self, if_pos rfl, risesElsewhere_trying (by exact hph)]
    exact ⟨rfl, restedAt_path he, by simp [keeps_iff, restedAt]⟩
  · refine settles_debounce ho ht ?_
    rw [presenceChange_unselected hi, he, Bool.and_self, if_pos rfl, risesElsewhere_returning (by exact hph)]
    exact ⟨rfl, restedAt_path he, by simp [keeps_iff, restedAt]⟩
  · refine settles_debounce ho ht ?_
    have hu : presenceChange i v s = restPathOf i (debounced i v s) := by
      rw [presenceChange_rests (by simp [State.onScreen, htr]), restPathOf_eq]
      split
      · exact sswRise_untrained hi htr
      · rfl
    rw [hu]
    refine ⟨?_, raised_iff.mpr ?_, by simp [keeps_iff, restPathOf_eq, debounced]⟩
    · rw [restPathOf_eq]
      rfl
    · rw [restPathOf_ptc (by exact hi), restPathOf_eq]
      rfl
  · refine settles_debounce ho ht ?_
    obtain ⟨hi, htr⟩ := onScreen_iff.mp hs
    have hm : (reached .absent i (debounced i false s)).scanMayStart = true := by
      simp [State.scanMayStart, reached, outcomeSsw, debounced, ha, hph, htr]
    rw [presenceChange_falls hs hp, afterOutcome_starts (scanAfter_iff.mpr hr) rfl hm]
    refine ⟨fun ⟨x, hx, hax⟩ => ?_, fun hx => ?_, ?_⟩
    · exact startScan_starts (s := { debounced i false s with geo := leftGeo s }) scanFrom_reached hi
        ⟨x, hx, (attached_debounced_other hx).trans hax⟩
    · rw [startScan_idle (by exact hi) (by exact fun x hn => (attached_debounced_other hn).trans (hx x hn))]
      exact ⟨rfl, rfl, rfl⟩
    · exact Keeps.seq (a := [.inm, .ssw, .geo, .ses, .ports]) (by simp [keeps_iff, reached, debounced]) (startScan_keeps _)
  · refine settles_debounce ho ht ?_
    obtain ⟨r, hr, hk⟩ := hr
    have hn : r.kind ≠ .scan := by obtain h | ⟨h, -⟩ := hk <;> simp [h]
    have hb : scanAfter s.ssw.record = false := by
      rw [Option.mem_def.mp hr]
      exact scanAfter_barred (hk.imp id .inl)
    rw [presenceChange_ends hs hp (fun x hx h => absurd h (Option.mem_unique hr hx ▸ hn)) (.inl hb)]
    exact ⟨rfl, rfl, rfl, rfl⟩
  · refine settles_debounce ho ht ?_
    obtain ⟨r, hr, hk⟩ := hr
    have hb : scanAfter s.ssw.record = false := by
      rw [Option.mem_def.mp hr]
      exact scanAfter_barred (.inr (.inr hk))
    rw [presenceChange_ends hs hp (fun _ _ _ => hph) (.inl hb)]
    exact ⟨rfl, rfl, rfl, by simp [keeps_iff, reached, debounced]⟩
  · refine settles_debounce ho ht ?_
    rw [presenceChange_falls hs hp, afterOutcome_scan (by exact hr), scanOutcome_trying (by exact hph)]
    exact scanNext_movesOn (s := { debounced i false s with geo := leftGeo s }) scanFrom_reached rfl rfl hh hph
  · refine settles_debounce ho ht ?_
    obtain ⟨h₁, h₂⟩ := outcome_returns (s := debounced i false s) (onScreen_iff.mp hs).1 hr hph (p := .absent) rfl
    rw [presenceChange_falls hs hp]
    refine ⟨fun hn ⟨x, hx, hax⟩ => h₁ hn ⟨x, hx, (attached_debounced_other hx).trans hax⟩, fun hn => ?_⟩
    rw [show afterOutcome s.ssw.record _ _ = _ from h₂ (hn.imp id fun hx x hn => (attached_debounced_other hn).trans (hx x hn))]
    exact ⟨rfl, rfl⟩

end

section
/-! PROOFS. The pulses FRAME and LINE (O54). -/

namespace Sys2Proof.Machine

set_option Elab.async false

/-! ### What a frame makes of the monitor (R53 to R55) -/

/-- The monitor once a frame has opened at `z`. -/
def opened (z : Nat) (q : Monitor) : Monitor := { q with openFrame := some ⟨z, 0⟩, watchdog := true }

/-- INM with another monitor. -/
def withMon (q : Monitor) (s : State) : State := { s with inm := { s.inm with mon := q } }

section

variable {s : State} {z : Nat} {q : OpenFrame} {m l c : Measure} {cs : List Measure}

theorem monitorFrame_opens (hm : s.inm.mon.mode ≠ .idle) (hq : s.inm.mon.openFrame = none) :
    monitorFrame z s = (withMon (opened z s.inm.mon) s, none) := by
  unfold monitorFrame
  cases h : s.inm.mon.mode with
  | idle => exact absurd h hm
  | seeking | tracking => rw [hq]; rfl

theorem monitorFrame_seeking (hm : s.inm.mon.mode = .seeking) (hq : s.inm.mon.openFrame = some q) :
    monitorFrame z s = seekFrame ⟨q.lines, z - q.time⟩ (openNext z s) := by simp [monitorFrame, hm, hq]

theorem monitorFrame_tracking (hm : s.inm.mon.mode = .tracking) (hq : s.inm.mon.openFrame = some q) :
    monitorFrame z s = trackFrame ⟨q.lines, z - q.time⟩ (openNext z s) := by simp [monitorFrame, hm, hq]

theorem seekFrame_none (hc : nextCandidates s.inm.mon.candidates m = (none, cs)) :
    seekFrame m s = (withMon { s.inm.mon with candidates := cs, lastFrame := some m } s, none) := by
  rw [seekFrame, hc]
  rfl

theorem seekFrame_some (hc : nextCandidates s.inm.mon.candidates m = (some c, cs)) : seekFrame m s =
    (withMon { s.inm.mon with candidates := cs, lastFrame := some m, lastStable := some ⟨c, classify s.timings c⟩ } s,
      some (.stable (classify s.timings c))) := by
  rw [seekFrame, hc]
  rfl

theorem trackFrame_none (hl : lossOf s.inm.mon.locked m = none) :
    trackFrame m s = (withMon { s.inm.mon with lastFrame := some m } s, none) := by
  rw [trackFrame, hl]
  rfl

theorem trackFrame_some {x : LossCause} (hl : lossOf s.inm.mon.locked m = some x) : trackFrame m s =
    (withMon { s.inm.mon with mode := .seeking, candidates := [m], locked := none, lastFrame := some m } s,
      some (.loss x)) := by
  rw [trackFrame, hl]
  rfl

/-- The monitor once the frame `m` has completed and left the candidates `cs`. -/
def seenMon (z : Nat) (m : Measure) (cs : List Measure) (q : Monitor) : Monitor :=
  { opened z q with candidates := cs, lastFrame := some m }

/-- A completed frame in SEEKING that makes nothing stable. -/
theorem monitorFrame_seeks (hm : s.inm.mon.mode = .seeking) (hq : s.inm.mon.openFrame = some q)
    (hc : nextCandidates s.inm.mon.candidates ⟨q.lines, z - q.time⟩ = (none, cs)) : monitorFrame z s =
    (withMon (seenMon z ⟨q.lines, z - q.time⟩ cs s.inm.mon) s, none) :=
  (monitorFrame_seeking hm hq).trans (seekFrame_none (s := openNext z s) hc)

/-- The monitor once the reference `c` has become stable by the frame `m`. -/
def stableMon (z : Nat) (m c : Measure) (k : Option (Fin 24)) (q : Monitor) : Monitor :=
  { opened z q with candidates := [], lastFrame := some m, lastStable := some ⟨c, k⟩ }

/-- The frame that agrees as the third makes the first candidate stable (R54). -/
theorem monitorFrame_stable {d : Measure} (hm : s.inm.mon.mode = .seeking) (hq : s.inm.mon.openFrame = some q)
    (hc : s.inm.mon.candidates = [c, d]) (ha : agrees c ⟨q.lines, z - q.time⟩ = true) : monitorFrame z s =
    (withMon (stableMon z ⟨q.lines, z - q.time⟩ c (classify s.timings c) s.inm.mon) s, some (.stable (classify s.timings c))) := by
  have hn : nextCandidates s.inm.mon.candidates ⟨q.lines, z - q.time⟩ = (some c, []) := by simp [hc, nextCandidates, ha]
  exact (monitorFrame_seeking hm hq).trans (seekFrame_some (s := openNext z s) hn)

/-- The monitor once the frame `m` has completed in TRACKING. -/
def watchedMon (z : Nat) (m : Measure) (q : Monitor) : Monitor := { opened z q with lastFrame := some m }

/-- A completed frame in TRACKING that is no loss. -/
theorem monitorFrame_tracks (hm : s.inm.mon.mode = .tracking) (hq : s.inm.mon.openFrame = some q)
    (hl : lossOf s.inm.mon.locked ⟨q.lines, z - q.time⟩ = none) : monitorFrame z s =
    (withMon (watchedMon z ⟨q.lines, z - q.time⟩ s.inm.mon) s, none) :=
  (monitorFrame_tracking hm hq).trans (trackFrame_none (s := openNext z s) hl)

/-- The monitor once the frame `m` has been a loss. -/
def lostMon (z : Nat) (m : Measure) (q : Monitor) : Monitor :=
  { opened z q with mode := .seeking, candidates := [m], locked := none, lastFrame := some m }

/-- A completed frame in TRACKING that is a loss (R55). -/
theorem monitorFrame_loses {x : LossCause} (hm : s.inm.mon.mode = .tracking) (hq : s.inm.mon.openFrame = some q)
    (hl : lossOf s.inm.mon.locked ⟨q.lines, z - q.time⟩ = some x) : monitorFrame z s =
    (withMon (lostMon z ⟨q.lines, z - q.time⟩ s.inm.mon) s, some (.loss x)) :=
  (monitorFrame_tracking hm hq).trans (trackFrame_some (s := openNext z s) hl)

theorem lossOf_within (hl : apart l.lines m.lines ≤ 2) (hp : apart l.period m.period ≤ 200) : lossOf (some l) m = none := by
  simp [lossOf, Nat.not_lt.mpr hl, Nat.not_lt.mpr hp]

theorem lossOf_off (h : 2 < apart l.lines m.lines ∨ 200 < apart l.period m.period) : ∃ x, lossOf (some l) m = some x := by
  unfold lossOf
  dsimp only
  split
  · exact ⟨_, rfl⟩
  next hl => exact ⟨_, if_pos (h.resolve_left hl)⟩

/-- A frame that does not agree with the first candidate, or finds none, becomes the only one (R54). -/
theorem nextCandidates_restarts (h : cs = [] ∨ ∃ c ∈ cs.head?, agrees c m = false) : nextCandidates cs m = (none, [m]) := by
  cases cs with
  | nil => rfl
  | cons c rest =>
    obtain h | ⟨x, hx, ha⟩ := h
    · cases h
    · obtain rfl : c = x := by simpa using hx
      simp [nextCandidates, ha]

theorem nextCandidates_second (h : agrees c m = true) : nextCandidates [c] m = (none, [c, m]) := by simp [nextCandidates, h]

/-! ### GEO at a FRAME pulse (R80, R100) -/

theorem geoFrame_unlocked (h : s.locked = false) : geoFrame s = s := by simp [geoFrame, h]

/-- On a LOCKED path a pending warp is taken, which makes the picture ready. -/
theorem geoFrame_locked (h : s.locked = true) : ∃ x y, geoFrame s =
    { s with geo := leftGeo s, ssw := { s.ssw with mute := x, ready := y }, ptc := s.heard (leftNotice s) } ∧
    (s.geo.pendingWarp ≠ none → y = true) ∧ (s.geo.pendingWarp = none → x = s.ssw.mute ∧ y = s.ssw.ready) := by
  unfold geoFrame takePending leftGeo leftNotice
  rw [if_pos h, if_pos h, if_pos h]
  cases hw : s.geo.pendingWarp with
  | none => exact ⟨s.ssw.mute, s.ssw.ready, rfl, by simp, by simp⟩
  | some w =>
    obtain ⟨x, he⟩ := takeWarp_locked w h
    exact ⟨x, true, he, by simp, by simp⟩

/-- Where neither the path before nor the path after is LOCKED, a FRAME pulse is INM's alone, in either order. -/
theorem framePulseAll_unlocked (b : Bool) (h : s.locked = false) (hu : (inmFrame z s).locked = false) :
    framePulseAll z b s = inmFrame z s := by
  unfold framePulseAll
  rw [geoFrame_unlocked h, geoFrame_unlocked hu, ite_self, releasePoint_unlocked hu]

theorem inmFrame_quiet {t : State} (h : monitorFrame z s = (t, none)) : inmFrame z s = t := by simp [inmFrame, h, takeMonitor]

/-- A FRAME pulse at which INM hands SSW nothing: the monitor alone changes in INM, and on a LOCKED path GEO takes a pending
warp before the release point. -/
theorem framePulseAll_quiet (b : Bool) {f : Monitor → Monitor}
    (h : ∀ t : State, t.inm = s.inm → monitorFrame z t = (withMon (f t.inm.mon) t, none)) :
    (framePulseAll z b s).inm = { s.inm with mon := f s.inm.mon } ∧
    (s.locked = true → ∃ x y, framePulseAll z b s = releasePoint (withMon (f s.inm.mon)
      { s with geo := leftGeo s, ssw := { s.ssw with mute := x, ready := y }, ptc := s.heard (leftNotice s) }) ∧
      (s.geo.pendingWarp ≠ none → y = true) ∧ (s.geo.pendingWarp = none → x = s.ssw.mute ∧ y = s.ssw.ready)) := by
  have hg (t : State) : (geoFrame t).inm = t.inm := geoFrame_keeps t .inm (by decide)
  have hr (t : State) : (releasePoint t).inm = t.inm := releasePoint_keeps t .inm (by decide)
  have hi (t : State) (ht : t.inm = s.inm) : inmFrame z t = withMon (f s.inm.mon) t := by
    rw [inmFrame_quiet (h t ht), ht]
  cases b with
  | true =>
    have he : framePulseAll z true s = releasePoint (withMon (f s.inm.mon) (geoFrame s)) := by
      rw [← hi _ (hg s)]
      rfl
    rw [he, hr, withMon, hg]
    refine ⟨rfl, fun hl => ?_⟩
    obtain ⟨x, y, ht, h₁, h₂⟩ := geoFrame_locked hl
    exact ⟨x, y, by rw [ht]; rfl, h₁, h₂⟩
  | false =>
    have he : framePulseAll z false s = releasePoint (geoFrame (withMon (f s.inm.mon) s)) := by
      rw [← hi _ rfl]
      rfl
    rw [he, hr, hg]
    refine ⟨rfl, fun hl => ?_⟩
    obtain ⟨x, y, ht, h₁, h₂⟩ := geoFrame_locked (s := withMon (f s.inm.mon) s) hl
    exact ⟨x, y, by rw [ht]; rfl, h₁, h₂⟩

/-! ### What SSW makes of a stable result and of a loss (R68, R69, R71) -/

/-- A path on which a stable result is acted on while the presence is high (R68). -/
def awaits (p : PathState) : Prop := p = .training ∨ p = .recovery ∨ p = .noSignal

variable {i : Fin 6}

theorem stableResult_locks {k : Fin 24} (hs : s.onScreen i = true) (hd : s.inm.deb[i].presence = true)
    (hp : awaits s.inm.path[i]) : stableResult (some k) s = lockAt k s := by
  obtain ⟨hi, ht⟩ := onScreen_iff.mp hs
  unfold stableResult
  rw [hi]
  dsimp only
  rw [ht, hd, Bool.and_self, if_pos rfl]
  obtain hp | hp | hp := hp <;> rw [hp]

theorem stableResult_unsupported (hs : s.onScreen i = true) (hd : s.inm.deb[i].presence = true)
    (hp : awaits s.inm.path[i]) : stableResult none s = unsupportedAt s := by
  obtain ⟨hi, ht⟩ := onScreen_iff.mp hs
  unfold stableResult
  rw [hi]
  dsimp only
  rw [ht, hd, Bool.and_self, if_pos rfl]
  obtain hp | hp | hp := hp <;> rw [hp]

theorem stableResult_discarded {x : Option (Fin 24)} (hi : s.ssw.selected = some i)
    (h : s.inm.deb[i].presence = false ∨ s.inm.path[i] = .absent) : stableResult x s = s := by
  unfold stableResult
  rw [hi]
  dsimp only
  obtain hd | hp := h
  · rw [hd, Bool.and_false, if_neg (by decide)]
  · rw [hp]
    exact ite_self _

theorem locked_of_awaits (hs : s.onScreen i = true) (hp : awaits s.inm.path[i]) : s.locked = false :=
  unlocked_of_path (onScreen_iff.mp hs).1 (by obtain hp | hp | hp := hp <;> rw [hp] <;> decide)

/-- No scan ends in a LOCKED path. -/
theorem presetTraining_unlocked (k : SwitchKind) (o : Origin) (i : Fin 6) (s : State) :
    (applyPreset .select (beginTraining k o i s)).locked = false := by
  rw [presetTraining_leaves]
  exact unlocked_of_path (i := i) rfl (by simp)

theorem scanTry_unlocked (l : List (Fin 6)) {t : State} (h : t.locked = false) : (scanTry l t).locked = false := by
  induction l generalizing t with
  | nil =>
    unfold scanTry scanReturn
    split
    · exact h
    · exact presetTraining_unlocked _ _ _ _
  | cons x rest ih =>
    rw [scanTry]
    split
    · exact presetTraining_unlocked _ _ _ _
    · exact ih h

theorem startScan_unlocked {t : State} (h : t.locked = false) : (startScan t).locked = false := by
  unfold startScan
  split
  · exact h
  · split
    · exact h
    · exact scanTry_unlocked _ h

theorem afterOutcome_unlocked (r : Option SwitchRecord) (p : PathState) {t : State} (h : t.locked = false) :
    (afterOutcome r p t).locked = false := by
  unfold afterOutcome scanOutcome
  split
  · split
    · exact h
    · exact scanTry_unlocked _ h
    · split
      · exact startScan_unlocked h
      · exact h
  · split
    · exact startScan_unlocked h
    · exact h

/-- A stable result with no match: the monitor tracks, the path reaches UNSUPPORTED (R69). -/
theorem unsupportedAt_eq {x : Stable} (hi : s.ssw.selected = some i) (hx : s.inm.mon.lastStable = some x) : unsupportedAt s =
    afterOutcome s.ssw.record .unsupported (reached .unsupported i
      (withMon { s.inm.mon with mode := .tracking, locked := some x.measure, watchdog := true } s)) := by
  have ht : track s = withMon { s.inm.mon with mode := .tracking, locked := some x.measure, watchdog := true } s := by
    simp [track, modMon, State.modInm, withMon, hx]
  rw [unsupportedAt, ht]
  exact reach_eq (s := withMon _ s) hi (by decide)

/-- A lock is no release point: its training has cleared the picture-ready mark (R65, R80). -/
theorem releasePoint_unready {t : State} (h : t.ssw.ready = false) : releasePoint t = t := by
  simp [releasePoint, State.showable, h]

/-- The monitor once it tracks the reference `c`. -/
def trackingMon (c : Measure) (q : Monitor) : Monitor := { q with mode := .tracking, locked := some c, watchdog := true }

/-- What follows the frame that makes `c` stable (R68, R69). -/
theorem inmFrame_stable {d : Measure} (hm : s.inm.mon.mode = .seeking) (hq : s.inm.mon.openFrame = some q)
    (hc : s.inm.mon.candidates = [c, d]) (ha : agrees c ⟨q.lines, z - q.time⟩ = true) : inmFrame z s =
    stableResult (classify s.timings c) (withMon (stableMon z ⟨q.lines, z - q.time⟩ c (classify s.timings c) s.inm.mon) s) := by
  rw [inmFrame, monitorFrame_stable hm hq hc ha]
  rfl

/-- A stable result with a match on a path that awaits one: a lock. -/
theorem stableResult_lockedAt {k : Fin 24} {x : Stable} (hs : s.onScreen i = true) (hd : s.inm.deb[i].presence = true)
    (hp : awaits s.inm.path[i]) (hx : s.inm.mon.lastStable = some x) :
    stableResult (some k) s = lockedAt i k x.measure s :=
  (stableResult_locks hs hd hp).trans (lockAt_eq (onScreen_iff.mp hs).1 (onScreen_iff.mp hs).2 hx)

/-- A stable result with no match there: UNSUPPORTED, and what follows an outcome. -/
theorem stableResult_reached {x : Stable} (hs : s.onScreen i = true) (hd : s.inm.deb[i].presence = true)
    (hp : awaits s.inm.path[i]) (hx : s.inm.mon.lastStable = some x) : stableResult none s =
    afterOutcome s.ssw.record .unsupported (reached .unsupported i (withMon (trackingMon x.measure s.inm.mon) s)) :=
  (stableResult_unsupported hs hd hp).trans (unsupportedAt_eq (onScreen_iff.mp hs).1 hx)

/-- A release point moves MUTE alone. -/
theorem releasePoint_eq (t : State) : ∃ x, releasePoint t = { t with ssw := { t.ssw with mute := x } } := by
  unfold releasePoint
  split
  · exact ⟨false, rfl⟩
  · exact ⟨t.ssw.mute, rfl⟩

theorem leftGeo_pending {w : Warp} (h : s.locked = true) (hw : s.geo.pendingWarp = some w) : leftGeo s = tookWarp w s.geo := by
  simp [leftGeo, h, hw]

/-- A path that leaves LOCKED leaves no warp pending (R101). -/
theorem leftGeo_pendingWarp (h : s.locked = true) : (leftGeo s).pendingWarp = none := by
  rw [leftGeo, if_pos h]
  cases hw : s.geo.pendingWarp with
  | none => exact hw
  | some w => rfl

/-- A frame off the locked value is a loss for SSW to take. -/
theorem inmFrame_loses (hm : s.inm.mon.mode = .tracking) (hq : s.inm.mon.openFrame = some q) (hl : s.inm.mon.locked = some l)
    (hf : 2 < apart l.lines q.lines ∨ 200 < apart l.period (z - q.time)) :
    inmFrame z s = lockLoss (withMon (lostMon z ⟨q.lines, z - q.time⟩ s.inm.mon) s) := by
  obtain ⟨x, hx⟩ := lossOf_off (m := ⟨q.lines, z - q.time⟩) hf
  rw [inmFrame, monitorFrame_loses hm hq (hl ▸ hx)]
  rfl

/-- On a LOCKED path it opens a RECOVERY, and no warp stays pending (R71, R101). -/
theorem inmFrame_recovers (hm : s.inm.mon.mode = .tracking) (hq : s.inm.mon.openFrame = some q)
    (hl : s.inm.mon.locked = some l) (hf : 2 < apart l.lines q.lines ∨ 200 < apart l.period (z - q.time))
    (hk : s.locked = true) (hi : s.ssw.selected = some i) :
    (inmFrame z s).locked = false ∧
    (inmFrame z s).inm =
      { s.inm with path := s.inm.path.set i .recovery, mon := lostMon z ⟨q.lines, z - q.time⟩ s.inm.mon } ∧
    (inmFrame z s).ssw =
      { s.ssw with
        mute := true, ready := false, timer := some s.settings.switchTimeout
        record := some ⟨i, .part, .recovery, s.ssw.record.isSome⟩ } ∧
    (inmFrame z s).geo.pendingWarp = none := by
  obtain ⟨hs, hp⟩ := onScreen_of_locked hk hi
  rw [inmFrame_loses hm hq hl hf, lockLoss_eq (i := i) (by exact hs) (by exact .inl hp)]
  exact ⟨unlocked_of_path (i := i) (by exact hi) (by simp), rfl, rfl, leftGeo_pendingWarp (by exact hk)⟩

/-- The entry a measurement is classified to is the lowest in use that contains it (R57). -/
theorem classify_lowest {t : TimingsRecord} {k : Fin 24} (h : classify t m = some k) :
    t[k].contains m = true ∧ ∀ x : Fin 24, x < k → t[x].contains m = false := by
  obtain ⟨hk, before, after, hl, hb⟩ := List.find?_eq_some_iff_append.mp h
  refine ⟨hk, fun x hx => ?_⟩
  have hs : (before ++ k :: after).Pairwise (· < ·) := hl ▸ (by decide : allTimings.Pairwise (· < ·))
  have hm : x ∈ before ++ k :: after := hl ▸ (by decide : ∀ y : Fin 24, y ∈ allTimings) x
  obtain hm | hm := List.mem_append.mp hm
  · simpa using hb x hm
  · have hk := (List.pairwise_cons.mp (List.pairwise_append.mp hs).2.1).1
    obtain rfl | hm := List.mem_cons.mp hm
    · exact absurd hx (lt_irrefl _)
    · exact absurd hx (lt_asymm (hk x hm))

/-! ### The LINE pulse (R53) -/

theorem monitorLine_counts (hm : s.inm.mon.mode ≠ .idle) (hq : s.inm.mon.openFrame = some q) : monitorLine s =
    withMon { s.inm.mon with openFrame := some { q with lines := countUp 65535 q.lines } } s := by
  unfold monitorLine
  cases h : s.inm.mon.mode with
  | idle => exact absurd h hm
  | seeking | tracking =>
    rw [hq]
    dsimp only [modMon, State.modInm, withMon]
    rw [h]
    rfl

theorem monitorLine_idle (h : s.inm.mon.mode = .idle ∨ s.inm.mon.openFrame = none) : monitorLine s = s := by
  unfold monitorLine
  obtain h | h := h
  · rw [h]
  · rw [h]
    cases s.inm.mon.mode <;> rfl

end

end Sys2Proof.Machine

open Sys2Proof Sys2Proof.Machine

/-- Settles O54: what the frame makes of the monitor, what SSW makes of that, and GEO's take on a path that is LOCKED. -/
theorem framesMeasured : Obligations.FramesMeasured := by
  unfold Obligations.FramesMeasured
  intro z b i k m q l w c d s ho
  refine ⟨fun hm hq => ?_, fun hm hq => ?_, fun h => ?_, fun hm hq he hc => ?_, fun hm hq he hc ha => ?_,
    fun hm hq hc ha hs hd hp hk => ?_, fun hm hq hl hi hk hf => ?_, fun hm hq hl hk hf hp => ?_,
    fun hm hq hc ha hs hd hp hk => ?_, fun hm hq hc ha hs hp => ?_, fun hm hq hl hs hf => ?_, classify_lowest⟩
  · refine settles_operating ho rfl ?_
    exact (framePulseAll_quiet b fun t ht => monitorFrame_opens (ht ▸ hm) (ht ▸ hq)).1
  · refine settles_operating ho rfl ?_
    rw [monitorLine_counts hm hq]
    exact ⟨by simp [keeps_iff, withMon], rfl⟩
  · exact settles_operating ho rfl (monitorLine_idle h)
  · refine settles_operating ho rfl ?_
    subst he
    rw [(framePulseAll_quiet b fun t ht => monitorFrame_seeks (ht ▸ hm) (ht ▸ hq)
      (ht ▸ nextCandidates_restarts hc)).1]
    exact ⟨rfl, rfl, rfl, hm, rfl⟩
  · refine settles_operating ho rfl ?_
    subst he
    rw [(framePulseAll_quiet b fun t ht => monitorFrame_seeks (cs := [c, ⟨q.lines, z - q.time⟩]) (ht ▸ hm) (ht ▸ hq)
      (by rw [ht, hc]; exact nextCandidates_second ha)).1]
    exact ⟨rfl, hm, rfl⟩
  · refine settles_operating ho rfl ?_
    have hu := locked_of_awaits hs hp
    obtain ⟨hi, htr⟩ := onScreen_iff.mp hs
    have he : inmFrame z s = lockedAt i k c (withMon (stableMon z ⟨q.lines, z - q.time⟩ c (some k) s.inm.mon) s) := by
      rw [inmFrame_stable hm hq hc ha, hk]
      exact stableResult_lockedAt (s := withMon _ s) (x := ⟨c, some k⟩) hs hd hp (by rfl)
    cases b with
    | true =>
      rw [framePulseAll, if_pos rfl, geoFrame_unlocked hu, he, releasePoint_unready rfl]
      refine ⟨rfl, rfl, rfl, rfl, ?_, rfl, rfl, rfl, rfl, rfl, rfl, fun _ => ⟨rfl, rfl⟩, nofun⟩
      simp [lockedAt, timedInputs, withMon]
    | false =>
      have hlk : (lockedAt i k c (withMon (stableMon z ⟨q.lines, z - q.time⟩ c (some k) s.inm.mon) s)).locked = true :=
        (locked_iff_of_selected (i := i) (by exact hi)).mpr ⟨htr, by simp [lockedAt]⟩
      obtain ⟨x, y, hg, -, -⟩ := geoFrame_locked hlk
      obtain ⟨x', hr⟩ := releasePoint_eq (geoFrame (lockedAt i k c (withMon (stableMon z ⟨q.lines, z - q.time⟩ c (some k) s.inm.mon) s)))
      rw [framePulseAll, if_neg (by decide), he, hr, hg, leftGeo_pending hlk rfl]
      refine ⟨rfl, rfl, rfl, rfl, ?_, rfl, rfl, rfl, rfl, rfl, rfl, nofun, fun _ => ⟨rfl, rfl⟩⟩
      simp [lockedAt, timedInputs, withMon]
  · refine settles_operating ho rfl ?_
    obtain ⟨x, y, hg, -, -⟩ := geoFrame_locked hk
    cases b with
    | true =>
      obtain ⟨hu, hn, hw, hv⟩ := inmFrame_recovers (s := geoFrame s) (z := z) (q := q) (l := l) (i := i) (by rw [hg]; exact hm)
        (by rw [hg]; exact hq) (by rw [hg]; exact hl) hf (by rw [hg]; exact hk) (by rw [hg]; exact hi)
      rw [framePulseAll, if_pos rfl, releasePoint_unlocked hu, hn, hw, hv, hg]
      exact ⟨rfl, rfl, rfl, rfl, rfl, rfl, rfl, rfl⟩
    | false =>
      obtain ⟨hu, hn, hw, hv⟩ := inmFrame_recovers hm hq hl hf hk hi
      rw [framePulseAll, if_neg (by decide), geoFrame_unlocked hu, releasePoint_unlocked hu, hn, hw, hv]
      exact ⟨rfl, rfl, rfl, rfl, rfl, rfl, rfl, rfl⟩
  · refine settles_operating ho rfl ?_
    obtain ⟨hi, ht⟩ := framePulseAll_quiet (s := s) b fun t ht => monitorFrame_tracks (ht ▸ hm) (ht ▸ hq)
      (by rw [ht, hl]; exact lossOf_within hf hp)
    obtain ⟨x, y, he, h₁, h₂⟩ := ht hk
    obtain ⟨x', hr⟩ := releasePoint_eq (withMon (watchedMon z ⟨q.lines, z - q.time⟩ s.inm.mon)
      { s with geo := leftGeo s, ssw := { s.ssw with mute := x, ready := y }, ptc := s.heard (leftNotice s) })
    rw [hi]
    refine ⟨rfl, hm, hl, by rw [he, hr]; rfl, fun w hw => ?_, fun hn hw => ?_⟩
    · rw [he, hr]
      exact h₁ (by rw [Option.mem_def.mp hw]; simp)
    · obtain ⟨rfl, rfl⟩ := h₂ hn
      rw [he, releasePoint, if_pos (by exact hw)]
      rfl
  · refine settles_operating ho rfl ?_
    have hu := locked_of_awaits hs hp
    have hi := (onScreen_iff.mp hs).1
    have he : inmFrame z s = afterOutcome s.ssw.record .unsupported (reached .unsupported i
        (withMon (trackingMon c (stableMon z ⟨q.lines, z - q.time⟩ c none s.inm.mon)) s)) := by
      rw [inmFrame_stable hm hq hc ha, hk]
      exact stableResult_reached (s := withMon _ s) (x := ⟨c, none⟩) hs hd hp (by rfl)
    rw [framePulseAll_unlocked b hu (he ▸ afterOutcome_unlocked _ _ (reached_unlocked hi (by decide)))]
    rw [he]
    refine ⟨fun hr => ?_, fun h hr hph hh => ?_, fun hr hph => ?_⟩
    · rw [afterOutcome_reached (s := withMon (trackingMon c (stableMon z ⟨q.lines, z - q.time⟩ c none s.inm.mon)) s) hr
        (.inl rfl), reached, leftGeo_unlocked (by exact hu), leftNotice_unlocked (by exact hu)]
      exact ⟨rfl, rfl, rfl, rfl, rfl, rfl, rfl, raised_iff.mpr rfl, by simp [keeps_iff, withMon]⟩
    · rw [afterOutcome_scan hr, scanOutcome_trying (by exact hph)]
      exact scanNext_movesOn ⟨rfl, rfl, rfl, leftGeo_unlocked (by exact hu), rfl, rfl, rfl⟩ rfl rfl hh hph
    · rw [afterOutcome_scan hr, scanOutcome_returning (by exact hph), if_neg (by simp [sourceless]), endScan_eq, reached,
        leftGeo_unlocked (by exact hu)]
      exact ⟨rfl, rfl, by simp [keeps_iff, withMon]⟩
  · refine settles_operating ho rfl ?_
    have hi := (onScreen_iff.mp hs).1
    have hl : s.locked = false := unlocked_of_path hi (by
      obtain ⟨-, hp⟩ | hp := hp
      · exact hp
      · rw [hp]
        decide)
    have he : inmFrame z s = withMon (stableMon z ⟨q.lines, z - q.time⟩ c (classify s.timings c) s.inm.mon) s := by
      rw [inmFrame_stable hm hq hc ha, stableResult_discarded (i := i) (by exact hi) (by exact hp.imp And.left id)]
    rw [framePulseAll_unlocked b hl (he ▸ hl), he]
    exact ⟨rfl, hm, rfl, rfl, by simp [keeps_iff, withMon]⟩
  · refine settles_operating ho rfl ?_
    have hi := (onScreen_iff.mp hs).1
    have hx := inmFrame_loses hm hq hl hf
    refine ⟨fun hp => ?_, fun hp => ?_⟩
    · have hu : s.locked = false := unlocked_of_path hi (by rw [hp]; decide)
      rw [lockLoss_eq (i := i) (by exact hs) (by exact .inr hp), leftGeo_unlocked (by exact hu), leftNotice_unlocked (by exact hu)] at hx
      rw [framePulseAll_unlocked b hu (hx ▸ unlocked_of_path (i := i) (by exact hi) (by simp)), hx]
      exact ⟨rfl, rfl, rfl, rfl, raised_iff.mpr rfl, by simp [keeps_iff, withMon]⟩
    · have hu : s.locked = false := unlocked_of_path hi (by rw [hp]; decide)
      rw [lockLoss_discarded (i := i) (by exact hi) (by exact hp ▸ by decide) (by exact hp ▸ by decide)] at hx
      rw [framePulseAll_unlocked b hu (hx ▸ hu), hx]
      exact ⟨rfl, rfl, rfl, by simp [keeps_iff, withMon]⟩

end

section
/-! PROOFS. INPUT_CONFIG (O36). -/

namespace Sys2Proof.Machine

set_option Elab.async false

/-! ### The fields of the request (R46, R47) -/

theorem inputKindOf_some {b : Byte} {k : InputKind} (h : inputKindOf b = some k) : b = inputKindCode k := by
  unfold inputKindOf at h
  split_ifs at h with h₀ h₁ h₂ h₃ <;> cases h <;> assumption

theorem aspectOf_some {b : Byte} {x : Aspect} (h : aspectOf b = some x) : b = aspectCode x := by
  unfold aspectOf at h
  split_ifs at h with h₀ h₁ h₂ <;> cases h <;> assumption

theorem boolOf_some {b : Byte} {x : Bool} (h : boolOf b = some x) : x = (b == 1) := by
  unfold boolOf at h
  split_ifs at h with h₀ h₁ <;> cases h
  · rw [h₀]
    rfl
  · rw [h₁]
    rfl

theorem labelOf_some {l : RawLabel} {x : List Byte} (h : labelOf l = some x) :
    x = l.chars.take l.len.toNat ∧ l.len.toNat ≤ 12 ∧ (l.chars.take l.len.toNat).all labelChar = true := by
  unfold labelOf at h
  split_ifs at h with h₁ h₂
  cases h
  exact ⟨rfl, Nat.not_lt.mp h₁, h₂⟩

theorem inputKindOf_le {b : Byte} {k : InputKind} (h : inputKindOf b = some k) : b.toNat ≤ 3 := by
  rw [inputKindOf_some h]
  cases k <;> decide

theorem aspectOf_le {b : Byte} {x : Aspect} (h : aspectOf b = some x) : b.toNat ≤ 2 := by
  rw [aspectOf_some h]
  cases x <;> decide

theorem boolOf_le {b : Byte} {x : Bool} (h : boolOf b = some x) : b.toNat ≤ 1 := by
  unfold boolOf at h
  split_ifs at h with h₀ h₁
  · simp [h₀]
  · simp [h₁]

/-- What an INPUT_CONFIG carries has a field outside its table or its range. -/
def configOff (c : RawInputConfig) : Prop :=
  (c.kind.any fun x => decide (3 < x.toNat)) = true ∨ (c.enabled.any fun x => decide (1 < x.toNat)) = true ∨
  (c.priority.any fun x => decide (7 < x.toNat)) = true ∨ (c.aspect.any fun x => decide (2 < x.toNat)) = true ∨
  (c.label.any fun l => decide (12 < l.len.toNat) || !((l.chars.take l.len.toNat).all labelChar)) = true

section

variable {c : RawInputConfig} {e x : InputEntry}

/-- The fields carried pass their checks one by one. -/
theorem configEntry_some (h : configEntry c e = some x) :
    (∀ b ∈ c.kind, inputKindOf b = some x.kind) ∧ (∀ b ∈ c.enabled, boolOf b = some x.enabled) ∧
    (∀ l ∈ c.label, labelOf l = some x.label) ∧ (∀ b ∈ c.priority, b.toNat ≤ 7 ∧ x.priority = b.toNat) ∧
    (∀ b ∈ c.aspect, aspectOf b = some x.aspect) := by
  simp only [configEntry, Option.bind_eq_bind, Option.bind_eq_some_iff] at h
  obtain ⟨kind, hk, enabled, he, label, hl, priority, hp, aspect, ha, hx⟩ := h
  cases hx
  refine ⟨fun b hb => ?_, fun b hb => ?_, fun l hb => ?_, fun b hb => ?_, fun b hb => ?_⟩
  · rw [Option.mem_def.mp hb] at hk
    exact hk
  · rw [Option.mem_def.mp hb] at he
    exact he
  · rw [Option.mem_def.mp hb] at hl
    exact hl
  · rw [Option.mem_def.mp hb] at hp
    simp only [Option.ite_none_right_eq_some, Option.some.injEq] at hp
    exact ⟨hp.1, hp.2.symm⟩
  · rw [Option.mem_def.mp hb] at ha
    exact ha

/-- The fields not carried stand, and a preset is clamped. -/
theorem configEntry_rest (h : configEntry c e = some x) :
    (c.kind = none → x.kind = e.kind) ∧ (c.enabled = none → x.enabled = e.enabled) ∧ (c.label = none → x.label = e.label) ∧
    (c.priority = none → x.priority = e.priority) ∧ (c.aspect = none → x.aspect = e.aspect) ∧
    x.presetV = (c.preset.map fun z => clampSym 40 z.1.toInt).getD e.presetV ∧
    x.presetH = (c.preset.map fun z => clampSym 30 z.2.toInt).getD e.presetH ∧ x.lastTiming = e.lastTiming := by
  simp only [configEntry, Option.bind_eq_bind, Option.bind_eq_some_iff] at h
  obtain ⟨kind, hk, enabled, he, label, hl, priority, hp, aspect, ha, hx⟩ := h
  cases hx
  refine ⟨fun hn => ?_, fun hn => ?_, fun hn => ?_, fun hn => ?_, fun hn => ?_, ?_, ?_, rfl⟩
  · rw [hn] at hk
    exact (Option.some.inj hk).symm
  · rw [hn] at he
    exact (Option.some.inj he).symm
  · rw [hn] at hl
    exact (Option.some.inj hl).symm
  · rw [hn] at hp
    exact (Option.some.inj hp).symm
  · rw [hn] at ha
    exact (Option.some.inj ha).symm
  · cases c.preset <;> rfl
  · cases c.preset <;> rfl

/-- A field outside its table or its range makes the request INVALID (R47). -/
theorem configEntry_off (h : configOff c) : configEntry c e = none := by
  refine Option.eq_none_iff_forall_ne_some.mpr fun x hx => ?_
  obtain ⟨hk, he, hl, hp, ha⟩ := configEntry_some hx
  simp only [configOff, Option.any_eq_true, decide_eq_true_iff] at h
  obtain ⟨b, hb, h⟩ | ⟨b, hb, h⟩ | ⟨b, hb, h⟩ | ⟨b, hb, h⟩ | ⟨l, hb, h⟩ := h
  · exact Nat.not_lt.mpr (inputKindOf_le (hk b hb)) h
  · exact Nat.not_lt.mpr (boolOf_le (he b hb)) h
  · exact Nat.not_lt.mpr (hp b hb).1 h
  · exact Nat.not_lt.mpr (aspectOf_le (ha b hb)) h
  · obtain ⟨-, hn, hc⟩ := labelOf_some (hl l hb)
    simp [hc] at h
    omega

/-- The entry an INPUT_CONFIG leaves, field by field. -/
theorem configEntry_fields (h : configEntry c e = some x) :
    (c.kind.map BitVec.toNat).getD (inputKindCode e.kind).toNat = (inputKindCode x.kind).toNat ∧
    x.enabled = (c.enabled.map (· == 1)).getD e.enabled ∧
    x.label = (c.label.map fun l => l.chars.take l.len.toNat).getD e.label ∧
    x.priority = (c.priority.map BitVec.toNat).getD e.priority ∧
    (c.aspect.map BitVec.toNat).getD (aspectCode e.aspect).toNat = (aspectCode x.aspect).toNat := by
  obtain ⟨hk, he, hl, hp, ha⟩ := configEntry_some h
  obtain ⟨hk', he', hl', hp', ha', -⟩ := configEntry_rest h
  refine ⟨?_, ?_, ?_, ?_, ?_⟩
  · cases hc : c.kind with
    | none => rw [hk' hc]; rfl
    | some b => exact congrArg BitVec.toNat (inputKindOf_some (hk b hc))
  · cases hc : c.enabled with
    | none => exact he' hc
    | some b => exact boolOf_some (he b hc)
  · cases hc : c.label with
    | none => exact hl' hc
    | some l => exact (labelOf_some (hl l hc)).1
  · cases hc : c.priority with
    | none => exact hp' hc
    | some b => exact (hp b hc).2
  · cases hc : c.aspect with
    | none => rw [ha' hc]; rfl
    | some b => exact congrArg BitVec.toNat (aspectOf_some (ha b hc))

theorem configEntry_enabled (h : configEntry c e = some x) : x.enabled = (c.enabled.map (· == 1)).getD e.enabled := by
  obtain ⟨-, hx, -⟩ := configEntry_fields h
  exact hx

/-- A preset value was limited exactly where it lies out of its range (R46). -/
theorem presetClamped_eq (c : RawInputConfig) : presetClamped c =
    !(c.preset.all fun z => decide (-40 ≤ z.1.toInt ∧ z.1.toInt ≤ 40 ∧ -30 ≤ z.2.toInt ∧ z.2.toInt ≤ 30)) := by
  unfold presetClamped
  cases c.preset with
  | none => rfl
  | some z =>
    have hv := clampSym_beq_iff (m := Config.keystoneV) (n := z.1.toInt) (by decide)
    have hh := clampSym_beq_iff (m := Config.keystoneH) (n := z.2.toInt) (by decide)
    rw [Option.any_some, Option.all_some, bne, bne, ← Bool.not_and]
    congr 1
    rw [Bool.eq_iff_iff, Bool.and_eq_true_iff, hv, hh, decide_eq_true_iff, and_assoc]
    rfl

/-- A field carried is a field named. -/
theorem configNames_of (h : c.enabled ≠ none ∨ c.aspect ≠ none ∨ c.preset ≠ none) : configNames c = true := by
  simp only [← Option.isSome_iff_ne_none] at h
  obtain h | h | h := h <;> simp [configNames, h]

end

/-! ### What the request leaves (R47, R48) -/

/-- The state with the entry of an input written and INPUTS marked. -/
def configured (i : Fin 6) (e : InputEntry) (s : State) : State :=
  { s with inputs := { s.inputs with entries := s.inputs.entries.set i e }, sto := dirtied .inputs s.sto }

/-- The state INPUT_CONFIG leaves: the geometry follows the entry written, and then the path its enabled flag. -/
def configWritten (i : Fin 6) (c : RawInputConfig) (e : InputEntry) (s : State) : State :=
  enabledWritten i s.inputs.entries[i].enabled (geometryWritten i c (configured i e s))

section

variable {b : Byte} {c : RawInputConfig} {e : InputEntry} {i : Fin 6} {s t : State} {was : Bool}

theorem inputConfigRequest_invalid (h : 5 < b.toNat ∨ c.spare ≠ 0 ∨ configNames c = false ∨ configOff c) :
    inputConfigRequest b c s = (s, .invalid) := by
  unfold inputConfigRequest
  cases hi : indexOf 6 b with
  | none => rfl
  | some i =>
    have hb := (indexOf_eq_some _ _ _).mp hi
    dsimp only
    split
    next => rfl
    next hc =>
      obtain ⟨hs, hn⟩ := not_or.mp hc
      obtain h | h | h | h := h
      · omega
      · exact absurd h hs
      · simp [h] at hn
      · rw [configEntry_off h]

theorem inputConfigRequest_writes (hb : b.toNat = i.val) (hs : c.spare = 0) (hn : configNames c = true)
    (he : configEntry c s.inputs.entries[i] = some e) : inputConfigRequest b c s =
    (configWritten i c e s, .clampedIf (presetClamped c) []) := by
  rw [inputConfigRequest, (indexOf_eq_some 6 b i).mpr hb]
  dsimp only
  rw [if_neg (by simp [hs, hn]), he]
  rfl

theorem configured_keeps : Keeps [.inputs, .store] s (configured i e s) := by simp [keeps_iff, configured]

theorem configured_entry : (configured i e s).inputs.entries[i] = e := by simp [configured]

/-! ### The geometry that follows (R91) -/

theorem geometryWritten_unselected (h : s.ssw.selected ≠ some i) : geometryWritten i c s = s := if_neg h

theorem geometryWritten_plain (hp : c.preset = none) (ha : c.aspect = none) : geometryWritten i c s = s := by
  simp [geometryWritten, hp, ha]

theorem geometryWritten_preset (h : s.ssw.selected = some i) (hp : c.preset ≠ none) : geometryWritten i c s =
    { s with
      geo := placedGeo s (presetWarp s i .config) (presetGeo s i)
      ptc := s.heard (placedNotice s (presetWarp s i .config)) } := by
  rw [geometryWritten, if_pos h, if_pos (Option.isSome_iff_ne_none.mpr hp), applyPreset_placed _ h]

theorem geometryWritten_aspect (h : s.ssw.selected = some i) (hp : c.preset = none) (ha : c.aspect ≠ none) :
    geometryWritten i c s =
    { s with
      geo := placedGeo s (s.warpFor i .config) s.geo
      ptc := s.heard (placedNotice s (s.warpFor i .config)) } := by
  rw [geometryWritten, if_pos h, if_neg (by simp [hp]), if_pos (Option.isSome_iff_ne_none.mpr ha), recompute_placed _ h]

theorem geometryWritten_keeps (i : Fin 6) (c : RawInputConfig) (s : State) : Keeps [.geo, .ports] s (geometryWritten i c s) := by
  by_cases hi : s.ssw.selected = some i
  · by_cases hp : c.preset = none
    · by_cases ha : c.aspect = none
      · rw [geometryWritten_plain hp ha]
        exact .refl _ s
      · rw [geometryWritten_aspect hi hp ha]
        simp [keeps_iff]
    · rw [geometryWritten_preset hi hp]
      simp [keeps_iff]
  · rw [geometryWritten_unselected hi]
    exact .refl _ s

/-! ### The path that follows (R48) -/

theorem enabledWritten_same (h : s.inputs.entries[i].enabled = was) : enabledWritten i was s = s := if_pos h.symm

theorem enabledWritten_onScreen (h : s.onScreen i = true) : enabledWritten i was s = s := by
  unfold enabledWritten
  dsimp only
  rw [if_pos h, ite_self]

theorem enabledWritten_unselected (h : s.ssw.selected ≠ some i) (hw : s.inputs.entries[i].enabled ≠ was) :
    enabledWritten i was s = if s.attached i then risesElsewhere i (restPathOf i s) else restPathOf i s := by
  unfold enabledWritten
  dsimp only
  rw [if_neg hw.symm, if_neg (by simp [onScreen_unselected h]), restPathOf_unselected h, sswRise_elsewhere (by exact h),
    State.attached]
  split
  next ha => exact if_pos (by exact (Bool.and_eq_true_iff.mp ha).1)
  next => rfl

theorem enabledWritten_untrained (h : s.ssw.selected = some i) (ht : s.ssw.trained = false)
    (hw : s.inputs.entries[i].enabled ≠ was) : enabledWritten i was s = restPathOf i s := by
  unfold enabledWritten
  dsimp only
  have hk : (restPathOf i s).ssw = s.ssw := restPathOf_keeps i s .ssw (by decide)
  rw [if_neg hw.symm, if_neg (by simp [State.onScreen, ht]), sswRise_untrained (hk ▸ h) (hk ▸ ht), ite_self]

theorem enabledWritten_keeps (i : Fin 6) (was : Bool) (s : State) : Keeps pictureParts s (enabledWritten i was s) :=
  (Keeps.refl _ s).ite <| (Keeps.refl _ s).ite <|
    ((restPathOf_keeps i s).seq (sswRise_keeps i _)).ite (restPathOf_keeps i s).weaken

theorem enabledWritten_selected (h : s.ssw.selected = some i) : Keeps [.inm, .ports] s (enabledWritten i was s) := by
  by_cases hw : s.inputs.entries[i].enabled = was
  · rw [enabledWritten_same hw]
    exact .refl _ s
  · cases ht : s.ssw.trained with
    | true =>
      rw [enabledWritten_onScreen (onScreen_iff.mpr ⟨h, ht⟩)]
      exact .refl _ s
    | false =>
      rw [enabledWritten_untrained h ht hw]
      exact restPathOf_keeps i s

/-- An unselected input with its entry written and its path state at `q`. -/
def configuredTo (i : Fin 6) (e : InputEntry) (q : PathState) (s : State) : State :=
  { configured i e s with inm := { s.inm with path := s.inm.path.set i q } }

theorem configuredTo_keeps (q : PathState) : Keeps [.inputs, .inm, .store] s (configuredTo i e q s) := by
  simp [keeps_iff, configuredTo, configured]

theorem selPath_configuredTo (h : s.ssw.selected ≠ some i) (q : PathState) : (configuredTo i e q s).selPath = s.selPath := by
  unfold State.selPath configuredTo configured
  cases hs : s.ssw.selected with
  | none => rfl
  | some j =>
    have hj : ¬ i = j := fun e => h (e ▸ hs)
    simp [hj, Fin.val_inj]

theorem attached_configuredTo (q : PathState) : (configuredTo i e q s).attached i = (e.enabled && s.inm.deb[i].presence) := by
  simp [State.attached, configuredTo, configured]

theorem configWritten_changed (h : s.ssw.selected ≠ some i) (hw : e.enabled ≠ s.inputs.entries[i].enabled) :
    configWritten i c e s =
    if e.enabled && s.inm.deb[i].presence then risesElsewhere i (configuredTo i e .present s)
    else configuredTo i e (if e.enabled = true then .absent else .disabled) s := by
  rw [configWritten, geometryWritten_unselected (by exact h), enabledWritten_unselected (by exact h) (by rw [configured_entry]; exact hw),
    restPathOf_unselected (by exact h), State.attached, State.restPath, configured_entry]
  cases e.enabled with
  | false => rfl
  | true =>
    rw [show (configured i e s).inm.deb[i].presence = s.inm.deb[i].presence from rfl]
    cases s.inm.deb[i].presence <;> rfl

/-- What follows changes no record. -/
theorem configured_follows : Keeps pictureParts (configured i e s)
    (configWritten i c e s) :=
  (geometryWritten_keeps i c _).seq (enabledWritten_keeps i _ _)

theorem warpAt_of_same {s t : State} (hi : t.inputs = s.inputs) (ht : t.timings = s.timings) : t.warpAt = s.warpAt := by
  funext j v h cause
  simp only [State.warpAt, State.sourceSize, hi, ht]

/-- What the flag leads to for the selected input leaves the geometry standing. -/
theorem configWritten_geo (h : s.ssw.selected = some i) : (configWritten i c e s).geo =
    (geometryWritten i c (configured i e s)).geo := by
  have hk := geometryWritten_keeps i c (configured i e s) .ssw (by decide)
  exact enabledWritten_selected ((congrArg Ssw.selected hk).trans h) .geo (by decide)

/-- A preset carried for the selected input becomes the live keystone (R91). -/
theorem configWritten_presetGeo (h : s.ssw.selected = some i) (hp : c.preset ≠ none) : (configWritten i c e s).geo =
    placedGeo s (presetWarp (configWritten i c e s) i .config)
      { s.geo with
        liveV := (configWritten i c e s).inputs.entries[i].presetV
        liveH := (configWritten i c e s).inputs.entries[i].presetH } := by
  have hk := configured_follows (c := c) (e := e) (i := i) (s := s)
  have hin : (configWritten i c e s).inputs = (configured i e s).inputs := hk .inputs (by decide)
  rw [presetWarp_of_same hin (hk .timings (by decide)), hin, configWritten_geo h, geometryWritten_preset (by exact h) hp]
  rfl

/-- An aspect mode carried without a preset recomputes the warp (R91). -/
theorem configWritten_aspectGeo (h : s.ssw.selected = some i) (hp : c.preset = none) (hx : c.aspect ≠ none) :
    (configWritten i c e s).geo =
    placedGeo s ((configWritten i c e s).warpAt i s.geo.liveV s.geo.liveH .config) s.geo := by
  have hk := configured_follows (c := c) (e := e) (i := i) (s := s)
  rw [warpAt_of_same (hk .inputs (by decide)) (hk .timings (by decide)), configWritten_geo h,
    geometryWritten_aspect (by exact h) hp hx]
  rfl

end

end Sys2Proof.Machine

open Sys2Proof Sys2Proof.Machine

/-- Settles O36: the entry written, then what follows by the selection and by the change of the enabled flag. -/
theorem inputConfigured : Obligations.InputConfigured := by
  unfold Obligations.InputConfigured
  intro p o a b i c s ht
  refine settles_request ht rfl ?_
  rw [show ownerAct p a (.inputConfig b c) s = inputConfigRequest b c s from rfl]
  refine ⟨fun h => ?_, fun hb hs hn he => ?_, fun hb hs hn he hi hc => ?_, fun hb hs hn he hi hp => ?_,
    fun hb hs he hi hp hx => ?_, fun hb hs he hi hc hw => ?_, fun hb hs he hi hc hw hq => ?_,
    fun h hb hs he hn hc hw hp ha hph htr hi hx hr => ?_, fun hb hs he hi hc hw hp hph => ?_,
    fun hb hs he ho hc hp hx => ?_, fun hb hs hn he hp hx hc => ?_, fun hb hs he hi htr hp hx hc => ?_⟩
  · rw [inputConfigRequest_invalid h]
    exact onlyReplied_hasReply _ _ _ _
  · obtain ⟨e, he⟩ := Option.ne_none_iff_exists'.mp he
    rw [inputConfigRequest_writes hb hs hn he]
    have hk := configured_follows (c := c) (e := e) (i := i) (s := s)
    have hu := hk .inputs (by decide)
    obtain ⟨hkind, hen, hlab, hpr, has⟩ := configEntry_fields he
    obtain ⟨-, -, -, -, -, hv, hh, hlt⟩ := configEntry_rest he
    have hei : (hasReply p (kindCode (requestKind (.inputConfig b c))) (.clampedIf (presetClamped c) [])
      (configWritten i c e s)).inputs = (configured i e s).inputs := hu
    rw [hei, configured_entry]
    refine ⟨fun x hx => ?_, rfl, hkind, hen, hlab, hpr, has, hv, hh, hlt, hk .store (by decide), ?_, ?_⟩
    · simp [configured, hx.symm, Fin.val_inj]
    · exact answers_hasReply (by rw [presetClamped_eq]; exact clampedIf_not_status _ _) rfl
    · exact (configured_keeps.seq hk).replied _ _ _ (by decide)
  · obtain ⟨e, he⟩ := Option.ne_none_iff_exists'.mp he
    have hx : e.enabled = s.inputs.entries[i].enabled := by rw [configEntry_enabled he, hc]; rfl
    rw [inputConfigRequest_writes hb hs hn he, configWritten, geometryWritten_unselected (by exact hi),
      enabledWritten_same (by rw [configured_entry]; exact hx)]
    exact configured_keeps.weaken.replied _ _ _ (by decide)
  · obtain ⟨e, he⟩ := Option.ne_none_iff_exists'.mp he
    rw [inputConfigRequest_writes hb hs hn he]
    exact configWritten_presetGeo hi hp
  · obtain ⟨e, he⟩ := Option.ne_none_iff_exists'.mp he
    rw [inputConfigRequest_writes hb hs (configNames_of (.inr (.inl hx))) he]
    exact configWritten_aspectGeo hi hp hx
  · obtain ⟨e, he⟩ := Option.ne_none_iff_exists'.mp he
    have hx : e.enabled = false := by rw [configEntry_enabled he, hc]; rfl
    rw [inputConfigRequest_writes hb hs (configNames_of (.inl (by simp [hc]))) he, configWritten_changed hi (by rw [hx, hw]; decide), hx]
    exact ⟨rfl, (configuredTo_keeps .disabled).weaken.replied _ _ _ (by decide)⟩
  · obtain ⟨e, he⟩ := Option.ne_none_iff_exists'.mp he
    have hx : e.enabled = true := by rw [configEntry_enabled he, hc]; rfl
    have hu : configWritten i c e s =
        configuredTo i e (if s.inm.deb[i].presence = true then .present else .absent) s := by
      rw [configWritten_changed hi (by rw [hx, hw]; decide), hx]
      cases hp : s.inm.deb[i].presence with
      | false => rfl
      | true =>
        obtain hf | ⟨hph, hn⟩ := hq
        · exact absurd (hf.symm.trans hp) Bool.false_ne_true
        · refine risesElsewhere_idle (by exact hph) ?_
          rw [selPath_configuredTo hi]
          exact hn
    rw [inputConfigRequest_writes hb hs (configNames_of (.inl (by simp [hc]))) he, hu]
    exact ⟨rfl, (configuredTo_keeps _).weaken.replied _ _ _ (by decide)⟩
  · obtain ⟨e, he⟩ := Option.ne_none_iff_exists'.mp he
    have hx' : e.enabled = true := by rw [configEntry_enabled he, hc]; rfl
    have hs' : s.ssw.selected ≠ some i := by simpa [hi] using hn
    have hm : (configuredTo i e .present s).scanMayStart = true := by simp [State.scanMayStart, configuredTo, configured, ha, hph, htr]
    have hat : (configuredTo i e .present s).attached i = true := by
      rw [attached_configuredTo, hx', hp]
      rfl
    rw [inputConfigRequest_writes hb hs (configNames_of (.inl (by simp [hc]))) he,
      configWritten_changed hs' (by rw [hx', hw]; decide), hx', hp, Bool.and_self, if_pos rfl,
      risesElsewhere_starts hm ((selPath_configuredTo hs' _).trans (selPath_of_selected hi)) (by obtain hx | hx := hx <;> rw [hx] <;> rfl)]
    exact startScan_starts (s := { s with inputs := (startScan (configuredTo i e .present s)).inputs })
      ⟨rfl, (startScan_keeps _ .inputs (by decide)).symm, rfl, rfl, rfl, rfl, hr⟩ hi ⟨i, hn.symm, hat⟩
  · obtain ⟨e, he⟩ := Option.ne_none_iff_exists'.mp he
    have hx : e.enabled = true := by rw [configEntry_enabled he, hc]; rfl
    rw [inputConfigRequest_writes hb hs (configNames_of (.inl (by simp [hc]))) he,
      configWritten_changed hi (by rw [hx, hw]; decide), hx, hp, Bool.and_self, if_pos rfl]
    cases hq : s.ssw.phase with
    | none => exact absurd hq hph
    | trying =>
      rw [risesElsewhere_trying (by exact hq)]
      exact ⟨rfl, rfl, by simp [keeps_iff, configuredTo, configured, hasReply, State.modPort]⟩
    | returning =>
      rw [risesElsewhere_returning (by exact hq)]
      exact ⟨rfl, rfl, by simp [keeps_iff, configuredTo, configured, hasReply, State.modPort]⟩
  · obtain ⟨e, he⟩ := Option.ne_none_iff_exists'.mp he
    rw [inputConfigRequest_writes hb hs (configNames_of (.inl hc)) he, configWritten, geometryWritten_plain hp hx, enabledWritten_onScreen (by exact ho)]
    exact configured_keeps.weaken.replied _ _ _ (by decide)
  · obtain ⟨e, he⟩ := Option.ne_none_iff_exists'.mp he
    have hw : e.enabled = s.inputs.entries[i].enabled := by
      rw [configEntry_enabled he, hc]
      cases s.inputs.entries[i].enabled <;> rfl
    rw [inputConfigRequest_writes hb hs hn he, configWritten, geometryWritten_plain hp hx, enabledWritten_same (by rw [configured_entry]; exact hw)]
    exact configured_keeps.weaken.replied _ _ _ (by decide)
  · obtain ⟨e, he⟩ := Option.ne_none_iff_exists'.mp he
    have hw : e.enabled ≠ s.inputs.entries[i].enabled := by
      rw [configEntry_enabled he, hc]
      cases s.inputs.entries[i].enabled <;> decide
    have hd : presetClamped c = false := by simp [presetClamped, hp]
    rw [inputConfigRequest_writes hb hs (configNames_of (.inl (by simp [hc]))) he, configWritten, geometryWritten_plain hp hx,
      enabledWritten_untrained (by exact hi) (by exact htr) (by rw [configured_entry]; exact hw), hd]
    refine ⟨?_, told_hasReply ?_, ?_⟩
    · rw [restPathOf_eq]
      rfl
    · rw [restPathOf_ptc (by exact hi), restPathOf_eq]
      rfl
    · exact (configured_keeps.seq (restPathOf_keeps i _)).replied _ _ _ (by decide)

end

section
/-! PROOFS. TIMING_LOAD (O37). -/

namespace Sys2Proof.Machine

set_option Elab.async false

/-! ### The request (R56, R58) -/

section

variable {t : RawTiming} {x : Option RawTiming} {e old : TimingEntry} {b : Byte} {k : Fin 24} {s : State}

theorem timingOf_some (h : timingOf t = some e) : e = timingLeft old (some t) := by
  unfold timingOf at h
  dsimp only at h
  split at h
  · exact (Option.some.inj h).symm
  · cases h

/-- A timing is refused exactly where a field lies out of its range or a min above its max. -/
theorem timingOf_eq_none : timingOf t = none ↔
    ¬(200 ≤ t.linesMin.toNat ∧ t.linesMin.toNat ≤ t.linesMax.toNat ∧ t.linesMax.toNat ≤ 4095 ∧
      8000 ≤ t.periodMin.toNat ∧ t.periodMin.toNat ≤ t.periodMax.toNat ∧ t.periodMax.toNat ≤ 50000 ∧
      320 ≤ t.width.toNat ∧ t.width.toNat ≤ 4096 ∧ 200 ≤ t.height.toNat ∧ t.height.toNat ≤ 2400) := by
  unfold timingOf
  simp only [ite_eq_right_iff, reduceCtorEq, imp_false, Bool.and_eq_true, range_holds_iff, decide_eq_true_iff,
    Config.timingLines, Config.timingPeriod, Config.activeW, Config.activeH]
  omega

theorem timingWriteRequest_invalid (h : 23 < b.toNat ∨ timingOf t = none) : timingWriteRequest b t s = (s, .invalid) := by
  unfold timingWriteRequest
  split
  next hk ht =>
    obtain h | h := h
    · have := (indexOf_eq_some _ _ _).mp hk
      omega
    · rw [ht] at h
      cases h
  next => rfl

theorem timingOutRequest_invalid (h : 23 < b.toNat) : timingOutRequest b s = (s, .invalid) := by
  rw [timingOutRequest, (indexOf_eq_none 24 b).mpr h]

/-- Both rows write the entry they leave. -/
theorem timingRequest_writes {p : PortId} {a : Origin} (hx : ∀ y ∈ x, timingOf y ≠ none) (hb : b.toNat = k.val) :
    ownerAct p a (timingAsked b x) s = (writeTiming k (timingLeft s.timings[k] x) s, .done) := by
  have hk := (indexOf_eq_some 24 b k).mpr hb
  cases x with
  | none => exact show timingOutRequest b s = _ by rw [timingOutRequest, hk]; rfl
  | some t =>
    obtain ⟨e, he⟩ := Option.ne_none_iff_exists'.mp (hx t rfl)
    exact show timingWriteRequest b t s = _ by rw [timingWriteRequest, hk, he, timingOf_some he]

theorem settles_timing {p : PortId} {o : Byte} {a : Origin} {P : State → Prop} (ht : Taken p o a (timingAsked b x) s)
    (hx : ∀ y ∈ x, timingOf y ≠ none) (hb : b.toNat = k.val)
    (h : P (hasReply p 0x71 .done (writeTiming k (timingLeft s.timings[k] x) s))) : Settles (timingRow p o b x) s P := by
  refine settles_request ht (by cases x <;> rfl) ?_
  rw [timingRequest_writes hx hb]
  cases x <;> exact h

end

/-! ### The records (R58, R59) -/

/-- The store once entry `k` stands as `e`. -/
def retimedSto (k : Fin 24) (e : TimingEntry) (s : State) : Sto :=
  if (retimed k e s).inputs = s.inputs then dirtied .timings s.sto else dirtied .inputs (dirtied .timings s.sto)

/-- The state once entry `k` stands as `e`, its records marked, before the selected path follows. -/
def retimedAt (k : Fin 24) (e : TimingEntry) (s : State) : State := { retimed k e s with sto := retimedSto k e s }

section

variable {k : Fin 24} {e : TimingEntry} {s t : State} {i : Fin 6} {m : Stable} {j : Fin 24} {r : RecordName}

theorem any_beq_eq_true {o : Option (Fin 24)} : o.any (· == k) = true ↔ o = some k := by cases o <;> simp

/-- INPUTS is rewritten exactly where a last timing index names the entry out of use. -/
theorem retimed_inputs (he : e.inUse = false) : (retimed k e s).inputs = s.inputs ↔
    (s.inputs.entries.toList.any fun x => x.lastTiming.any (· == k)) = false := by
  simp only [retimed, he, Bool.false_eq_true, if_false, ← any_beq_eq_true]
  refine Iff.trans ⟨fun h => congrArg InputsRecord.entries h, congrArg fun l => { s.inputs with entries := l }⟩ ?_
  refine map_if_eq_self fun x hx he => ?_
  rw [← congrArg InputEntry.lastTiming he] at hx
  cases hx

/-- The entry written, and what names it made absent where it is out of use (R59). -/
theorem forgetTimings_retimed (ht : t = markDirty .timings (s.modTimings fun l => l.set k e)) :
    (if t.timings[k].inUse then t else forgetTimings (· == k) t) = retimedAt k e s := by
  have hk : t.timings[k] = e := by simp [ht, markDirty, State.modSto, State.modTimings]
  rw [hk, retimedAt, retimedSto]
  cases he : e.inUse with
  | true =>
    have hi : (retimed k e s).inputs = s.inputs := by rw [retimed, he]; rfl
    rw [if_pos rfl, if_pos hi, retimed, he, ht]
    rfl
  | false =>
    have hi := retimed_inputs (k := k) (s := s) he
    rw [if_neg Bool.false_ne_true, ht]
    cases ha : s.inputs.entries.toList.any fun x => x.lastTiming.any (· == k) with
    | true =>
      rw [if_neg (by rw [hi, ha]; decide), forgetTimings, if_pos (by exact ha), retimed, he]
      simp only [any_beq_eq_true]
      rfl
    | false =>
      have hs := hi.mpr ha
      rw [if_pos hs, forgetTimings, if_neg (by exact fun h => Bool.false_ne_true (ha.symm.trans h)), hs]
      rfl

/-- An entry in use leaves every last timing index. -/
theorem retimedAt_inUse (h : e.inUse = true) : retimedAt k e s =
    { s with timings := s.timings.set k e, sto := dirtied .timings s.sto } := by
  have hi : (retimed k e s).inputs = s.inputs := by rw [retimed, h]; rfl
  rw [retimedAt, retimedSto, if_pos hi, retimed, h]
  rfl

theorem retimedAt_keeps : Keeps [.timings, .inputs, .store] s (retimedAt k e s) := by simp [keeps_iff, retimedAt, retimed]

theorem dirtied_self {d : Sto} (h : r ∈ d.dirty) : dirtied r d = d := by rw [dirtied, if_pos (by simpa using h)]

theorem retimedSto_timings : .timings ∈ (retimedSto k e s).dirty := by
  unfold retimedSto
  split
  · exact mem_dirtied _ _
  · exact mem_dirtied_iff.mpr (.inr (mem_dirtied _ _))

theorem retimedSto_inputs (h : (retimed k e s).inputs ≠ s.inputs) : .inputs ∈ (retimedSto k e s).dirty := by
  rw [retimedSto, if_neg h]
  exact mem_dirtied _ _

theorem writeTiming_same (h : s.timings[k] = e) : writeTiming k e s =
    { s with timings := s.timings.set k e, sto := dirtied .timings s.sto } := by
  unfold writeTiming
  dsimp only
  rw [if_neg (by simp [h])]
  rfl

/-- The state with the last stable measurement held to be of entry `r`. -/
def restable (m : Measure) (r : Option (Fin 24)) (s : State) : State := withMon { s.inm.mon with lastStable := some ⟨m, r⟩ } s

theorem writeTiming_changed (h : s.timings[k] ≠ e) : writeTiming k e s =
    timingChanged k (markDirty .timings (s.modTimings fun t => t.set k e)) := by
  unfold writeTiming
  dsimp only
  rw [if_pos (by simpa using h)]

theorem restable_keeps (m : Measure) (r : Option (Fin 24)) (s : State) : Keeps [.inm] s (restable m r s) := by simp [keeps_iff, restable, withMon]

/-- A changed entry leads to nothing more while the selected path is neither LOCKED nor UNSUPPORTED. -/
theorem writeTiming_elsewhere (h : s.timings[k] ≠ e) (hl : s.selPath ≠ some .locked) (hu : s.selPath ≠ some .unsupported) :
    writeTiming k e s = retimedAt k e s := by
  rw [writeTiming_changed h, timingChanged, forgetTimings_retimed (s := s) (k := k) (e := e) rfl]
  exact if_neg (not_or.mpr ⟨hl, hu⟩)

theorem writeTiming_unmeasured (h : s.timings[k] ≠ e) (hm : s.inm.mon.lastStable = none) :
    writeTiming k e s = retimedAt k e s := by
  rw [writeTiming_changed h, timingChanged, forgetTimings_retimed (s := s) (k := k) (e := e) rfl]
  have hn : (retimedAt k e s).inm.mon.lastStable = none := hm
  dsimp only
  rw [hn]
  exact ite_self _

/-- Otherwise the last stable measurement is classified against the table as it now stands (R59, R73). -/
theorem writeTiming_reclassifies {r : Option (Fin 24)} (h : s.timings[k] ≠ e) (hp : s.selPath = some .locked ∨ s.selPath = some .unsupported)
    (hm : s.inm.mon.lastStable = some m) (hr : classify (s.timings.set k e) m.measure = r) : writeTiming k e s =
    reclassified k r (restable m.measure r (retimedAt k e s)) := by
  rw [writeTiming_changed h, timingChanged, forgetTimings_retimed (s := s) (k := k) (e := e) rfl]
  have hn : (retimedAt k e s).inm.mon.lastStable = some m := hm
  dsimp only
  rw [hn, if_pos (by exact hp), ← hr]
  rfl

/-! ### What a re-classification leads to (R73) -/

theorem reclassified_again (hi : s.ssw.selected = some i) (hp : s.inm.path[i] = .locked)
    (hj : s.inputs.entries[i].lastTiming = some j) : reclassified k (some j) s =
    if j = k then recompute .reclass s else s := by
  unfold reclassified
  simp only [hi, hp, hj, if_true]

theorem reclassified_locks (hi : s.ssw.selected = some i)
    (hp : s.inm.path[i] = .locked ∧ s.inputs.entries[i].lastTiming ≠ some j ∨ s.inm.path[i] = .unsupported) :
    reclassified k (some j) s = lockAt j s := by
  unfold reclassified
  obtain ⟨hp, hj⟩ | hp := hp
  · simp only [hi, hp, hj, if_false]
  · simp only [hi, hp]

theorem reclassified_lost (hi : s.ssw.selected = some i) (hp : s.inm.path[i] = .locked) :
    reclassified k none s = reach .unsupported s := by
  unfold reclassified
  simp only [hi, hp]

theorem reclassified_none (hi : s.ssw.selected = some i) (hp : s.inm.path[i] = .unsupported) : reclassified k none s = s := by
  unfold reclassified
  simp only [hi, hp]

/-- INPUTS and the store of `t` stand as in `s`, or with a last timing index of the selected input recorded (R60). -/
def Recorded (s t : State) : Prop :=
  (t.inputs = s.inputs ∧ t.sto = s.sto) ∨
  ∃ i j, s.ssw.selected = some i ∧ t.inputs = timedInputs i j s.inputs ∧ t.sto = dirtied .inputs s.sto

theorem Recorded.of_keeps {l : List Part} (h : Keeps l s t) (hi : .inputs ∉ l := by decide) (hs : .store ∉ l := by decide) :
    Recorded s t := .inl ⟨h .inputs hi, h .store hs⟩

/-- After the recording of the entry a lock changes nothing but the picture. -/
theorem lockAt_records (h : s.ssw.selected = some i) :
    Keeps pictureParts (recordTiming i j (track (setPath i .locked s))) (lockAt j s) := by
  unfold lockAt
  rw [h]
  dsimp only
  generalize recordTiming i j (track (setPath i .locked s)) = w
  have hr : Keeps [.geo, .ssw, .ports] w (stopNosig (recompute .lock (unready w))) :=
    (unready_keeps w).seq ((recompute_keeps _ _).seq (c := [.geo, .ssw, .ports]) (stopNosig_keeps _))
  exact hr.seq (b := [.ssw, .ses, .ports])
    ((closeRecord_keeps _ _).seq ((endScan_keeps _).seq (c := [.ssw, .ports]) (raiseSource_keeps _ _)))

theorem lockAt_recorded (j : Fin 24) (s : State) : Recorded s (lockAt j s) := by
  cases hi : s.ssw.selected with
  | none =>
    rw [lockAt, hi]
    exact .of_keeps (.refl [] s)
  | some i =>
    have hk := lockAt_records (j := j) hi
    have hin := hk .inputs (by decide)
    have hst := hk .store (by decide)
    rw [recordTiming_eq] at hin hst
    by_cases hj : s.inputs.entries[i].lastTiming = some j
    · exact .inl ⟨hin.trans (timedInputs_self hj), hst.trans (if_pos hj)⟩
    · exact .inr ⟨i, j, hi, hin, hst.trans (if_neg hj)⟩

theorem reclassified_recorded (r : Option (Fin 24)) : Recorded s (reclassified k r s) := by
  unfold reclassified
  split
  · exact .of_keeps (.refl [] s)
  split
  · split
    · split
      · exact .of_keeps (recompute_keeps _ s)
      · exact .of_keeps (.refl [] s)
    · exact lockAt_recorded _ s
  · exact .of_keeps (reach_keeps _ s)
  · exact lockAt_recorded _ s
  · exact .of_keeps (.refl [] s)

theorem reclassified_keeps (r : Option (Fin 24)) :
    Keeps [.inputs, .inm, .ssw, .geo, .ses, .ports, .store] s (reclassified k r s) := by
  unfold reclassified
  split
  · exact .refl _ s
  split
  · exact ((recompute_keeps _ s).weaken.ite (.refl _ s)).ite (lockAt_keeps _ s)
  · exact (reach_keeps _ s).weaken
  · exact lockAt_keeps _ s
  · exact .refl _ s

/-- A changed entry leaves its records written, and a lock that follows records its entry. -/
theorem writeTiming_recorded (h : s.timings[k] ≠ e) : Recorded (retimedAt k e s) (writeTiming k e s) ∧
    Keeps [.inputs, .inm, .ssw, .geo, .ses, .ports, .store] (retimedAt k e s) (writeTiming k e s) := by
  by_cases hp : s.selPath = some .locked ∨ s.selPath = some .unsupported
  · cases hm : s.inm.mon.lastStable with
    | none =>
      rw [writeTiming_unmeasured h hm]
      exact ⟨.of_keeps (.refl [] _), .refl _ _⟩
    | some m =>
      rw [writeTiming_reclassifies h hp hm rfl]
      exact ⟨reclassified_recorded (s := restable m.measure _ (retimedAt k e s)) _,
        (restable_keeps _ _ _).seq (reclassified_keeps _)⟩
  · obtain ⟨hl, hu⟩ := not_or.mp hp
    rw [writeTiming_elsewhere h hl hu]
    exact ⟨.of_keeps (.refl [] _), .refl _ _⟩

theorem writeTiming_keeps (k : Fin 24) (e : TimingEntry) (s : State) :
    Keeps [.timings, .inputs, .inm, .ssw, .geo, .ses, .ports, .store] s (writeTiming k e s) := by
  by_cases h : s.timings[k] = e
  · simp [writeTiming_same h, keeps_iff]
  · obtain ⟨-, hk⟩ := writeTiming_recorded h
    exact retimedAt_keeps.seq hk

theorem writeTiming_timings (k : Fin 24) (e : TimingEntry) (s : State) : (writeTiming k e s).timings = s.timings.set k e := by
  by_cases h : s.timings[k] = e
  · rw [writeTiming_same h]
  · obtain ⟨-, hk⟩ := writeTiming_recorded h
    exact hk .timings (by decide)

/-- TIMINGS stands marked. -/
theorem writeTiming_marks (k : Fin 24) (e : TimingEntry) (s : State) : .timings ∈ (writeTiming k e s).sto.dirty := by
  by_cases h : s.timings[k] = e
  · rw [writeTiming_same h]
    exact mem_dirtied _ _
  · obtain ⟨⟨-, hs⟩ | ⟨i, j, -, -, hs⟩, -⟩ := writeTiming_recorded h
    · exact hs ▸ retimedSto_timings
    · exact hs ▸ mem_dirtied_iff.mpr (.inr retimedSto_timings)

/-- INPUTS stands marked where a last timing index has changed. -/
theorem writeTiming_marksInputs (hn : (writeTiming k e s).inputs ≠ s.inputs) : .inputs ∈ (writeTiming k e s).sto.dirty := by
  by_cases h : s.timings[k] = e
  · exact absurd (by rw [writeTiming_same h]) hn
  · obtain ⟨⟨hi, hs⟩ | ⟨i, j, -, -, hs⟩, -⟩ := writeTiming_recorded h
    · exact hs ▸ retimedSto_inputs fun hr => hn (hi.trans hr)
    · exact hs ▸ mem_dirtied _ _

/-- The entry of an input that is not selected follows the timing entry alone. -/
theorem writeTiming_entry (h : s.timings[k] ≠ e) (hs : s.ssw.selected ≠ some i) :
    (writeTiming k e s).inputs.entries[i] = (retimed k e s).inputs.entries[i] := by
  obtain ⟨⟨hi, -⟩ | ⟨x, j, hx, hi, -⟩, -⟩ := writeTiming_recorded h
  · rw [hi]
    rfl
  · have hn : x ≠ i := fun e => hs (e ▸ hx)
    rw [hi]
    simp [timedInputs, hn, Fin.val_inj, retimedAt]

theorem handedSes_none {y : SourceState} (h : s.ssw.record = none) : handedSes y s = s.ses := by simp [handedSes, h]

theorem nosigRunning_unlocked (h : s.locked = false) : s.nosigRunning =
    (litState s.lsq.state && s.ssw.trained && !s.ssw.powerOffSince) := by simp [State.nosigRunning, h]

end

end Sys2Proof.Machine

open Sys2Proof Sys2Proof.Machine

/-- Settles O37: the records written, then the selected path by the fresh classification. -/
theorem timingsWritten : Obligations.TimingsWritten := by
  unfold Obligations.TimingsWritten
  intro p o a b k t x e i j m n s
  refine ⟨fun ht h => ?_, fun ht h => ?_, fun ht hb he => ?_, fun ht hb => ?_, fun ht hx hb he => ?_,
    fun ht hx hb he hc hn hs hm => ?_, timingOf_eq_none⟩
  · refine settles_request ht rfl ?_
    rw [show ownerAct p a (.timingWrite b t) s = _ from timingWriteRequest_invalid h]
    exact onlyReplied_hasReply _ _ _ _
  · refine settles_request ht rfl ?_
    rw [show ownerAct p a (.timingOut b) s = _ from timingOutRequest_invalid h]
    exact onlyReplied_hasReply _ _ _ _
  · refine settles_timing (x := some t) ht (by rintro y ⟨⟩; exact he) hb ?_
    obtain ⟨e, he⟩ := Option.ne_none_iff_exists'.mp he
    have hk : (writeTiming k (timingLeft s.timings[k] (some t)) s).timings[k] = e := by
      rw [writeTiming_timings, timingOf_some (old := s.timings[k]) he]
      simp
    refine ⟨writeTiming_timings _ _ _, (congrArg timingOk hk).trans (timingOk_of_timingOf he), hasReply_answers _ _ _ _,
      dirtied_self (writeTiming_marks _ _ _), (writeTiming_keeps _ _ _).replied _ _ _ (by decide), fun hl hu => ?_⟩
    have hw : writeTiming k (timingLeft s.timings[k] (some t)) s =
        { s with timings := s.timings.set k (timingLeft s.timings[k] (some t)), sto := dirtied .timings s.sto } := by
      by_cases hc : s.timings[k] = timingLeft s.timings[k] (some t)
      · exact writeTiming_same hc
      · rw [writeTiming_elsewhere hc hl hu, retimedAt_inUse rfl]
    rw [hw]
    exact ⟨rfl, told_hasReply rfl, by simp [keeps_iff, hasReply, State.modPort]⟩
  · refine settles_timing (x := none) ht (by rintro y ⟨⟩) hb ?_
    refine ⟨writeTiming_timings _ _ _, hasReply_answers _ _ _ _, dirtied_self (writeTiming_marks _ _ _),
      (writeTiming_keeps _ _ _).replied _ _ _ (by decide), fun hin hl hu => ?_⟩
    have hc : s.timings[k] ≠ timingLeft s.timings[k] none := fun hc =>
      Bool.false_ne_true ((congrArg TimingEntry.inUse hc).symm.trans hin)
    rw [writeTiming_elsewhere hc hl hu]
    exact ⟨rfl, (retimedAt_keeps).weaken.replied _ _ _ (by decide)⟩
  · refine settles_timing ht hx hb ?_
    rw [← he]
    refine ⟨writeTiming_timings _ _ _, writeTiming_marksInputs, fun hc => ?_, fun hc y hy => writeTiming_entry hc hy,
      fun hc hl hu => ?_⟩
    · rw [writeTiming_same hc]
      exact ⟨rfl, told_hasReply rfl, by simp [keeps_iff, hasReply, State.modPort]⟩
    · rw [writeTiming_elsewhere hc hl hu]
      exact ⟨rfl, told_hasReply rfl, retimedAt_keeps.weaken.replied _ _ _ (by decide)⟩
  · refine settles_timing ht hx hb ?_
    obtain ⟨hi, htr⟩ := onScreen_iff.mp hs
    subst hn
    have hw {r : Option (Fin 24)} (hp : s.inm.path[i] = .locked ∨ s.inm.path[i] = .unsupported)
        (hr : classify (s.timings.set k e) m.measure = r) : writeTiming k (timingLeft s.timings[k] x) s =
        reclassified k r (restable m.measure r (retimedAt k e s)) := by
      rw [← he]
      exact writeTiming_reclassifies hc (by rw [selPath_of_selected hi]; simpa using hp) hm hr
    refine ⟨fun hp hr hj => ?_, fun hp hr => ?_, fun hp hr hn => ?_, fun hp hr => ?_⟩
    · rw [hw (.inl hp) hr, reclassified_again (i := i) (by exact hi) (by exact hp) (by exact hj)]
      split
      next hjk =>
        have hl : (restable m.measure (some j) (retimedAt k e s)).locked = true :=
          (locked_iff_of_selected (i := i) hi).mpr ⟨htr, hp⟩
        rw [recompute_placed (i := i) _ (by exact hi), placedGeo, placedNotice, if_pos hl, if_pos hl]
        exact ⟨rfl, rfl, rfl, told_hasReply rfl, by simp [keeps_iff, hasReply, State.modPort, restable, withMon, retimedAt, retimed]⟩
      next hjk =>
        exact ⟨rfl, rfl, rfl, told_hasReply rfl, (retimedAt_keeps.seq (restable_keeps _ _ _)).replied _ _ _ (by decide)⟩
    · rw [hw (hp.imp And.left id) hr, reclassified_locks (i := i) (by exact hi) (by exact hp),
        lockAt_eq (m := ⟨m.measure, some j⟩) (by exact hi) (by exact htr) rfl]
      exact ⟨⟨rfl, rfl, rfl, rfl, rfl, rfl, rfl, rfl⟩, told_hasReply rfl⟩
    · rw [hw (.inl hp) hr, reclassified_lost (i := i) (by exact hi) (by exact hp), reach_eq (by exact hi) (by decide),
        show (restable m.measure none (retimedAt k e s)).ssw.record = none from hn, afterOutcome_reached (by simp) (.inl rfl)]
      have hu : (reached .unsupported i (restable m.measure none (retimedAt k e s))).locked = false :=
        reached_unlocked hi (by decide)
      refine ⟨rfl, rfl, rfl, rfl, ?_, told_hasReply ?_, ?_⟩
      · exact nosigRunning_unlocked (by exact hu)
      · exact congrArg (fun r => s.heard (sourceTold (retimedAt k e s) i (some .unsupported) r :: leftNotice s)) hn
      · have hk : Keeps (.ses :: [.timings, .inputs, .inm, .ssw, .geo, .ports, .store]) s
            (reached .unsupported i (restable m.measure none (retimedAt k e s))) :=
          retimedAt_keeps.seq ((restable_keeps _ _ _).seq (c := .inm :: pictureParts) (reached_keeps _ _ _))
        exact (hk.without (by exact handedSes_none hn)).replied _ _ _ (by decide)
    · rw [hw (.inr hp) hr, reclassified_none (i := i) (by exact hi) (by exact hp)]
      exact ⟨rfl, rfl, told_hasReply rfl, (retimedAt_keeps.seq (restable_keeps _ _ _)).replied _ _ _ (by decide)⟩

end

section
/-! PROOFS. The source requests that change nothing, and MUTE_SET (O21, O23). -/

namespace Sys2Proof.Machine

set_option Elab.async false

/-- A request whose owner answers without acting. -/
theorem settles_declined {c : Instr} {p : PortId} {o : Byte} {a : Origin} {r : Request} {s : State} {x : Answer}
    (ht : Taken p o a r s) (hc : exec c s = .next (requestArrives p o r s)) (he : ownerAct p a r s = (s, x)) :
    Settles c s fun u => OnlyReplied p (kindCode (requestKind r)) x.status x.fields s u := by
  refine settles_request ht hc ?_
  rw [he]
  exact onlyReplied_hasReply _ _ _ _

section

variable {s : State} {i : Fin 6} {b : Byte} (a : Origin)

theorem selectRequest_invalid (h : 5 < b.toNat) : selectRequest a b s = (s, .invalid) := by
  rw [selectRequest, (indexOf_eq_none 6 b).mpr h]

theorem selectRequest_disabled (hb : b.toNat = i.val) (he : s.inputs.entries[i].enabled = false) :
    selectRequest a b s = (s, .refused .inputDisabled) := by
  simp only [selectRequest, (indexOf_eq_some 6 b i).mpr hb, sswSelect, he]
  rfl

theorem selectRequest_locked (hb : b.toNat = i.val) (he : s.inputs.entries[i].enabled = true)
    (hs : s.ssw.selected = some i) (hl : s.locked = true) : selectRequest a b s = (s, .done) := by
  simp only [selectRequest, (indexOf_eq_some 6 b i).mpr hb, sswSelect, he, if_pos (And.intro hs hl)]
  rfl

theorem retrainRequest_invalid (h : 5 < b.toNat) : retrainRequest a b s = (s, .invalid) := by
  rw [retrainRequest, (indexOf_eq_none 6 b).mpr h]

theorem retrainRequest_notSelected (hb : b.toNat = i.val) (hs : s.ssw.selected ≠ some i) :
    retrainRequest a b s = (s, .refused .notSelected) := by
  simp only [retrainRequest, (indexOf_eq_some 6 b i).mpr hb, if_neg hs]

end

/-! ### MUTE_SET (R79) -/

/-- A user mute asserts MUTE at once (R79, R80). -/
theorem muteCheck_muted (s : State) : muteCheck (s.modSsw fun w => { w with userMute := true }) =
    { s with ssw := { s.ssw with userMute := true, mute := true } } := by
  rw [muteCheck_eq]
  simp [State.showable, State.modSsw]

/-- Without the user mute the conditions of R80 hold wherever they held with it. -/
theorem showable_unmuted {s : State} (h : s.showable = true) :
    (s.modSsw fun w => { w with userMute := false }).showable = true := by
  simp only [State.showable, Bool.and_eq_true] at h ⊢
  obtain ⟨⟨⟨hlamp, hlocked⟩, -⟩, hready⟩ := h
  exact ⟨⟨⟨hlamp, hlocked⟩, rfl⟩, hready⟩

/-- The end of a user mute leaves MUTE as it was where it is released only as R80 allows. -/
theorem muteCheck_unmuted {s : State} (h : muteFits s = true) :
    muteCheck (s.modSsw fun w => { w with userMute := false }) =
      { s with ssw := { s.ssw with userMute := false } } := by
  rw [muteCheck_eq]
  have hm : (s.ssw.mute || !(s.modSsw fun w => { w with userMute := false }).showable) = s.ssw.mute := by
    cases hm : s.ssw.mute with
    | true => rfl
    | false =>
      simp only [muteFits, hm, Bool.false_or, Bool.and_eq_true] at h
      rw [showable_unmuted h.2]
      rfl
  rw [State.modSsw_ssw, hm]
  rfl

theorem muteSetRequest_on (s : State) : muteSetRequest 1 s =
    ({ s with ssw := { s.ssw with userMute := true, mute := true } }, .done) := by
  rw [← muteCheck_muted]
  rfl

theorem muteSetRequest_off {s : State} (h : muteFits s = true) : muteSetRequest 0 s =
    ({ s with ssw := { s.ssw with userMute := false } }, .done) := by
  rw [← muteCheck_unmuted h]
  rfl

theorem muteSetRequest_invalid {b : Byte} (h₀ : b ≠ 0) (h₁ : b ≠ 1) (s : State) : muteSetRequest b s = (s, .invalid) := by
  rw [muteSetRequest, boolOf, if_neg h₀, if_neg h₁]

/-- What is left of SSW, with the reply. -/
theorem ssw_replied (p : PortId) (c : Byte) (a : Answer) (s : State) (w : Ssw) :
    Told p c a.status a.fields [] s (hasReply p c a { s with ssw := w }) ∧
      Keeps [.ssw, .ports] s (hasReply p c a { s with ssw := w }) :=
  ⟨told_hasReply rfl, (modSsw_keeps (fun _ => w) s).weaken.replied _ _ _ (by decide)⟩

end Sys2Proof.Machine

open Sys2Proof Sys2Proof.Machine

/-- Settles O21: each request is declined by its own check, before SSW acts. -/
theorem sourceRequestsDeclined : Obligations.SourceRequestsDeclined := by
  unfold Obligations.SourceRequestsDeclined
  intro p o a b i s
  refine ⟨fun ht hb => ?_, fun ht hb he => ?_, fun ht hb he hs hl => ?_, fun ht hb => ?_, fun ht hb hs => ?_⟩
  · exact settles_declined ht rfl (selectRequest_invalid a hb)
  · exact settles_declined ht rfl (selectRequest_disabled a hb he)
  · exact settles_declined ht rfl (selectRequest_locked a hb he hs hl)
  · exact settles_declined ht rfl (retrainRequest_invalid a hb)
  · exact settles_declined ht rfl (retrainRequest_notSelected a hb hs)

/-- Settles O23: the user mute alone takes a condition of R80 away, and its end takes none. -/
theorem userMuteSet : Obligations.UserMuteSet := by
  unfold Obligations.UserMuteSet
  intro p o a b s ht
  refine settles_request ht rfl ⟨?_, ?_, fun h₀ h₁ => ?_⟩
  · rintro rfl
    rw [show ownerAct p a (.muteSet 1) s = _ from muteSetRequest_on s]
    exact ⟨rfl, ssw_replied _ _ _ _ _⟩
  · rintro rfl hm
    rw [show ownerAct p a (.muteSet 0) s = _ from muteSetRequest_off hm]
    exact ⟨rfl, ssw_replied _ _ _ _ _⟩
  · rw [show ownerAct p a (.muteSet b) s = _ from muteSetRequest_invalid h₀ h₁ s]
    exact onlyReplied_hasReply _ _ _ _

end

section
/-! PROOFS. Commits, power fail, supply, power-on reset and the engine restart (O59). -/

namespace Sys2Proof.Machine

set_option Elab.async false

section

variable {s : State} {c : Commit}

/-! ### Commits and the power-fail line (R181 to R184) -/

/-- Power-fail mode once a commit has completed (R183). -/
theorem afterCommit_eq (p : PowerFail) : afterCommit p = if p = .begun then .done else p := by cases p <;> rfl

theorem commitDone_none (h : s.sto.inflight = none) : commitDone s = s := by rw [commitDone, h]

theorem commitDone_some (h : s.sto.inflight = some c) : commitDone s =
    { s with sto := { s.sto with
        images := setImage s.sto.images c true
        inflight := none
        pf := if s.sto.pf = .begun then .done else s.sto.pf } } := by
  rw [commitDone, h, ← afterCommit_eq]
  rfl

/-- With no commit in flight none completes, powered or not. -/
theorem settles_commitComplete_none (h : s.sto.inflight = none) : Settles .commitComplete s fun u => u = s := by
  refine ⟨s, ?_, rfl⟩
  cases hp : s.powered with
  | true =>
    refine congrArg Host.Outcome.next ((if_pos hp).trans ?_)
    rw [commitDone_none h]
  | false =>
    refine congrArg Host.Outcome.next ((if_neg (by simp [hp])).trans (settle_idle ?_).symm)
    simp [State.operating, hp]

theorem supplyLost_some (h : s.sto.inflight = some c) : supplyLost s =
    { s with sto := { s.sto with images := setImage s.sto.images c false, inflight := none, dirty := [] } } := by
  unfold supplyLost State.modSto
  dsimp only
  rw [h]

theorem supplyLost_none (h : s.sto.inflight = none) : supplyLost s = { s with sto := { s.sto with dirty := [] } } := by
  unfold supplyLost State.modSto
  dsimp only
  rw [h]

/-- LAMP marked and its final commit owed (R183). -/
theorem powerFails_eq (s : State) : powerFails s =
    { s with sto := { s.sto with
        pf := .owed
        dirty := if .lamp ∈ s.sto.dirty then s.sto.dirty else s.sto.dirty ++ [.lamp] } } := by
  unfold powerFails
  rw [markDirty_eq, dirtied]
  simp only [State.modSto_sto, List.contains_iff_mem]
  split <;> rfl

/-! ### Power-on reset (R185) -/

/-- Every block at its value after power-on reset, the lines, CAL, the images and the waiting commands standing. -/
theorem resetBlocks_eq (s : State) : resetBlocks s = afterReset s.lines s.cal s.sto.images s.pending := by
  rfl

/-! ### The engine restart (R105, R177) -/

/-- The E port empty, the rest of a transaction under way ignored. -/
theorem engineResets_eq (s : State) : engineResets s =
    { s with ptc := { s.ptc with e := resetPort, txn := if s.ptc.txn = .idle then .idle else .ignored } } := by
  unfold engineResets State.modPtc
  dsimp only
  cases s.ptc.txn <;> simp

theorem attn_engReset (h : s.lines.engRst = true) : s.attn = false := by simp [State.attn, h]

theorem engineReturns_some {w : ActiveWarp} (h : s.geo.active = some w) :
    engineReturns s = raise (.warpReady w.generation w.warp.input w.warp.cause) s := by rw [engineReturns, h]

theorem engineReturns_none (h : s.geo.active = none) : engineReturns s = s := by rw [engineReturns, h]

/-! ### Commands of a part with main supply, or without -/

/-- A line's command acts with main supply present. -/
theorem settles_supplied {x : Instr} {f : State → State} {t : State} {P : State → Prop} (hs : s.lines.supply = true)
    (hx : exec x s = .next (if s.lines.supply then settle (f t) else t)) (h : P (f t)) : Settles x s P :=
  settles_of_eq (hx.trans (by rw [if_pos hs])) h

end

end Sys2Proof.Machine

open Sys2Proof Sys2Proof.Machine

/-- Settles O59: what each event of the store, of supply and of the resets leaves, event by event. -/
theorem storeAndResetEvents : Obligations.StoreAndResetEvents := by
  unfold Obligations.StoreAndResetEvents
  intro c w m v s
  have hdark {t u : State} (h : s.lines.supply = false) :
      (.next (if s.lines.supply then t else u) : Host.Outcome State Fault Refusal) = .next u :=
    congrArg Host.Outcome.next (if_neg (by simp [h]))
  refine ⟨fun hp hc => ?_, settles_commitComplete_none, fun hc => ?_, fun hc => ?_, fun hs => ?_, fun hs => ?_, fun hp => ?_,
    fun hs => ⟨hdark hs, hdark hs, hdark hs, hdark hs, hdark hs⟩, fun x => rfl, fun x => rfl, fun x => rfl, fun x => rfl, fun x => rfl, fun hs hc => ?_,
    fun hs hc => ?_, ?_, rfl, hdark, fun hs => ?_, fun hs => ?_, fun hs hw => ?_, fun hs hw => ?_⟩
  · refine settles_of_eq (u := commitDone s) (congrArg Host.Outcome.next (if_pos hp)) ?_
    rw [commitDone_some hc]
    exact ⟨by simp [keeps_iff], rfl⟩
  · exact congrArg Host.Outcome.next (supplyLost_some (by exact hc))
  · exact congrArg Host.Outcome.next (supplyLost_none (by exact hc))
  · refine settles_supplied (f := powerFails) hs rfl ?_
    rw [powerFails_eq]
    exact ⟨rfl, by simp [keeps_iff], rfl, rfl⟩
  · exact settles_supplied (f := powerHolds) hs rfl rfl
  · exact congrArg Host.Outcome.next (if_neg (by simp [hp]))
  · refine congrArg Host.Outcome.next ((if_pos hs).trans ?_)
    rw [resetAsserted, commitDone_some hc, resetBlocks_eq]
    rfl
  · refine congrArg Host.Outcome.next ((if_pos hs).trans ?_)
    rw [resetAsserted, commitDone_none hc, resetBlocks_eq]
    rfl
  · exact congrArg Host.Outcome.next (resetBlocks_eq _)
  · exact congrArg Host.Outcome.next (if_pos hs)
  · refine settles_supplied (f := engineResets) hs rfl ?_
    rw [engineResets_eq]
    exact ⟨rfl, rfl, attn_engReset rfl, by simp [keeps_iff]⟩
  · refine settles_supplied (f := engineReturns) hs rfl ?_
    rw [engineReturns_some (by exact hw), raise_eq]
    exact ⟨rfl, rfl, by simp [keeps_iff]⟩
  · refine settles_supplied (f := engineReturns) hs rfl ?_
    rw [engineReturns_none (by exact hw)]
    rfl

end

section
/-! PROOFS. The laws of the picture, and what the switch, the monitor and the geometry keep of them (O9). -/

namespace Sys2Proof.Machine

set_option Elab.async false

/-! ### The laws in a part that has a selection -/

/-- The laws of the picture in a part whose selection stands: an input is selected, MUTE is released only where R80 allows it,
and the switch record fits the path. Whether start-up is complete plays no part. -/
structure PictureHolds (s : State) : Prop where
  chosen : s.ssw.selected.isSome = true
  mute : s.ssw.mute = false → s.showable = true
  record : recordFits s = true

theorem pictureFits_iff_holds {s : State} (h : s.sto.phase = .complete) : pictureFits s = true ↔ PictureHolds s := by
  have hm : muteFits s = true ↔ (s.ssw.mute = false → s.showable = true) := by
    cases hm : s.ssw.mute <;> simp [muteFits, h, hm]
  have hc : selectionFits s = s.ssw.selected.isSome := by simp [selectionFits, h]
  simp only [pictureFits, Bool.and_eq_true, hm, hc, and_assoc]
  exact ⟨fun ⟨hm, hr, hc⟩ => ⟨hc, hm, hr⟩, fun ⟨hc, hm, hr⟩ => ⟨hm, hr, hc⟩⟩

/-- All that the picture's laws read stands as it did. -/
structure SamePicture (s t : State) : Prop where
  ssw : t.ssw = s.ssw
  path : t.inm.path = s.inm.path
  lamp : t.lsq.state = s.lsq.state
  phase : t.sto.phase = s.sto.phase

namespace SamePicture

variable {s t : State}

theorem refl (s : State) : SamePicture s s := ⟨rfl, rfl, rfl, rfl⟩

/-- A change of parts that the laws do not read. -/
theorem of_keeps {l : List Part} (h : Keeps l s t)
    (hl : l.all (fun x => !([.ssw, .inm, .lsq, .store] : List Part).contains x) = true := by decide) : SamePicture s t := by
  have hn (x : Part) (hx : x ∈ ([.ssw, .inm, .lsq, .store] : List Part)) : x ∉ l := by
    intro hm
    have := List.all_eq_true.mp hl x hm
    simp_all
  exact ⟨h .ssw (hn _ (by simp)), congrArg _ (h .inm (hn _ (by simp))), congrArg _ (h .lsq (hn _ (by simp))),
    congrArg _ (h .store (hn _ (by simp)))⟩

theorem selPath (h : SamePicture s t) : t.selPath = s.selPath := by simp [State.selPath, h.ssw, h.path]

theorem showable (h : SamePicture s t) : t.showable = s.showable := by
  simp [State.showable, State.locked, h.ssw, h.lamp, h.selPath]

theorem recordFits (h : SamePicture s t) : recordFits t = recordFits s := by simp [Machine.recordFits, h.ssw, h.selPath]

theorem pictureFits (h : SamePicture s t) : pictureFits t = pictureFits s := by
  simp [Machine.pictureFits, muteFits, selectionFits, h.ssw, h.phase, h.showable, h.recordFits]

end SamePicture

/-- The start-up phase stands, and with an input selected the picture's laws are kept. -/
structure KeepsPicture (s t : State) : Prop where
  phase : t.sto.phase = s.sto.phase
  laws : PictureHolds s → PictureHolds t

namespace KeepsPicture

variable {s t u : State}

theorem refl (s : State) : KeepsPicture s s := ⟨rfl, id⟩

theorem trans (h₁ : KeepsPicture s t) (h₂ : KeepsPicture t u) : KeepsPicture s u :=
  ⟨h₂.phase.trans h₁.phase, h₂.laws ∘ h₁.laws⟩

theorem ite {p : Prop} [Decidable p] (h₁ : p → KeepsPicture s t) (h₂ : ¬p → KeepsPicture s u) :
    KeepsPicture s (if p then t else u) := by
  split
  next h => exact h₁ h
  next h => exact h₂ h

theorem of_same (h : SamePicture s t) : KeepsPicture s t where
  phase := h.phase
  laws hs := ⟨h.ssw ▸ hs.chosen, by rw [h.ssw, h.showable]; exact hs.mute, h.recordFits.trans hs.record⟩

theorem of_keeps {l : List Part} (h : Keeps l s t)
    (hl : l.all (fun x => !([.ssw, .inm, .lsq, .store] : List Part).contains x) = true := by decide) : KeepsPicture s t :=
  .of_same (.of_keeps h hl)

/-- The path states change, but not that of a TRAINED selection. -/
theorem of_paths (hw : t.ssw = s.ssw) (hq : t.lsq.state = s.lsq.state) (hp : t.sto.phase = s.sto.phase)
    (ht : s.ssw.trained = true → t.selPath = s.selPath) : KeepsPicture s t where
  phase := hp
  laws hs := by
    have hl : t.locked = s.locked ∧ recordFits t = recordFits s := by
      cases htr : s.ssw.trained with
      | true => simp [State.locked, recordFits, hw, ht htr]
      | false => simp [State.locked, recordFits, hw, htr]
    exact ⟨hw ▸ hs.chosen, by simpa [State.showable, hw, hq, hl.1] using hs.mute, hl.2.trans hs.record⟩

end KeepsPicture

section

variable {s : State}

/-- SSW changes, but neither the selection nor the record; `hm`: MUTE is released only where R80 still allows it. -/
theorem modSsw_picture (f : Ssw → Ssw)
    (hr : (f s.ssw).selected = s.ssw.selected ∧ (f s.ssw).trained = s.ssw.trained ∧ (f s.ssw).record = s.ssw.record ∧
      (f s.ssw).timer.isSome = s.ssw.timer.isSome)
    (hm : (s.ssw.mute = false → s.showable = true) → (f s.ssw).mute = false → (s.modSsw f).showable = true) :
    KeepsPicture s (s.modSsw f) where
  phase := rfl
  laws hs := by
    obtain ⟨hsel, htr, hrec, htim⟩ := hr
    refine ⟨by rw [State.modSsw_ssw, hsel]; exact hs.chosen, hm hs.mute, ?_⟩
    rw [← hs.record]
    simp [recordFits, State.selPath, hsel, htr, hrec, htim]

theorem markDirty_picture (r : RecordName) : KeepsPicture s (markDirty r s) := .of_same ⟨rfl, rfl, rfl, dirtied_phase _ _⟩

theorem markIf_picture (b : Bool) (r : RecordName) : KeepsPicture s (markIf b r s) :=
  .ite (fun _ => markDirty_picture r) fun _ => .refl s

theorem modMon_picture (f : Monitor → Monitor) : KeepsPicture s (modMon f s) := .of_same ⟨rfl, rfl, rfl, rfl⟩

/-! ### MUTE and the warp (R80, R99, R101) -/

theorem releasePoint_picture : KeepsPicture s (releasePoint s) :=
  .ite (fun h => modSsw_picture _ ⟨rfl, rfl, rfl, rfl⟩ fun _ _ => h) fun _ => .refl s

/-- With the picture-ready mark set the conditions of R80 hold wherever they held without it. -/
theorem showable_ready (h : s.showable = true) : (s.modSsw fun w => { w with ready := true }).showable = true := by
  simp only [State.showable, Bool.and_eq_true] at h ⊢
  exact ⟨h.1, rfl⟩

theorem takeReported_picture : KeepsPicture s (takeReported s) :=
  .ite (fun _ => .trans (modSsw_picture _ ⟨rfl, rfl, rfl, rfl⟩ fun h hm => showable_ready (h hm)) releasePoint_picture)
    fun _ => .refl s

theorem takeWarp_picture (w : Warp) : KeepsPicture s (takeWarp w s) :=
  .trans (.of_keeps (modGeo_keeps _ s)) <| .trans (.of_keeps (raise_keeps _ _)) takeReported_picture

theorem recompute_picture (c : WarpCause) : KeepsPicture s (recompute c s) := by
  unfold recompute
  split
  · exact .refl s
  · exact .ite (fun _ => .of_keeps (modGeo_keeps _ s)) fun _ => takeWarp_picture _

theorem takePending_picture : KeepsPicture s (takePending s) := by
  unfold takePending
  split
  · exact .refl s
  · exact takeWarp_picture _

theorem applyPreset_picture (c : WarpCause) : KeepsPicture s (applyPreset c s) := by
  unfold applyPreset
  split
  · exact .refl s
  · exact .trans (.of_keeps (modGeo_keeps _ s)) (recompute_picture c)

theorem leftLocked_picture (b : Bool) : KeepsPicture s (leftLocked b s) := .ite (fun _ => takePending_picture) fun _ => .refl s

theorem geoFrame_picture : KeepsPicture s (geoFrame s) := .ite (fun _ => takePending_picture) fun _ => .refl s

/-! ### Trainings and scans (R62 to R67, R74 to R77) -/

/-- A training opens its record, whatever stood before. -/
theorem beginTraining_picture (k : SwitchKind) (o : Origin) (i : Fin 6) : KeepsPicture s (beginTraining k o i s) where
  phase := congrArg Sto.phase (beginTraining_keeps k o i s .store (by decide))
  laws _ := by
    rw [beginTraining_leaves]
    exact ⟨rfl, nofun, by simp [recordFits, State.selPath, trainingSsw, training]⟩

theorem endScan_picture : KeepsPicture s (endScan s) := modSsw_picture _ ⟨rfl, rfl, rfl, rfl⟩ id

theorem sswSelect_picture (o : Origin) (i : Fin 6) : KeepsPicture s (sswSelect o i s).1 := by
  unfold sswSelect
  split
  · exact .refl s
  split
  · exact .refl s
  · exact endScan_picture.trans <| (beginTraining_picture _ _ _).trans (applyPreset_picture _)

theorem retrainSelected_picture (o : Origin) (i : Fin 6) : KeepsPicture s (retrainSelected o i s) :=
  (beginTraining_picture _ _ _).trans (leftLocked_picture _)

theorem firstPowerOn_picture : KeepsPicture s (firstPowerOn s) := by
  unfold firstPowerOn
  split
  · exact .refl s
  · exact .ite (fun _ => .refl s) fun _ => retrainSelected_picture _ _

theorem scanSelect_picture (i : Fin 6) : KeepsPicture s (scanSelect i s) :=
  (beginTraining_picture _ _ _).trans (applyPreset_picture _)

theorem scanTry_picture (l : List (Fin 6)) : ∀ s, KeepsPicture s (scanTry l s) := by
  induction l with
  | nil =>
    intro s
    unfold scanTry scanReturn
    split
    · exact endScan_picture
    · exact .trans (modSsw_picture _ ⟨rfl, rfl, rfl, rfl⟩ id) (scanSelect_picture _)
  | cons i l ih =>
    exact fun s => .trans (modSsw_picture _ ⟨rfl, rfl, rfl, rfl⟩ id) (.ite (fun _ => scanSelect_picture i) fun _ => ih _)

theorem startScan_picture : KeepsPicture s (startScan s) := by
  unfold startScan
  split
  · exact .refl s
  split
  · exact .refl s
  · exact .trans (modSsw_picture _ ⟨rfl, rfl, rfl, rfl⟩ id) (scanTry_picture _ _)

theorem afterOutcome_picture (r : Option SwitchRecord) (p : PathState) : KeepsPicture s (afterOutcome r p s) := by
  unfold afterOutcome scanOutcome
  refine .ite (fun _ => ?_) fun _ => .ite (fun _ => startScan_picture) fun _ => .refl s
  split
  · exact .refl s
  · exact scanTry_picture _ s
  · exact .ite (fun _ => endScan_picture.trans startScan_picture) fun _ => endScan_picture

/-! ### Outcomes, locks and losses (R68 to R73) -/

/-- The path reaches a state without a training, and the record ends. -/
theorem reach_picture {p : PathState} (hl : p ≠ .locked) (ht : training p = false) : KeepsPicture s (reach p s) where
  phase := congrArg Sto.phase (reach_keeps p s .store (by decide))
  laws hs := by
    obtain ⟨i, hi⟩ := Option.isSome_iff_exists.mp hs.chosen
    rw [reach_eq hi hl]
    refine (afterOutcome_picture _ _).laws ⟨hs.chosen, nofun, ?_⟩
    simp [recordFits, State.selPath, reached, outcomeSsw, hi, ht]

/-- A lock ends the record and a scan, with MUTE asserted until the warp is taken (R68, R80). -/
theorem lockAt_fields (k : Fin 24) {i : Fin 6} (h : s.ssw.selected = some i) :
    (lockAt k s).ssw = darkened (scanless (outcomeSsw s.ssw)) ∧
    (lockAt k s).inm.path = s.inm.path.set i .locked ∧ (lockAt k s).sto.phase = s.sto.phase := by
  unfold lockAt
  rw [h]
  dsimp only
  rw [recordTiming_eq, recompute_placed (i := i) _ (by exact h), closeRecord_eq, endScan_eq, raiseSource_eq (i := i) _ (by exact h)]
  refine ⟨rfl, rfl, ?_⟩
  show Sto.phase (ite _ _ _) = _
  split
  · rfl
  · exact dirtied_phase _ _

theorem lockAt_picture (k : Fin 24) : KeepsPicture s (lockAt k s) := by
  cases hi : s.ssw.selected with
  | none =>
    rw [lockAt, hi]
    exact .refl s
  | some i =>
    obtain ⟨hw, hp, hph⟩ := lockAt_fields k hi
    refine ⟨hph, fun hs => ⟨by rw [hw]; exact hs.chosen, by rw [hw]; nofun, ?_⟩⟩
    simp [recordFits, State.selPath, hw, hp, darkened, scanless, outcomeSsw, hi, training]

/-- A loss changes nothing, or it is a loss on the path of a TRAINED selection in LOCKED or UNSUPPORTED (R71). -/
theorem lockLoss_cases (s : State) : lockLoss s = s ∨
    ∃ i, s.onScreen i = true ∧ (s.inm.path[i] = .locked ∨ s.inm.path[i] = .unsupported) := by
  cases hi : s.ssw.selected with
  | none => exact .inl (by rw [lockLoss, hi])
  | some i =>
    by_cases h : s.ssw.trained = true ∧ (s.inm.path[i] = .locked ∨ s.inm.path[i] = .unsupported)
    · exact .inr ⟨i, onScreen_iff.mpr ⟨hi, h.1⟩, h.2⟩
    · refine .inl ?_
      rw [lockLoss, hi]
      exact if_neg (by simpa using h)

/-- A loss opens a RECOVERY of the selected input. -/
theorem lockLoss_picture : KeepsPicture s (lockLoss s) := by
  obtain h | ⟨i, ho, hp⟩ := lockLoss_cases s
  · rw [h]
    exact .refl s
  · obtain ⟨hi, ht⟩ := onScreen_iff.mp ho
    rw [lockLoss_eq ho hp]
    exact ⟨rfl, fun hs => ⟨hs.chosen, nofun, by simp [recordFits, State.selPath, hi, ht, training]⟩⟩

theorem stableResult_picture (e : Option (Fin 24)) : KeepsPicture s (stableResult e s) := by
  obtain h | ⟨k, h⟩ | h := stableResult_cases e s
  · rw [h]
    exact .refl s
  · rw [h]
    exact lockAt_picture k
  · rw [h]
    exact .trans (modMon_picture _) (reach_picture (by decide) rfl)

theorem takeMonitor_picture (e : Option MonitorEvent) : KeepsPicture s (takeMonitor e s) := by
  unfold takeMonitor
  split
  · exact .refl s
  · exact stableResult_picture _
  · exact lockLoss_picture

/-- A FRAME pulse moves the monitor alone. -/
theorem monitorFrame_picture (n : Nat) : KeepsPicture s (monitorFrame n s).1 := by
  have hs (m : Measure) (t : State) : KeepsPicture t (seekFrame m t).1 := by
    unfold seekFrame
    split
    · exact .of_same ⟨rfl, rfl, rfl, rfl⟩
    · exact .of_same ⟨rfl, rfl, rfl, rfl⟩
  have ht (m : Measure) (t : State) : KeepsPicture t (trackFrame m t).1 := by
    unfold trackFrame
    split
    · exact .of_same ⟨rfl, rfl, rfl, rfl⟩
    · exact .of_same ⟨rfl, rfl, rfl, rfl⟩
  have ho : KeepsPicture s (openNext n s) := modMon_picture _
  unfold monitorFrame
  split
  · exact .refl s
  · exact ho
  · exact ho.trans (hs _ _)
  · exact ho.trans (ht _ _)

theorem monitorLine_picture : KeepsPicture s (monitorLine s) := by
  unfold monitorLine
  split
  · exact .refl s
  · exact .refl s
  · exact modMon_picture _

theorem monitorWatchdog_picture : KeepsPicture s (monitorWatchdog s).1 := by
  unfold monitorWatchdog
  split
  · split
    · exact .refl s
    · exact .of_same ⟨rfl, rfl, rfl, rfl⟩
    · exact .of_same ⟨rfl, rfl, rfl, rfl⟩
  · exact .refl s

theorem framePulseAll_picture (n : Nat) (b : Bool) : KeepsPicture s (framePulseAll n b s) := by
  have hi (t : State) : KeepsPicture t (inmFrame n t) := (monitorFrame_picture n).trans (takeMonitor_picture _)
  exact .trans (.ite (fun _ => geoFrame_picture.trans (hi _)) fun _ => (hi s).trans geoFrame_picture) releasePoint_picture

theorem watchdogAll_picture : KeepsPicture s (watchdogAll s) := monitorWatchdog_picture.trans (takeMonitor_picture _)

theorem switchTimeout_picture : KeepsPicture s (switchTimeout s) := by
  unfold switchTimeout
  split
  next i _ _ _ =>
    refine .ite (fun _ => ?_) fun _ => .refl s
    cases s.inm.deb[i].presence
    · exact reach_picture (by decide) rfl
    · exact reach_picture (by decide) rfl
  next => exact .refl s

/-! ### Presence and the enabled flag (R48, R50, R70, R74, R77) -/

/-- An input that is no TRAINED selection takes its unselected path state. -/
theorem restPathOf_picture {i : Fin 6} (h : s.onScreen i = false) : KeepsPicture s (restPathOf i s) := by
  refine .of_paths (restPathOf_keeps i s .ssw (by decide)) (congrArg Lsq.state (restPathOf_keeps i s .lsq (by decide)))
    (congrArg Sto.phase (restPathOf_keeps i s .store (by decide))) fun ht => ?_
  have hi : s.ssw.selected ≠ some i := fun hi => by simp [State.onScreen, hi, ht] at h
  rw [restPathOf_eq]
  cases hj : s.ssw.selected with
  | none => simp [State.selPath, hj]
  | some j =>
    have hij : ¬ i = j := fun e => hi (e ▸ hj)
    simp [State.selPath, hj, hij, Fin.val_inj]

theorem risesElsewhere_picture (i : Fin 6) : KeepsPicture s (risesElsewhere i s) := by
  unfold risesElsewhere
  split
  · exact .ite (fun _ => .refl s) fun _ => modSsw_picture _ ⟨rfl, rfl, rfl, rfl⟩ id
  · exact .ite (fun _ => .refl s) fun _ => modSsw_picture _ ⟨rfl, rfl, rfl, rfl⟩ id
  · exact .ite (fun _ => startScan_picture) fun _ => .refl s

theorem sswRise_picture (i : Fin 6) : KeepsPicture s (sswRise i s) :=
  .ite (fun _ => .ite (fun _ => retrainSelected_picture _ _) fun _ => .refl s) fun _ =>
    .ite (fun _ => risesElsewhere_picture i) fun _ => .refl s

theorem setPresence_same (i : Fin 6) (b : Bool) : SamePicture s (setPresence i b s) := ⟨rfl, rfl, rfl, rfl⟩

theorem presenceChange_picture (i : Fin 6) (b : Bool) : KeepsPicture s (presenceChange i b s) := by
  refine .trans (.of_same (setPresence_same i b)) (.ite (fun _ => ?_) fun h => ?_)
  · exact .ite (fun _ => sswRise_picture i) fun _ => .ite (fun _ => .refl _) fun _ => reach_picture (by decide) rfl
  · have hr := restPathOf_picture (Bool.eq_false_iff.mpr h)
    exact .ite (fun _ => hr.trans (sswRise_picture i)) fun _ => hr

theorem sourcePress_picture : KeepsPicture s (sourcePress s) := by
  unfold sourcePress
  split
  · exact .refl s
  · exact sswSelect_picture _ _

end

end Sys2Proof.Machine
end

section
/-! PROOFS. What the lamp, the sessions and the calendar keep of the picture's laws (O9). -/

namespace Sys2Proof.Machine

set_option Elab.async false

section

variable {s : State}

/-! ### A change of lamp state (R23, R80) -/

/-- Out of the lit states MUTE is asserted; in ON and OFF_PENDING it stays released only with a picture to show. -/
theorem lampChange_picture (n : LampState) (c : LampCause) : KeepsPicture s (lampChange n c s) := by
  cases h : litState n with
  | false =>
    rw [lampChange_dark n c s h]
    refine ⟨?_, fun hs => ⟨hs.chosen, nofun, hs.record⟩⟩
    dsimp only
    split
    · exact dirtied_phase _ _
    · rfl
  | true =>
    rw [lampChange_lit n c s h]
    refine ⟨rfl, fun hs => ⟨hs.chosen, fun hm => ?_, hs.record⟩⟩
    simp only [Bool.or_eq_false_iff, Bool.not_eq_false', decide_eq_false_iff_not] at hm
    obtain ⟨-, hw, hp⟩ := hm
    have hn : (n == .on || n == .offPending) = true := by cases n <;> simp_all [litState]
    rw [showable_eq]
    exact (Bool.and_eq_true _ _).mpr ⟨hn, hp⟩

/-- LSQ changes, but not its state. -/
theorem modLsq_picture (f : Lsq → Lsq) (h : (f s.lsq).state = s.lsq.state) : KeepsPicture s (s.modLsq f) :=
  .of_same ⟨rfl, rfl, h, rfl⟩

theorem goCooling_picture (c : LampCause) : KeepsPicture s (goCooling c s) :=
  (modLsq_picture _ rfl).trans <| .trans (modLsq_picture _ rfl) (lampChange_picture _ _)

theorem goFaultCooling_picture : KeepsPicture s (goFaultCooling s) :=
  (modLsq_picture _ rfl).trans <| .trans (modLsq_picture _ rfl) (lampChange_picture _ _)

theorem goWarmup_picture (c : LampCause) : KeepsPicture s (goWarmup c s) :=
  (modLsq_picture _ rfl).trans <| .trans (modLsq_picture _ rfl) (lampChange_picture _ _)

/-! ### Holds, faults and strikes -/

theorem endHold_picture : KeepsPicture s (endHold s) := by
  rw [endHold_eq]
  exact .of_same ⟨rfl, rfl, rfl, rfl⟩

theorem dropHold_picture (c : DropCause) : KeepsPicture s (dropHold c s) := by
  rw [dropHold_eq]
  exact .of_same ⟨rfl, rfl, rfl, rfl⟩

theorem hold_picture (o : Origin) (r : HeldReason) : KeepsPicture s (hold o r s) := by
  rw [hold_eq]
  exact .of_same ⟨rfl, rfl, rfl, rfl⟩

theorem recordFault_picture (k : FaultKind) : KeepsPicture s (recordFault k s) := by
  rw [recordFault_eq]
  refine .of_same ⟨rfl, rfl, rfl, ?_⟩
  dsimp only
  split
  · rfl
  · exact dirtied_phase _ _

theorem chargeStrike_picture : KeepsPicture s (chargeStrike s) := .trans (.of_keeps (evaluated_keeps _ s)) (markDirty_picture _)

theorem firstAttempt_picture (o : Origin) : KeepsPicture s (firstAttempt o s) :=
  (modLsq_picture _ rfl).trans <| (modLsq_picture _ rfl).trans <| (lampChange_picture _ _).trans chargeStrike_picture

theorem nextAttempt_picture : KeepsPicture s (nextAttempt s) :=
  (modLsq_picture _ rfl).trans <| chargeStrike_picture.trans (.of_keeps (raise_keeps _ _))

/-! ### Power requests (R6 to R12) -/

theorem ballastAtPowerOn_picture : KeepsPicture s (ballastAtPowerOn s) :=
  (recordFault_picture _).trans <| (dropHold_picture _).trans (lampChange_picture _ _)

theorem powerOnInOff_picture (o : Origin) : KeepsPicture s (powerOnInOff o s).1 := by
  unfold powerOnInOff
  split_ifs
  · exact .refl s
  · exact ballastAtPowerOn_picture
  · exact endHold_picture.trans (goWarmup_picture .request)
  · exact hold_picture o .window
  · exact endHold_picture.trans (firstAttempt_picture o)

theorem lsqPowerOn_picture (o : Origin) : KeepsPicture s (lsqPowerOn o s).1 := by
  unfold lsqPowerOn
  split
  · exact powerOnInOff_picture o
  · exact .refl s
  · exact .refl s
  · exact .refl s
  · exact lampChange_picture .on .request
  · exact hold_picture o s.coolingReason
  · exact .refl s
  · exact .refl s

theorem takePowerOn_picture (o : Origin) : KeepsPicture s (takePowerOn o s).1 := by
  have h := lsqPowerOn_picture o (s := s)
  unfold takePowerOn
  split
  next heq => rwa [heq] at h
  next heq =>
    rw [heq] at h
    exact h.trans firstPowerOn_picture

theorem stopNosig_picture : KeepsPicture s (stopNosig s) := modSsw_picture _ ⟨rfl, rfl, rfl, rfl⟩ id

/-- A POWER_OFF ends the user mute, which no condition of R80 stands in the way of. -/
theorem sswPowerOff_picture : KeepsPicture s (sswPowerOff s) :=
  stopNosig_picture.trans (modSsw_picture _ ⟨rfl, rfl, rfl, rfl⟩ fun h hm => showable_unmuted (h hm))

theorem takePowerOff_picture : KeepsPicture s (takePowerOff s).1 := by
  have hlit : KeepsPicture s (if s.settings.minOn ≤ s.lsq.litTime then (goCooling .request s, Answer.done)
      else (lampChange .offPending .request (s.modLsq fun q => { q with warmupTimer := none }), .accepted)).1 := by
    split
    · exact goCooling_picture .request
    · exact (modLsq_picture _ rfl).trans (lampChange_picture .offPending .request)
  refine .trans ?_ sswPowerOff_picture
  unfold lsqPowerOff
  cases s.lsq.state
  case off | cooling => exact endHold_picture
  case striking => exact goCooling_picture _
  case warmup | on => exact hlit
  case offPending | faultCooling | fault => exact .refl s

/-! ### Lines and timers -/

theorem releaseHeld_picture : KeepsPicture s (releaseHeld s) := by
  unfold releaseHeld
  split
  · exact .refl s
  split_ifs
  · exact dropHold_picture _
  · exact (recordFault_picture _).trans <| (lampChange_picture _ _).trans (dropHold_picture _)
  · exact endHold_picture.trans (goWarmup_picture _)
  · exact (modLsq_picture _ rfl).trans (.of_keeps (raise_keeps _ _))
  · exact endHold_picture.trans (firstAttempt_picture _)

theorem testHold_picture : KeepsPicture s (testHold s) := .ite (fun _ => releaseHeld_picture) fun _ => .refl s

theorem minOnTest_picture (c : LampCause) : KeepsPicture s (minOnTest c s) :=
  .ite (fun _ => goCooling_picture c) fun _ => .refl s

theorem litRises_picture : KeepsPicture s (litRises s) :=
  .ite (fun _ => (modLsq_picture _ rfl).trans (goWarmup_picture _)) fun _ => modLsq_picture _ rfl

theorem litFalls_picture : KeepsPicture s (litFalls s) :=
  .ite (fun _ => (modLsq_picture _ rfl).trans <| (recordFault_picture _).trans goFaultCooling_picture) fun _ =>
    modLsq_picture _ rfl

theorem bfaultRises_picture : KeepsPicture s (bfaultRises s) := by
  have hr := recordFault_picture .ballast (s := s)
  unfold bfaultRises
  cases s.lsq.state
  case striking | warmup | on | offPending => exact hr.trans goFaultCooling_picture
  case off | cooling => exact hr.trans <| (lampChange_picture _ _).trans (dropHold_picture _)
  case faultCooling | fault => exact hr

theorem attemptExpires_picture : KeepsPicture s (attemptExpires s) := by
  have h : KeepsPicture s (countFailed (s.modLsq fun q => { q with attemptTimer := none })) :=
    (modLsq_picture _ rfl).trans (.of_keeps (countFailed_keeps _))
  exact .ite (fun _ => h.trans (modLsq_picture _ rfl)) fun _ => h.trans <| (recordFault_picture _).trans goFaultCooling_picture

theorem gapExpires_picture : KeepsPicture s (gapExpires s) :=
  .ite (fun _ => (goCooling_picture _).trans (hold_picture _ _)) fun _ =>
    .ite (fun _ => goWarmup_picture _) fun _ => nextAttempt_picture

theorem coolExpires_picture : KeepsPicture s (coolExpires s) := by
  have h : KeepsPicture s (s.modLsq fun q => { q with coolTimer := none }) := modLsq_picture _ rfl
  unfold coolExpires
  split
  · exact h.trans <| (lampChange_picture _ _).trans releaseHeld_picture
  · exact h.trans (lampChange_picture _ _)
  · exact h

theorem autoOff_picture : KeepsPicture s (autoOff s) := .ite (fun _ => takePowerOff_picture) fun _ => .refl s

theorem nosigDim_picture : KeepsPicture s (nosigDim s) :=
  .ite (fun _ => modSsw_picture _ ⟨rfl, rfl, rfl, rfl⟩ id) fun _ => .refl s

theorem dueTest_picture (x : DueTest) : KeepsPicture s (dueTest x s) := by
  unfold dueTest atZero
  cases x
  case attempt => exact .ite (fun _ => attemptExpires_picture) fun _ => .refl s
  case retryGap => exact .ite (fun _ => gapExpires_picture) fun _ => .refl s
  case warmup => exact .ite (fun _ => (modLsq_picture _ rfl).trans (lampChange_picture _ _)) fun _ => .refl s
  case cool => exact .ite (fun _ => coolExpires_picture) fun _ => .refl s
  case minOn => exact minOnTest_picture _
  case holdRelease => exact testHold_picture
  case nosigDim => exact nosigDim_picture
  case nosigOff =>
    exact .ite (fun _ => (modSsw_picture _ ⟨rfl, rfl, rfl, rfl⟩ id).trans autoOff_picture) fun _ => .refl s

/-- The switch timer counts on, and runs as long as it did. -/
theorem sswSecond_picture : KeepsPicture s (sswSecond s) := by
  unfold sswSecond
  exact modSsw_picture _ ⟨rfl, rfl, rfl, Option.isSome_map⟩ id

theorem lsqSecond_picture : KeepsPicture s (lsqSecond s) := modLsq_picture _ rfl

theorem dueTests_picture (l : List DueTest) : ∀ s, KeepsPicture s (l.foldl (fun s x => dueTest x s) s) := by
  induction l with
  | nil => exact .refl
  | cons x l ih => exact fun s => (dueTest_picture x).trans (ih _)

theorem litSecond_picture : KeepsPicture s (litSecond s) := by
  have hc (t : State) (f : Nat → Nat) : KeepsPicture t (t.modSinceCommit f) := .of_same ⟨rfl, rfl, rfl, rfl⟩
  unfold litSecond
  dsimp only
  exact .trans (.of_keeps (evaluated_keeps _ s)) <| (hc _ _).trans (markIf_picture _ _)

theorem llcSecond_picture : KeepsPicture s (llcSecond s) := .ite (fun _ => litSecond_picture) fun _ => .refl s

theorem secondTaken_picture (l : List DueTest) : KeepsPicture s (secondTaken l s) :=
  lsqSecond_picture.trans <| sswSecond_picture.trans <| (dueTests_picture l _).trans llcSecond_picture

/-! ### Sessions -/

theorem closeSession_picture (c : CloseReason) (n : Option Entry) : KeepsPicture s (closeSession c n s) := by
  unfold closeSession
  split
  · exact .refl s
  · have h (l : Option Level) : KeepsPicture s (applyPreset .session (sessionLevel l true s)) :=
      .trans (.of_keeps (sessionLevel_keeps _ _ s)) (applyPreset_picture _)
    have ha (f : ActionFate) (t : State) : KeepsPicture t (endAction f t) :=
      .ite (fun _ => takePowerOff_picture) fun _ => .refl t
    have hd (r : Session) (f : ActionFate) (b : Bool) (t : State) : KeepsPicture t (endDeferral r f b t) :=
      .ite (fun _ => takePowerOff_picture) fun _ => .refl t
    dsimp only
    exact (h _).trans <| (hd _ _ _ _).trans <| (ha _ _).trans <|
      .trans (.of_keeps (modSes_keeps _ _)) (.of_keeps (raise_keeps _ _))

theorem issueSelect_picture (x : Option (Fin 6)) : KeepsPicture s (issueSelect x s) := by
  unfold issueSelect
  split
  · exact .refl s
  · exact (sswSelect_picture _ _).trans (.of_keeps (modSes_keeps _ _))

theorem openScheduled_picture (w : SessionWay) (f : Found) (d : Date) (b c : Bool) :
    KeepsPicture s (openScheduled w f d b c s) := by
  have ha (t : State) : KeepsPicture t (startActions f.entry b t).1 := by
    unfold startActions
    split
    · exact .refl t
    dsimp only
    split
    · exact (issueSelect_picture _).trans (takePowerOn_picture _)
    · exact issueSelect_picture _
  refine .trans (.of_keeps (modSes_keeps _ s)) <| .trans (.ite (fun _ => ?_) fun _ => .refl _) <|
    (ha _).trans (.of_keeps (raise_keeps _ _))
  exact .of_keeps (sessionLevel_keeps _ _ _)

theorem lateCheck_picture (c : Option (Fin 48)) (b : Bool) : KeepsPicture s (lateCheck c b s) := by
  unfold lateCheck
  split
  · exact .refl s
  · exact openScheduled_picture _ _ _ _ _

theorem closeThenLate_picture (r : CloseReason) : KeepsPicture s (closeThenLate r s) := by
  unfold closeThenLate
  split
  · exact .refl s
  · exact (closeSession_picture _ _).trans (lateCheck_picture _ _)

theorem userPowerOn_picture (o : Origin) : KeepsPicture s (userPowerOn o s).1 := by
  have h := takePowerOn_picture o (s := s)
  unfold userPowerOn
  dsimp only
  split
  · exact h
  · exact h.trans (.ite (fun _ => .of_keeps (openManual_keeps _ _)) fun _ => .refl _)

theorem userPowerOff_picture : KeepsPicture s (userPowerOff s).1 := takePowerOff_picture.trans (closeThenLate_picture _)

theorem powerPress_picture : KeepsPicture s (powerPress s) := by
  have hc (b : Bool) (t : State) : KeepsPicture t (setConfirm b t) := .of_keeps (setConfirm_keeps b t)
  unfold powerPress powerPressAllowed
  split_ifs
  · exact (hc _ s).trans userPowerOff_picture
  · exact (hc _ s).trans (.of_keeps (raise_keeps _ _))
  · exact userPowerOn_picture _
  · exact .trans (.of_keeps (raise_keeps _ s)) (hc _ _)

/-! ### The calendar's events -/

theorem handover_picture (w : SessionWay) (f : Found) (d : Date) : KeepsPicture s (handover w f d s) :=
  (closeSession_picture _ _).trans (openScheduled_picture _ _ _ _ _)

theorem minuteFinding_picture (d : Date) (m : Nat) (f : Option Found) : KeepsPicture s (minuteFinding d m f s) := by
  unfold minuteFinding
  split
  · exact .refl s
  · exact openScheduled_picture _ _ _ _ _
  · exact handover_picture _ _ _
  · refine .ite (fun _ => ?_) fun _ => .refl s
    split
    · exact handover_picture _ _ _
    · exact closeSession_picture _ _

theorem warnTest_picture (d : Date) (m : Nat) : KeepsPicture s (warnTest d m s) := by
  unfold warnTest
  split
  · exact .refl s
  · exact .ite (fun _ => .trans (.of_keeps (modSes_keeps _ s)) (.of_keeps (raise_keeps _ _))) fun _ => .refl s

theorem minuteEvent_picture (d : Date) (m : Nat) : KeepsPicture s (minuteEvent d m s) :=
  (minuteFinding_picture _ _ _).trans (warnTest_picture _ _)

theorem purge_picture (d : Date) : KeepsPicture s (purge d s) :=
  .ite (fun _ => .trans (.of_keeps (modTimetable_keeps _ s)) (markDirty_picture _)) fun _ => .refl s

/-- CAL counts, and a rollover that clears the flag is told. -/
theorem calCounted_picture : KeepsPicture s (if s.cal.valid && !(s.modCal Cal.next).cal.valid
    then raiseTimeInvalid (s.modCal Cal.next) else s.modCal Cal.next) :=
  .ite (fun _ => .trans (.of_keeps (modCal_keeps _ s)) (.of_keeps (raise_keeps _ _))) fun _ => .of_keeps (modCal_keeps _ s)

theorem calendarTick_picture : KeepsPicture s (calendarTick s) := by
  have h (d : Date) (t : State) : KeepsPicture t (calendarEvents d t) :=
    .ite (fun _ => (minuteEvent_picture _ _).trans <| (purge_picture _).trans (minuteEvent_picture _ _)) fun _ =>
      .ite (fun _ => minuteEvent_picture _ _) fun _ => .refl t
  exact calCounted_picture.trans (h _ _)

theorem timeSetRequest_picture (d : RawDate) (t : RawTime) : KeepsPicture s (timeSetRequest d t s).1 := by
  unfold timeSetRequest timeSetReport
  split
  · refine .trans (.of_keeps (modCal_keeps (fun c => { c with date := dateOf d, time := timeOf t, valid := true }) s)) ?_
    split
    · exact lateCheck_picture _ _
    · dsimp only
      exact .trans (.of_keeps (modSes_keeps _ _)) (warnTest_picture _ _)
  · exact .refl s

end

end Sys2Proof.Machine
end

section
/-! PROOFS. What the requests of the owning blocks keep of the picture's laws (O9). -/

namespace Sys2Proof.Machine

set_option Elab.async false

section

variable {s : State}

/-! ### The lamp's requests and the settings -/

theorem modSettings_picture (f : Settings → Settings) : KeepsPicture s (s.modSettings f) := .of_keeps (modSettings_keeps f s)

theorem lampReplaceRequest_picture : KeepsPicture s (lampReplaceRequest s).1 := by
  have h : KeepsPicture s (s.modLamp (replaceLamp s.cal)) := .of_keeps (modLamp_keeps _ s)
  unfold lampReplaceRequest
  split
  · exact h.trans (markDirty_picture .lamp)
  · exact h.trans <| (lampChange_picture .off .clear).trans (markDirty_picture .lamp)
  · exact .refl s

theorem lampLimitsRequest_picture (w : RawLimits) : KeepsPicture s (lampLimitsRequest w s).1 := by
  unfold lampLimitsRequest
  split
  · exact .refl s
  · dsimp only
    exact .trans (.of_keeps (evaluated_keeps _ s)) (markDirty_picture _)

theorem faultClearRequest_picture : KeepsPicture s (faultClearRequest s).1 := by
  have h : KeepsPicture s (markDirty .lamp (s.modLamp fun r => { r with fault := none })) :=
    .trans (.of_keeps (modLamp_keeps _ s)) (markDirty_picture _)
  unfold faultClearRequest leaveFault
  split
  · exact .refl s
  dsimp only
  split
  · exact h.trans (lampChange_picture _ _)
  · exact h.trans (lampChange_picture _ _)
  · exact h

theorem lampModeRequest_picture (m : Byte) : KeepsPicture s (lampModeRequest m s).1 := by
  unfold lampModeRequest
  split
  · exact .refl s
  · dsimp only
    exact (modSettings_picture _).trans (markIf_picture _ _)

theorem lampCeilingRequest_picture (l : Byte) : KeepsPicture s (lampCeilingRequest l s).1 := by
  unfold lampCeilingRequest
  split
  · exact .refl s
  · dsimp only
    exact (modSettings_picture _).trans (markIf_picture _ _)

theorem subscribeRequest_picture (p : PortId) (m : BitVec 24) : KeepsPicture s (subscribeRequest p m s).1 := by
  unfold subscribeRequest
  split
  · dsimp only
    exact (modSettings_picture _).trans (markDirty_picture _)
  · exact .refl s

/-- The values written, and what follows from them at once (R3, R4, R9, R12, R77, R82, R83). -/
theorem guardSetRequest_picture (g : RawGuard) : KeepsPicture s (guardSetRequest g s).1 := by
  have hw : KeepsPicture s (guardWrite g s) := by
    unfold guardWrite
    dsimp only
    exact (modSettings_picture _).trans <| .trans (.of_keeps (modLamp_keeps _ _)) <| .trans (.of_keeps (modInputs_keeps _ _)) <|
      (markIf_picture _ _).trans <| (markIf_picture _ _).trans (markIf_picture _ _)
  have hd (t : State) : KeepsPicture t (nosigDimWritten t) :=
    .ite (fun _ => modSsw_picture _ ⟨rfl, rfl, rfl, rfl⟩ id) fun _ => nosigDim_picture
  have ha (t : State) : KeepsPicture t (autoscanWritten t) := .ite (fun _ => .refl t) fun _ => endScan_picture
  have hif (b : Bool) (f : State → State) (hf : ∀ t, KeepsPicture t (f t)) (t : State) : KeepsPicture t (doIf b f t) :=
    .ite (fun _ => hf t) fun _ => .refl t
  unfold guardSetRequest guardEffects
  split
  · exact .refl s
  · dsimp only
    exact hw.trans <| (hif _ _ (fun _ => modLsq_picture _ rfl) _).trans <| (hif _ _ (fun _ => minOnTest_picture _) _).trans <|
      (hif _ _ (fun _ => testHold_picture) _).trans <| (hif _ _ hd _).trans <| (hif _ _ ha _).trans <|
      hif _ _ (fun _ => autoOff_picture) _

/-! ### The lockout and the sessions -/

theorem lkcChange_picture (c : LockCause) (f : State → State) (h : KeepsPicture s (f s)) : KeepsPicture s (lkcChange c f s) :=
  .ite (fun _ => h) fun _ => h.trans (.of_keeps (raise_keeps _ _))

theorem lockoutBaseRequest_picture (l : Byte) : KeepsPicture s (lockoutBaseRequest l s).1 := by
  unfold lockoutBaseRequest
  split
  · exact .refl s
  next l _ =>
    exact lkcChange_picture _ (fun s => markDirty .settings (s.modSettings fun g => { g with baseLevel := l }))
      ((modSettings_picture _).trans (markDirty_picture _))

theorem presenterHoldRequest_picture (a : Byte) : KeepsPicture s (presenterHoldRequest a s).1 := by
  have h (b : Bool) : KeepsPicture s (lkcChange .hold (setPresenter b) s) :=
    lkcChange_picture _ _ (.of_keeps (modLkc_keeps _ s))
  unfold presenterHoldRequest presenterSet presenterClear
  split_ifs
  · exact h _
  · exact .refl s
  · exact h _
  · exact .refl s

theorem serviceRequest_picture (a : Byte) : KeepsPicture s (serviceRequest a s).1 := by
  have h (b : Bool) : KeepsPicture s (lkcChange .service (setService b) s) :=
    lkcChange_picture _ _ (.of_keeps (modLkc_keeps _ s))
  unfold serviceRequest serviceIn serviceOut
  split_ifs
  · exact .refl s
  · exact h _
  · exact .refl s
  · exact h _
  · exact .refl s

theorem extendRequest_picture : KeepsPicture s (extendRequest s).1 := by
  unfold extendRequest
  split
  · exact .refl s
  split_ifs
  · exact .refl s
  · exact .refl s
  · exact .of_keeps (modSes_keeps _ s)

theorem endSessionRequest_picture : KeepsPicture s (endSessionRequest s).1 := by
  unfold endSessionRequest
  split
  · exact closeThenLate_picture .request
  · exact .refl s

/-! ### The timetable -/

theorem modTimetable_picture (f : TimetableRecord → TimetableRecord) :
    KeepsPicture s (markDirty .timetable (s.modTimetable f)) :=
  .trans (.of_keeps (modTimetable_keeps f s)) (markDirty_picture _)

theorem placeEntry_picture (i : Fin 48) (e : Entry) (b : Bool) : KeepsPicture s (placeEntry i e b s).1 := by
  unfold placeEntry
  split
  · exact .refl s
  · exact modTimetable_picture _

theorem entryWriteRequest_picture (w : RawEntryWrite) : KeepsPicture s (entryWriteRequest w s).1 := by
  unfold entryWriteRequest
  split
  · exact .refl s
  split
  · exact placeEntry_picture _ _ _
  · split
    · exact .refl s
    · exact placeEntry_picture _ _ _
  · exact .refl s

theorem entryDeleteRequest_picture (i : Byte) : KeepsPicture s (entryDeleteRequest i s).1 := by
  unfold entryDeleteRequest
  split
  · exact .refl s
  split
  · exact modTimetable_picture _
  · exact .refl s

theorem holidayAddRequest_picture (d : RawDate) : KeepsPicture s (holidayAddRequest d s).1 := by
  unfold holidayAddRequest
  dsimp only
  split_ifs
  · exact .refl s
  · exact .refl s
  · exact .refl s
  · exact modTimetable_picture _

theorem holidayRemoveRequest_picture (d : RawDate) : KeepsPicture s (holidayRemoveRequest d s).1 := by
  unfold holidayRemoveRequest
  dsimp only
  split_ifs
  · exact .refl s
  · exact modTimetable_picture _
  · exact .refl s

/-! ### The inputs, the timings and the geometry -/

theorem modInputs_picture (f : InputsRecord → InputsRecord) : KeepsPicture s (markDirty .inputs (s.modInputs f)) :=
  .trans (.of_keeps (modInputs_keeps f s)) (markDirty_picture _)

theorem selectRequest_picture (o : Origin) (i : Byte) : KeepsPicture s (selectRequest o i s).1 := by
  unfold selectRequest
  split
  · exact .refl s
  · exact sswSelect_picture _ _

theorem retrainRequest_picture (o : Origin) (i : Byte) : KeepsPicture s (retrainRequest o i s).1 := by
  unfold retrainRequest
  split
  · exact .refl s
  split
  · exact endScan_picture.trans (retrainSelected_picture o _)
  · exact .refl s

/-- Where a condition of R80 is gone MUTE is asserted. -/
theorem muteCheck_mutes (h : (muteCheck s).ssw.mute = false) : (muteCheck s).showable = true := by
  rw [muteCheck_eq] at h ⊢
  simp only [Bool.or_eq_false_iff, Bool.not_eq_false'] at h
  exact h.2

/-- A MUTE_SET changes the user mute, and MUTE with it (R79, R80). -/
theorem muteSetRequest_picture (v : Byte) : KeepsPicture s (muteSetRequest v s).1 := by
  unfold muteSetRequest
  split
  · exact .refl s
  · refine ⟨by dsimp only; rw [muteCheck_eq]; rfl, fun hs => ⟨?_, muteCheck_mutes, ?_⟩⟩
    · dsimp only
      rw [muteCheck_eq]
      exact hs.chosen
    · dsimp only
      rw [muteCheck_eq]
      exact hs.record

theorem keystoneRequest_picture (k : RawKeystone) : KeepsPicture s (keystoneRequest k s).1 := by
  unfold keystoneRequest
  split
  · exact .refl s
  split
  · exact .refl s
  · exact .trans (.of_keeps (modGeo_keeps _ s)) (recompute_picture .keystone)

theorem presetStoreRequest_picture : KeepsPicture s (presetStoreRequest s).1 := by
  unfold presetStoreRequest
  split
  · exact .refl s
  · exact modInputs_picture _

theorem panelSetRequest_picture (w h : Half) : KeepsPicture s (panelSetRequest w h s).1 :=
  (modInputs_picture _).trans (recompute_picture .panel)

theorem geometryWritten_picture (i : Fin 6) (c : RawInputConfig) : KeepsPicture s (geometryWritten i c s) :=
  .ite (fun _ => .ite (fun _ => applyPreset_picture _) fun _ => .ite (fun _ => recompute_picture _) fun _ => .refl s) fun _ =>
    .refl s

theorem enabledWritten_picture (i : Fin 6) (b : Bool) : KeepsPicture s (enabledWritten i b s) := by
  refine .ite (fun _ => .refl s) fun _ => .ite (fun _ => .refl s) fun h => ?_
  have hr := restPathOf_picture (Bool.eq_false_iff.mpr h)
  exact .ite (fun _ => hr.trans (sswRise_picture i)) fun _ => hr

theorem inputConfigRequest_picture (i : Byte) (c : RawInputConfig) : KeepsPicture s (inputConfigRequest i c s).1 := by
  unfold inputConfigRequest
  split
  · exact .refl s
  split
  · exact .refl s
  split
  · exact .refl s
  · exact (modInputs_picture _).trans <| (geometryWritten_picture _ c).trans (enabledWritten_picture _ _)

theorem reclassified_picture (k : Fin 24) (r : Option (Fin 24)) : KeepsPicture s (reclassified k r s) := by
  unfold reclassified
  split
  · exact .refl s
  split
  · exact .ite (fun _ => .ite (fun _ => recompute_picture _) fun _ => .refl s) fun _ => lockAt_picture _
  · exact reach_picture (by decide) rfl
  · exact lockAt_picture _
  · exact .refl s

theorem timingChanged_picture (k : Fin 24) : KeepsPicture s (timingChanged k s) := by
  have h : KeepsPicture s (if s.timings[k].inUse then s else forgetTimings (· == k) s) :=
    .ite (fun _ => .refl s) fun _ => .ite (fun _ => modInputs_picture _) fun _ => .refl s
  unfold timingChanged
  dsimp only
  generalize (if s.timings[k].inUse then s else forgetTimings (· == k) s) = u at h
  refine h.trans (.ite (fun _ => ?_) fun _ => .refl u)
  split
  · exact .refl u
  · exact (modMon_picture _).trans (reclassified_picture _ _)

theorem writeTiming_picture (k : Fin 24) (e : TimingEntry) : KeepsPicture s (writeTiming k e s) := by
  have h : KeepsPicture s (markDirty .timings (s.modTimings fun t => t.set k e)) :=
    .trans (.of_keeps (modTimings_keeps _ s)) (markDirty_picture _)
  exact .ite (fun _ => h.trans (timingChanged_picture k)) fun _ => h

theorem timingWriteRequest_picture (i : Byte) (t : RawTiming) : KeepsPicture s (timingWriteRequest i t s).1 := by
  unfold timingWriteRequest
  split
  · exact writeTiming_picture _ _
  · exact .refl s

theorem timingOutRequest_picture (i : Byte) : KeepsPicture s (timingOutRequest i s).1 := by
  unfold timingOutRequest
  split
  · exact .refl s
  · exact writeTiming_picture _ _

/-! ### Every request -/

theorem ownerAct_picture (p : PortId) (o : Origin) (r : Request) (s : State) : KeepsPicture s (ownerAct p o r s).1 := by
  cases r
  case powerOn => exact userPowerOn_picture o
  case powerOff => exact userPowerOff_picture
  case lampMode m => exact lampModeRequest_picture m
  case select i => exact selectRequest_picture o i
  case retrain i => exact retrainRequest_picture o i
  case muteSet v => exact muteSetRequest_picture v
  case keystone k => exact keystoneRequest_picture k
  case presetStore => exact presetStoreRequest_picture
  case extendEnd => exact extendRequest_picture
  case endSession => exact endSessionRequest_picture
  case timeSet d t => exact timeSetRequest_picture d t
  case entryWrite w => exact entryWriteRequest_picture w
  case entryDelete i => exact entryDeleteRequest_picture i
  case holidayAdd d => exact holidayAddRequest_picture d
  case holidayRemove d => exact holidayRemoveRequest_picture d
  case lampReplace => exact lampReplaceRequest_picture
  case lampLimits w => exact lampLimitsRequest_picture w
  case lampCeiling l => exact lampCeilingRequest_picture l
  case faultClear => exact faultClearRequest_picture
  case inputConfig i c => exact inputConfigRequest_picture i c
  case timingWrite i t => exact timingWriteRequest_picture i t
  case timingOut i => exact timingOutRequest_picture i
  case panelSet w h => exact panelSetRequest_picture w h
  case guardSet g => exact guardSetRequest_picture g
  case subscribe m => exact subscribeRequest_picture p m
  case lockoutBase l => exact lockoutBaseRequest_picture l
  case presenterHold a => exact presenterHoldRequest_picture a
  case service a => exact serviceRequest_picture a
  case noticesRead => exact .of_keeps (modPort_keeps p _ s)
  case historyRead i => exact (historyReadRequest_state i (s := s)).symm ▸ .refl s
  case inputRead i => exact (inputReadRequest_state i (s := s)).symm ▸ .refl s
  case timingRead i => exact (timingReadRequest_state i (s := s)).symm ▸ .refl s
  case entryRead i => exact (entryReadRequest_state i (s := s)).symm ▸ .refl s
  all_goals exact .refl s

end

end Sys2Proof.Machine
end

section
/-! PROOFS. Every step keeps the picture's laws (O9). -/

namespace Sys2Proof.Machine

set_option Elab.async false

section

variable {s t u : State}

/-! ### The ports and what settle begins -/

theorem beginCommit_phase (s : State) : (beginCommit s).sto.phase = s.sto.phase := by
  unfold beginCommit
  split
  · split
    · rfl
    · rfl
  · rfl

theorem settle_same (s : State) : SamePicture s (settle s) where
  ssw := settle_keeps_parts s .ssw (by decide)
  path := congrArg Inm.path (settle_keeps_parts s .inm (by decide))
  lamp := congrArg Lsq.state (settle_keeps_parts s .lsq (by decide))
  phase := by
    have ht (u : UartId) (t : State) : (startTx u t).sto = t.sto := startTx_keeps u t .store (by decide)
    rw [settle, beginCommit_phase, ht, ht]

theorem keptAtPorts_picture : KeptAtPorts KeepsPicture where
  refl := .refl
  trans := .trans
  ports h := .of_keeps h
  settle s := .of_same (settle_same s)
  owner := ownerAct_picture

/-! ### The dial and the axis button -/

theorem dialCounted_picture (n : Int) : KeepsPicture s (dialCounted n s) := by
  have hg (f : Geo → Geo) (t : State) : KeepsPicture t (t.modGeo f) := .of_keeps (modGeo_keeps f t)
  unfold dialCounted dialAllowed dialDenied dialStep raiseDenied
  refine .ite (fun _ => .ite (fun _ => ?_) fun _ => hg _ s) fun _ => .ite (fun _ => hg _ s) fun _ => ?_
  · exact ((hg _ s).trans (hg _ _)).trans (recompute_picture _)
  · exact (hg _ s).trans (.of_keeps (raise_keeps _ _))

theorem handCount_picture (n : Option Int) : KeepsPicture s (handCount n s) := by
  unfold handCount
  split
  · exact .refl s
  · exact .ite (fun _ => dialCounted_picture _) fun _ => .refl s

theorem axisPress_picture : KeepsPicture s (axisPress s) := .of_keeps (axisPress_keeps s)

/-! ### A part that does not run

There the requests wait, and the laws say what they say whatever becomes of the blocks that they do not read. -/

theorem operating_of_ports (h : Keeps [.ports] s t) : t.operating = s.operating := by
  have hl : t.lines = s.lines := h .lines (by decide)
  have hp : t.sto = s.sto := h .store (by decide)
  simp [State.operating, State.powered, hl, hp]

theorem portOpen_idle (h : s.operating = false) (p : PortId) : s.portOpen p = false := by simp [State.portOpen, h]

theorem takeAll_idle (h : s.operating = false) (p : PortId) : takeAll p s = s := by simp [takeAll, portOpen_idle h]

theorem handCount_idle (h : s.operating = false) (n : Option Int) : handCount n s = s := by
  cases n with
  | none => rfl
  | some n => exact if_neg (by simp [h])

theorem moreBytes_idle (h : s.operating = false) (l : List Byte) : Keeps [.ports] s (moreBytes l s) := by
  unfold moreBytes writeBytes
  split
  · rw [if_neg (by simp [h])]
    exact modPtc_keeps _ s
  · exact modPtc_keeps _ s
  · exact modPtc_keeps _ s
  · exact modPtc_keeps _ s

theorem startRead_keeps (s : State) : Keeps [.ports] s (startRead s) := by
  unfold startRead
  split
  · exact Keeps.ite (modPtc_keeps _ s) (modPtc_keeps _ s)
  · exact modPtc_keeps _ s

theorem sdiBytes_idle (h : s.operating = false) (l : List Byte) : Keeps [.ports] s (sdiBytes l s) := by
  have hm {t : State} (ht : Keeps [.ports] s t) (l : List Byte) : Keeps [.ports] s (moreBytes l t) :=
    ht.seq (moreBytes_idle ((operating_of_ports ht).trans h) l)
  have hs (x : Transaction) (l : List Byte) : Keeps [.ports] s (moreBytes l (startTxn x s)) := hm (modPtc_keeps _ s) l
  unfold sdiBytes
  split
  · exact .refl _ s
  · exact (hs _ _).ite ((hs _ _).ite ((hm (startRead_keeps s) _).ite (hs _ _)))
  · exact moreBytes_idle h _

theorem txnEnds_idle (h : s.operating = false) : Keeps [.ports] s (txnEnds s) := by
  have hi (f : Ptc → Ptc) : Keeps [.ports] s (s.modPtc f) := modPtc_keeps f s
  have ht (f : Ptc → Ptc) (g : Port → Port) : Keeps [.ports] s (takeAll .e ((s.modPtc f).modPort .e g)) := by
    have hp : Keeps [.ports] s ((s.modPtc f).modPort .e g) := (hi f).seq (modPort_keeps .e g _)
    rwa [takeAll_idle ((operating_of_ports hp).trans h)]
  unfold txnEnds
  dsimp only
  split
  · exact (ht _ _).ite (hi _)
  · exact hi _

theorem transaction_idle (h : s.operating = false) (l : List Byte) (b : Bool) : Keeps [.ports] s (transaction l b s) := by
  have hs := sdiBytes_idle h l
  exact (hs.seq (txnEnds_idle ((operating_of_ports hs).trans h))).ite hs

/-! ### The laws as they are stated -/

/-- The picture's laws, the phase of start-up included, are kept. -/
def KeepsFits (s t : State) : Prop := pictureFits s = true → pictureFits t = true

theorem SamePicture.fits (h : SamePicture s t) : KeepsFits s t := fun hs => h.pictureFits.trans hs

namespace KeepsFits

theorem refl (s : State) : KeepsFits s s := id

theorem trans (h₁ : KeepsFits s t) (h₂ : KeepsFits t u) : KeepsFits s u := h₂ ∘ h₁

theorem ite {p : Prop} [Decidable p] (h₁ : p → KeepsFits s t) (h₂ : ¬p → KeepsFits s u) : KeepsFits s (if p then t else u) := by
  split
  next h => exact h₁ h
  next h => exact h₂ h

theorem settled (h : KeepsFits s t) : KeepsFits s (settle t) := h.trans (settle_same t).fits

/-- In a part that runs, start-up is complete. -/
theorem of_running (ho : s.operating = true) (h : KeepsPicture s t) : KeepsFits s t := by
  obtain ⟨-, -, hc⟩ := (operating_iff s).mp ho
  exact fun hs => (pictureFits_iff_holds (h.phase.trans hc)).mpr (h.laws ((pictureFits_iff_holds hc).mp hs))

/-- What acts on a part that does not run as well, where it changes nothing that the laws read. -/
theorem of_idle (h : KeepsPicture s t) (hi : s.operating = false → SamePicture s t) : KeepsFits s t := by
  cases ho : s.operating with
  | true => exact of_running ho h
  | false => exact (hi ho).fits

end KeepsFits

theorem whenOperating_fits {f : State → State} (h : KeepsPicture s (f s)) : KeepsFits s (whenOperating f s) :=
  .ite (fun ho => (KeepsFits.of_running ho h).settled) fun _ => .refl s

/-- A change of the lines, of CAL, of KPI or of the uptime is none of the picture's. -/
theorem modLines_fits (f : Lines → Lines) : KeepsFits s (s.modLines f) := SamePicture.fits ⟨rfl, rfl, rfl, rfl⟩

theorem modKpi_fits (f : Kpi → Kpi) : KeepsFits s (s.modKpi f) := SamePicture.fits ⟨rfl, rfl, rfl, rfl⟩

theorem modCal_fits (f : Cal → Cal) : KeepsFits s (s.modCal f) := SamePicture.fits ⟨rfl, rfl, rfl, rfl⟩

/-- A change of STO that leaves the phase of start-up. -/
theorem modSto_fits (f : Sto → Sto) (h : (f s.sto).phase = s.sto.phase) : KeepsFits s (s.modSto f) :=
  SamePicture.fits ⟨rfl, rfl, rfl, h⟩

/-! ### Requests, frames and transactions -/

theorem frameArrives_fits {p : PortId} {b : List Byte} {f : State → State} (h : KeepsPicture s (frameArrives p b f s)) :
    KeepsFits s (frameArrives p b f s) :=
  .of_idle h fun ho => by
    rw [frameArrives, if_neg (by simp [portOpen_idle ho])]
    exact .refl s

theorem requestArrives_fits (p : PortId) (o : Byte) (r : Request) : KeepsFits s (requestArrives p o r s) :=
  frameArrives_fits (keptAtPorts_picture.requestArrives p o r s)

theorem bodyArrives_fits (p : PortId) (b : List Byte) : KeepsFits s (bodyArrives p b s) :=
  .ite (fun _ => frameArrives_fits (keptAtPorts_picture.frameArrives p b _ s (keptAtPorts_picture.takeFrame p b s))) fun _ =>
    .refl s

theorem whenSupplied_fits {f : State → State} (h : KeepsPicture s (f s)) (hi : s.operating = false → Keeps [.ports] s (f s)) :
    KeepsFits s (whenSupplied f s) :=
  .ite (fun _ => (KeepsFits.of_idle h fun ho => .of_keeps (hi ho)).settled) fun _ => .refl s

theorem transaction_fits (l : List Byte) (b : Bool) : KeepsFits s (whenSupplied (transaction l b) s) :=
  whenSupplied_fits (keptAtPorts_picture.transaction l b s) fun ho => transaction_idle ho l b

/-! ### The debouncers and the dial -/

theorem debounceExpiry_fits (i : Fin 6) : KeepsFits s (debounceExpiry i s) := by
  unfold debounceExpiry
  split
  · exact .refl s
  · exact .ite (fun ho => .of_running ho (presenceChange_picture i _)) fun _ => (setPresence_same i _).fits

theorem handCount_fits (n : Option Int) : KeepsFits s (handCount n s) :=
  .of_idle (handCount_picture n) fun ho => by
    rw [handCount_idle ho]
    exact .refl s

theorem dialMoved_fits (a b : Bool) : KeepsFits s (dialMoved a b s) :=
  .ite (fun _ => (modLines_fits _).trans <| (modKpi_fits _).trans (handCount_fits _)) fun _ => modLines_fits _

/-! ### The store, reset and the engine -/

theorem commitDone_fits : KeepsFits s (commitDone s) := by
  unfold commitDone
  split
  · exact .refl s
  · exact modSto_fits _ rfl

theorem powerFails_fits : KeepsFits s (powerFails s) :=
  (modSto_fits _ rfl).trans (modSto_fits _ (dirtied_phase _ _))

theorem engineReturns_fits : KeepsFits s (engineReturns s) := by
  unfold engineReturns
  split
  · exact .refl s
  · exact (SamePicture.of_keeps (raise_keeps _ s)).fits

/-- After power-on reset nothing is selected and MUTE is asserted (R85). -/
theorem resetBlocks_fits (s t : State) : KeepsFits s (resetBlocks t) := fun _ => rfl

/-! ### Start-up (R85, R187) -/

/-- At the late-start check POWER_ON_INPUT is selected, UNTRAINED, with no record, and MUTE is asserted. -/
theorem settling_holds (f : Vector (List SettlingEvent) 5) (h : pictureFits s = true) (hp : s.sto.phase = .loading) :
    PictureHolds (settling f (loadedState s)) := by
  obtain ⟨htimer, htrained, hmute⟩ := pictureFits_unsettled h hp
  have hrecord := recordFits_untrained h htrained
  have hw : (loadedState s).ssw = s.ssw := by rw [loadedState_eq]
  obtain ⟨x, l, c, m, hs, -⟩ := settling_eq f (s := loadedState s) (by rw [hw]; exact htimer) (by rw [hw]; exact htrained)
  obtain ⟨i, hi⟩ : ∃ i, (settling f (loadedState s)).ssw = { s.ssw with selected := some i, autoOffTest := x } :=
    ⟨_, by rw [hs, settledAs_eq, hw]⟩
  exact ⟨by rw [hi]; rfl, by simp [hi, hmute], by simp [recordFits, hi, htimer, htrained, hrecord]⟩

theorem startUp_fits (f : Vector (List SettlingEvent) 5) (hp : s.sto.phase = .loading) : KeepsFits s (startUp f s) := by
  intro h
  have hl := (lateCheck_picture none (settling f (loadedState s)).lkc.service).laws (settling_holds f h hp)
  rw [startUp_settling]
  exact (pictureFits_iff_holds rfl).mpr ⟨hl.chosen, hl.mute, hl.record⟩

/-! ### The commands -/

theorem exec_fits (c : Instr) (h : exec c s = .next t) : KeepsFits s t := by
  have hp := keptAtPorts_picture
  have hl (f : Lines → Lines) : KeepsFits s (s.modLines f) := modLines_fits f
  cases c <;> cases h
  case unknownRequestCode p b | nonRequestFrame p b => exact bodyArrives_fits p b
  case uartByteReceived u b e => exact .ite (fun _ => .refl s) fun _ => whenOperating_fits (hp.uartByte u b s)
  case eWriteTransaction | eReadTransaction => exact transaction_fits _ _
  case sselNegated => exact whenSupplied_fits (hp.txnEnds s) txnEnds_idle
  case gapTimerExpiry p => exact whenOperating_fits (hp.ports (modPort_keeps p _ s))
  case transmissionEnd u b => exact whenOperating_fits (hp.sent u b s)
  case litRise => exact (hl _).trans (whenOperating_fits litRises_picture)
  case litFall => exact (hl _).trans (whenOperating_fits litFalls_picture)
  case bfaultRise => exact (hl _).trans (whenOperating_fits bfaultRises_picture)
  case bfaultFall => exact hl _
  case secondEvent l =>
    have hu : KeepsFits s (s.modUptime (· + 1)) := SamePicture.fits ⟨rfl, rfl, rfl, rfl⟩
    exact .ite (fun _ => hu.trans (whenOperating_fits (secondTaken_picture l))) fun _ => .refl s
  case attemptTimerExpiry | retryGapExpiry | warmupTimerExpiry | coolTimerExpiry | minOnReached | holdReleaseWindow |
      nosigDimReached | nosigOffReached => exact whenOperating_fits (dueTest_picture _)
  case litCommitCountReached => exact whenOperating_fits (markIf_picture _ _)
  case presLineChange i b => exact .ite (fun _ => SamePicture.fits ⟨rfl, rfl, rfl, rfl⟩) fun _ => hl _
  case presenceDebounceExpiry i => exact .ite (fun _ => (debounceExpiry_fits i).settled) fun _ => .refl s
  case framePulse n b => exact whenOperating_fits (framePulseAll_picture n b)
  case linePulse => exact whenOperating_fits monitorLine_picture
  case frameWatchdogExpiry => exact whenOperating_fits watchdogAll_picture
  case switchTimerExpiry => exact whenOperating_fits switchTimeout_picture
  case dialEdge a b => exact (dialMoved_fits a b).settled
  case kpPowerPress => exact (modKpi_fits _).trans (whenOperating_fits powerPress_picture)
  case kpSourcePress =>
    exact (modKpi_fits _).trans <|
      whenOperating_fits (.ite (fun _ => sourcePress_picture) fun _ => .of_keeps (raise_keeps _ _))
  case kpAxisPress => exact (modKpi_fits _).trans (whenOperating_fits axisPress_picture)
  case keylockChange => exact SamePicture.fits ⟨rfl, rfl, rfl, rfl⟩
  case confirmWindowExpiry => exact whenOperating_fits (.of_keeps (setConfirm_keeps _ s))
  case calendarSecond =>
    exact .ite (fun _ => .refl s) fun _ => .ite (fun ho => (KeepsFits.of_running ho calendarTick_picture).settled) fun _ =>
      modCal_fits _
  case commitComplete => exact .ite (fun _ => commitDone_fits.settled) fun _ => .refl s
  case pfailAsserted => exact .ite (fun _ => ((hl _).trans powerFails_fits).settled) fun _ => hl _
  case pfailNegated => exact .ite (fun _ => ((hl _).trans (modSto_fits _ rfl)).settled) fun _ => hl _
  case supplyFall => exact (hl _).trans (modSto_fits _ rfl)
  case powerOnReset x =>
    cases x with
    | resetLine => exact .ite (fun _ => resetBlocks_fits s _) fun _ => hl _
    | supplyRise => exact resetBlocks_fits s _
  case resetRelease => exact hl _
  case startupLoadComplete f =>
    refine .ite (fun hc => (startUp_fits f ?_).settled) fun _ => .refl s
    simp only [Bool.and_eq_true, beq_iff_eq] at hc
    exact hc.2
  case engRstAsserted =>
    have he (t : State) : KeepsFits t (engineResets t) := (SamePicture.of_keeps (modPtc_keeps _ t)).fits
    exact .ite (fun _ => ((hl _).trans (he _)).settled) fun _ => hl _
  case engRstReleased => exact .ite (fun _ => ((hl _).trans engineReturns_fits).settled) fun _ => hl _
  case backupDomainLoss => exact .ite (fun _ => .refl s) fun _ => modCal_fits _
  all_goals exact requestArrives_fits _ _ _

theorem step_fits (h : step s = .next t) : KeepsFits s t := by
  unfold step at h
  split at h
  · cases h
    exact .refl s
  next c rest _ =>
    have hq : KeepsFits s { s with pending := rest } := SamePicture.fits ⟨rfl, rfl, rfl, rfl⟩
    exact hq.trans (exec_fits c h)

end

end Sys2Proof.Machine

open Sys2Proof Sys2Proof.Machine

/-- Settles O9: where an input is selected every block's act keeps the laws, whatever the phase of start-up; in a part that does
not run nothing the laws read changes, but for the reset and start-up, which end where they hold. -/
theorem pictureLawsKept : Obligations.PictureLawsKept := by
  unfold Obligations.PictureLawsKept
  exact fun s t hs h => step_fits h hs

end

section
/-! PROOFS. The fitted rectangle and the corners of a warp (O26). -/

namespace Sys2Proof.Machine

set_option Elab.async false

/-- A quotient rounded half up stays under a whole bound on the exact one. -/
theorem roundDiv_le {n d m : Nat} (h : n ≤ m * d) : roundDiv n d ≤ m := by
  obtain rfl | hd := Nat.eq_zero_or_pos d
  · simp [roundDiv]
  · refine Nat.le_of_lt_succ ((Nat.div_lt_iff_lt_mul (by omega)).mpr ?_)
    have hm : m.succ * (2 * d) = 2 * (m * d) + 2 * d := by rw [Nat.succ_mul, Nat.mul_left_comm]
    omega

/-- A value of a range that begins above 0 is above 0. -/
theorem range_holds_pos {r : Config.Range} {n : Nat} (h : r.holds n = true) (hr : 0 < r.lo := by decide) : 0 < n :=
  hr.trans_le ((range_holds_iff r n).mp h).1

/-- The fitted rectangle is no wider and no higher than the panel (R88). -/
theorem fitSize_le (pw ph : Nat) (src : Option (Nat × Nat)) (m : Aspect) :
    (fitSize pw ph src m).1 ≤ pw ∧ (fitSize pw ph src m).2 ≤ ph := by
  unfold fitSize
  split
  · exact ⟨le_rfl, le_rfl⟩
  next ws hs =>
    split
    next => exact ⟨le_rfl, le_rfl⟩
    next => exact ⟨Nat.min_le_right _ _, Nat.min_le_right _ _⟩
    next =>
      split
      next h => exact ⟨le_rfl, roundDiv_le (by rwa [Nat.mul_comm ph])⟩
      next h => exact ⟨roundDiv_le (by rw [Nat.mul_comm pw]; omega), le_rfl⟩

/-- An inset is at most 5/32 of its length, rounded (R89, R90). -/
theorem inset_le {k : Int} (len : Nat) (hk : -40 ≤ k ∧ k ≤ 40) : 32 * inset k len ≤ 5 * len + 16 := by
  have hp : k.natAbs * len ≤ 40 * len := Nat.mul_le_mul_right len (by omega)
  unfold inset roundDiv
  omega

/-- The same of an inset that applies to one of two edges. -/
theorem inset_ite_le (c : Prop) [Decidable c] {k : Int} (len : Nat) (hk : -40 ≤ k ∧ k ≤ 40) :
    32 * (if c then inset k len else 0) ≤ 5 * len + 16 := by
  split
  · exact inset_le len hk
  · omega

/-- Along one axis a centred length of `len` lies inside the panel's `p`. -/
theorem centred_le {p len : Nat} (h : len ≤ p) : (p - len) / 2 + len ≤ p := by omega

/-- Along one axis two corners moved in by `a`, `b` or not lie inside the panel. -/
theorem corners_lt {p len a b : Nat} (hp : 0 < p) (h : len ≤ p) (ha : 32 * a ≤ 5 * len + 16) :
    (p - len) / 2 + a < p ∧ (p - len) / 2 + len - 1 - b < p := by omega

/-- Two corners that are moved in by `a` from both ends leave 11/16 of the edge but 2 pixels. -/
theorem edge_ge {x len a : Nat} (ha : 32 * a ≤ 5 * len + 16) :
    11 * len ≤ 16 * (x + len - 1 - a - (x + a) + 2) := by omega

end Sys2Proof.Machine

open Sys2Proof Sys2Proof.Machine

/-- Settles O26: each edge loses at most an inset at both ends, and each inset is at most 5/32 of the fitted length. -/
theorem warpStaysInPanel : Obligations.WarpStaysInPanel := by
  unfold Obligations.WarpStaysInPanel
  rintro pw ph src m v h i c w hpw hph - hv₁ hv₂ hh₁ hh₂ rfl
  have hw : 0 < pw := range_holds_pos hpw
  have hh : 0 < ph := range_holds_pos hph
  obtain ⟨hfw, hfh⟩ := fitSize_le pw ph src m
  have hv (c : Prop) [Decidable c] := inset_ite_le c (fitSize pw ph src m).1 (k := v) ⟨hv₁, hv₂⟩
  have hk (c : Prop) [Decidable c] := inset_ite_le c (fitSize pw ph src m).2 (k := h) ⟨by omega, by omega⟩
  have hx {a b : Nat} := corners_lt (a := a) (b := b) hw hfw
  have hy {a b : Nat} := corners_lt (a := a) (b := b) hh hfh
  simp only [List.forall_mem_cons, List.not_mem_nil, false_imp_iff, implies_true, and_true]
  exact ⟨centred_le hfw, centred_le hfh,
    ⟨(hx (b := 0) (hv _)).1, (hx (hv (0 < v))).2, (hx (hv (v < 0))).2, (hx (b := 0) (hv _)).1⟩,
    ⟨(hy (b := 0) (hk _)).1, (hy (b := 0) (hk _)).1, (hy (hk (0 < h))).2, (hy (hk (h < 0))).2⟩,
    edge_ge (hv _), edge_ge (hv _), edge_ge (hk _), edge_ge (hk _)⟩

end

section
/-! PROOFS. KEYSTONE, PRESET_STORE and PANEL_SET (O24, O25). -/

namespace Sys2Proof.Machine

set_option Elab.async false

/-! ### Clamps -/

/-- The clamp of a range, as the nearer of its ends (R3, R86). -/
theorem range_clamp_eq (r : Config.Range) (n : Nat) (h : r.lo ≤ r.hi) : r.clamp n = max r.lo (min n r.hi) := by
  unfold Config.Range.clamp
  split_ifs <;> omega

theorem clampSym_eq_iff {m n : Int} (h : 0 ≤ m) : clampSym m n = n ↔ -m ≤ n ∧ n ≤ m := by
  rw [← beq_iff_eq, clampSym_beq_iff h]

/-! ### Replies -/

@[simp] theorem hasReply_geo (p : PortId) (c : Byte) (a : Answer) (s : State) : (hasReply p c a s).geo = s.geo := rfl

/-- What a reply leaves at the ports, its status and its fields named. -/
theorem told_answer {p : PortId} {c : Byte} {a : Answer} {st : Status} {l : List Byte} {ns : List Payload} {s u : State}
    (hs : a.status = st) (hl : a.fields = l) (h : u.ptc = s.heard ns) : Told p c st l ns s (hasReply p c a u) := by
  subst hs hl
  exact told_hasReply h

/-! ### KEYSTONE (R92) -/

theorem keystoneWanted_eq (form b : Byte) (live : Int) :
    keystoneWanted (form == 1) live b = if form = 1 then live + b.toInt else b.toInt := by
  simp only [keystoneWanted, beq_iff_eq]

/-- A live value after a KEYSTONE that carries the value or does not (R92). -/
def keystoneLeft (rel : Bool) (m live : Int) (b : Option Byte) : Int := (b.map (keystoneValue rel m live)).getD live

theorem keystoneLeft_none (rel : Bool) (m live : Int) : keystoneLeft rel m live none = live := rfl

theorem keystoneLeft_of_mem {form b : Byte} {x : Option Byte} {m live : Int} (h : b ∈ x) :
    keystoneLeft (form == 1) m live x = clampSym m (if form = 1 then live + b.toInt else b.toInt) := by
  rw [Option.mem_def.mp h, ← keystoneWanted_eq]
  rfl

/-- A live value is limited exactly where the value carried leads out of the bounds. -/
theorem keystoneLeft_bne {m : Int} (h : 0 ≤ m) (rel : Bool) (live : Int) (b : Option Byte) :
    (keystoneLeft rel m live b != (b.map (keystoneWanted rel live)).getD live) =
      !b.all fun x => decide (-m ≤ keystoneWanted rel live x ∧ keystoneWanted rel live x ≤ m) := by
  cases b with
  | none => simp [keystoneLeft]
  | some x =>
    have hc := clampSym_eq_iff (n := keystoneWanted rel live x) h
    simp only [keystoneLeft, Option.map_some, Option.getD_some, Option.all_some, bne, beq_eq_decide]
    exact congrArg _ (decide_eq_decide.mpr hc)

/-- GEO with the live values given. -/
def liveGeo (v h : Int) (g : Geo) : Geo := { g with liveV := v, liveH := h }

/-- The placement of a warp leaves the live keystone (R99). -/
@[simp] theorem placedGeo_liveV (s : State) (w : Warp) (g : Geo) : (placedGeo s w g).liveV = g.liveV := by
  unfold placedGeo
  split <;> rfl

@[simp] theorem placedGeo_liveH (s : State) (w : Warp) (g : Geo) : (placedGeo s w g).liveH = g.liveH := by
  unfold placedGeo
  split <;> rfl

/-- A KEYSTONE that is INVALID: a bit of no field, no value, or an unknown form (R92, R190). -/
theorem keystoneRequest_invalid {k : RawKeystone} (h : k.spare ≠ 0 ∨ (k.v = none ∧ k.h = none) ∨ 1 < k.form.toNat)
    (s : State) : keystoneRequest k s = (s, .invalid) := by
  unfold keystoneRequest
  split
  · rfl
  next hn =>
    have hf : boolOf k.form = none := by
      rw [← Option.not_isSome_iff_eq_none, boolOf_isSome]
      exact Nat.not_le.mpr ((or_assoc.mpr h).resolve_left hn)
    rw [hf]

/-- What an allowed KEYSTONE leaves and answers (R90, R92, R99). -/
theorem keystoneRequest_valid {k : RawKeystone} {i : Fin 6} {s : State} {v h : Int} (hs : k.spare = 0)
    (hc : k.v ≠ none ∨ k.h ≠ none) (hf : k.form.toNat ≤ 1) (hi : s.ssw.selected = some i)
    (hv : v = keystoneLeft (k.form == 1) 40 s.geo.liveV k.v) (hh : h = keystoneLeft (k.form == 1) 30 s.geo.liveH k.h) :
    keystoneRequest k s =
      ({ s with
          geo := placedGeo s (s.warpAt i v h .keystone) (liveGeo v h s.geo)
          ptc := s.heard (placedNotice s (s.warpAt i v h .keystone)) },
        .clampedIf
          (!((k.v.all fun b => decide (-40 ≤ keystoneWanted (k.form == 1) s.geo.liveV b ∧
                keystoneWanted (k.form == 1) s.geo.liveV b ≤ 40)) &&
              k.h.all fun b => decide (-30 ≤ keystoneWanted (k.form == 1) s.geo.liveH b ∧
                keystoneWanted (k.form == 1) s.geo.liveH b ≤ 30)))
          [signed v, signed h]) := by
  have hb : boolOf k.form = some (k.form == 1) := by
    obtain h | h : k.form = 0 ∨ k.form = 1 := by bv_omega
    · rw [h]; rfl
    · rw [h]; rfl
  subst hv hh
  unfold keystoneRequest
  rw [if_neg (by tauto), hb, Bool.not_and, ← keystoneLeft_bne (by decide), ← keystoneLeft_bne (by decide)]
  exact Prod.ext (recompute_placed .keystone hi) rfl

/-! ### PRESET_STORE and PANEL_SET (R86, R93) -/

theorem presetStoreRequest_eq {i : Fin 6} {s : State} (h : s.ssw.selected = some i) : presetStoreRequest s =
    ({ s with
        inputs := { s.inputs with
          entries := s.inputs.entries.set i
            { s.inputs.entries[i] with presetV := s.geo.liveV, presetH := s.geo.liveH } }
        sto := dirtied .inputs s.sto }, .done) := by
  rw [presetStoreRequest, h]
  rfl

/-- INPUTS with the panel size of a PANEL_SET (R86). -/
def panelled (w h : Half) (r : InputsRecord) : InputsRecord :=
  { r with panelW := max 640 (min w.toNat 4096), panelH := max 480 (min h.toNat 2400) }

/-- A clamped value stands exactly where it lies within the range. -/
theorem panel_unclamped (w h : Half) :
    (max 640 (min w.toNat 4096) != w.toNat || max 480 (min h.toNat 2400) != h.toNat) =
      !decide (640 ≤ w.toNat ∧ w.toNat ≤ 4096 ∧ 480 ≤ h.toNat ∧ h.toNat ≤ 2400) := by
  rw [bne, bne, ← Bool.not_and, beq_eq_decide, beq_eq_decide, ← Bool.decide_and]
  exact congrArg _ (decide_eq_decide.mpr (by omega))

theorem panelSetRequest_eq (w h : Half) {i : Fin 6} {s : State} (hi : s.ssw.selected = some i) : panelSetRequest w h s =
    ({ s with
        inputs := panelled w h s.inputs
        sto := dirtied .inputs s.sto
        geo := placedGeo s ({ s with inputs := panelled w h s.inputs }.warpFor i .panel) s.geo
        ptc := s.heard (placedNotice s ({ s with inputs := panelled w h s.inputs }.warpFor i .panel)) },
      .clampedIf (!decide (640 ≤ w.toNat ∧ w.toNat ≤ 4096 ∧ 480 ≤ h.toNat ∧ h.toNat ≤ 2400))
        (byte2 (panelled w h s.inputs).panelW ++ byte2 (panelled w h s.inputs).panelH)) := by
  unfold panelSetRequest
  rw [range_clamp_eq _ _ (by decide), range_clamp_eq _ _ (by decide), ← panel_unclamped]
  exact Prod.ext (recompute_placed .panel hi) rfl

end Sys2Proof.Machine

open Sys2Proof Sys2Proof.Machine

/-- Settles O24: each live value carried is clamped for itself, and the warp of both is placed as a recompute places it. -/
theorem keystoneMoves : Obligations.KeystoneMoves := by
  unfold Obligations.KeystoneMoves
  intro p o a k i s ht hi
  refine settles_request ht rfl ⟨fun hk => ?_, fun hs hc hf => ?_⟩
  · rw [show ownerAct p a (.keystone k) s = _ from keystoneRequest_invalid hk s]
    exact onlyReplied_hasReply _ _ _ _
  · rw [show ownerAct p a (.keystone k) s = _ from keystoneRequest_valid hs hc hf hi rfl rfl]
    simp only [hasReply_geo, placedGeo_liveV, placedGeo_liveH, liveGeo]
    refine ⟨fun b => keystoneLeft_of_mem, fun hn => ?_, fun b => keystoneLeft_of_mem, fun hn => ?_, trivial, ?_, ?_⟩
    · rw [hn, keystoneLeft_none]
    · rw [hn, keystoneLeft_none]
    · simp only [← keystoneWanted_eq]
      exact told_answer (clampedIf_not_status _ _) rfl rfl
    · simp [keeps_iff, hasReply, State.modPort]

/-- Settles O25: the preset is copied, and the panel is clamped before the recompute reads it. -/
theorem presetAndPanelWritten : Obligations.PresetAndPanelWritten := by
  unfold Obligations.PresetAndPanelWritten
  intro p o a w h i s hi
  refine ⟨fun ht => settles_request ht rfl ?_, fun ht => settles_request ht rfl ?_⟩
  · rw [show ownerAct p a .presetStore s = _ from presetStoreRequest_eq hi]
    exact ⟨rfl, rfl, told_hasReply rfl, by simp [keeps_iff, hasReply, State.modPort]⟩
  · rw [show ownerAct p a (.panelSet w h) s = _ from panelSetRequest_eq w h hi]
    refine ⟨rfl, rfl, rfl, told_answer ((clampedIf_not_status _ _).trans ?_) rfl rfl,
      by simp [keeps_iff, hasReply, State.modPort]⟩
    simp only [decide_eq_true_eq]

end

section
/-! PROOFS. END_SESSION (O28). -/

namespace Sys2Proof.Machine

set_option Elab.async false

/-! ### The close of reason REQUEST (R155, R158, R159) -/

/-- A close of reason REQUEST issues a POWER_OFF: for a hold kept for the session, or as the end action (R158, R159). -/
def closeIssues (r : Session) (s : State) : Bool := r.deferred || (r.endOff && !s.lkc.service)

/-- The end action is issued where it is POWER_OFF and the service flag is clear (R159). -/
theorem endFate_request_issued {off service : Bool} :
    endFate .request off service = .issued ↔ off = true ∧ service = false := by
  unfold endFate
  cases service <;> cases off <;> decide

/-- Whichever of the two steps issues it, one POWER_OFF at most is issued (R158). -/
theorem endAction_request (r : Session) (service : Bool) (s : State) :
    endAction (endFate .request r.endOff service) (endDeferral r (endFate .request r.endOff service) false s) =
      if r.deferred || (r.endOff && !service) then (takePowerOff s).1 else s := by
  by_cases hi : endFate .request r.endOff service = .issued
  · obtain ⟨he, hv⟩ := endFate_request_issued.mp hi
    rw [endAction, endDeferral, hi]
    simp [issuePowerOff, he, hv]
  · have hn : (r.endOff && !service) = false := by
      rw [endFate_request_issued] at hi
      simpa using hi
    simp [endAction, endDeferral, issuePowerOff, hi, hn]

theorem closeSession_request {s : State} {r : Session} (h : s.ses = some r) : closeSession .request none s =
    raise (.sessionClosed r.kind r.slot .request r.used (endFate .request r.endOff s.lkc.service))
      ((if closeIssues r s then (takePowerOff (applyPreset .session (sessionLevel none true s))).1
        else applyPreset .session (sessionLevel none true s)).modSes fun _ => none) := by
  rw [closeIssues, ← endAction_request]
  simp only [closeSession, h]
  rfl

/-- What that close leaves: the live keystone at the preset, no session and no level of one, and the POWER_OFF taken where it
is issued. -/
theorem closeSession_request_eq {s : State} {r : Session} (h : s.ses = some r) : ∃ m y b c,
    closeSession .request none s =
      { s with
        lsq := if closeIssues r s then lsqAfterOff s else s.lsq
        ssw := sswClosed (closeIssues r s) m y s.ssw
        geo := (applyPreset .session (sessionLevel none true s)).geo
        lkc := { s.lkc with sessionLevel := none, hold := false, confirmOpen := b }
        ses := none
        ptc := c } := by
  obtain ⟨m₁, y, g, c, hp⟩ := closeBegun_eq s
  rw [closeSession_request h]
  cases closeIssues r s with
  | false =>
    rw [hp]
    exact ⟨m₁, y, s.lkc.confirmOpen, _, rfl⟩
  | true =>
    obtain ⟨m, b, he, -⟩ := takePowerOff_eq (applyPreset .session (sessionLevel none true s))
    rw [if_pos rfl, he, hp]
    exact ⟨m, y, b, _, rfl⟩

/-- The close and the late-start check after it, whose session opens with its actions suppressed (R151). -/
theorem closeThenLate_request_eq {s : State} {r : Session} (h : s.ses = some r) : ∃ m y b c,
    closeThenLate .request s =
      { s with
        lsq := if closeIssues r s then lsqAfterOff s else s.lsq
        ssw := sswClosed (closeIssues r s) m y s.ssw
        geo := (applyPreset .session (sessionLevel none true s)).geo
        lkc := { s.lkc with
          sessionLevel := (s.lateAnswer r.slot s.cal.date (minuteOf s.cal.time)).map fun f => f.entry.level
          hold := false
          confirmOpen := b }
        ses := (s.lateAnswer r.slot s.cal.date (minuteOf s.cal.time)).map fun f => scheduledSession f s.cal.date true s.cal
        ptc := c } := by
  obtain ⟨m, y, b, c, hc⟩ := closeSession_request_eq h
  obtain ⟨c', hl⟩ := lateCheck_suppressed_eq r.slot (closeSession .request none s) (by rw [hc])
  refine ⟨m, y, b, c', ?_⟩
  simp only [closeThenLate, h]
  rw [hl, hc, Option.or_none]
  rfl

/-- The live keystone after a close stands at the selected input's preset (R91). -/
theorem closeGeo_live {s : State} {i : Fin 6} (h : s.ssw.selected = some i) :
    (applyPreset .session (sessionLevel none true s)).geo.liveV = s.inputs.entries[i].presetV ∧
      (applyPreset .session (sessionLevel none true s)).geo.liveH = s.inputs.entries[i].presetH := by
  rw [sessionLevel_eq, applyPreset_placed _ (by exact h)]
  simp only [placedGeo_liveV, placedGeo_liveH]
  exact ⟨rfl, rfl⟩

/-! ### END_SESSION -/

theorem endSessionRequest_none {s : State} (h : s.ses = none) : endSessionRequest s = (s, .refused .noSession) := by
  simp [endSessionRequest, h]

theorem endSessionRequest_some {s : State} {r : Session} (h : s.ses = some r) :
    endSessionRequest s = (closeThenLate .request s, .done) := by
  simp [endSessionRequest, h]

end Sys2Proof.Machine

open Sys2Proof Sys2Proof.Machine

/-- Settles O28: the close issues its POWER_OFF for a deferred power-on or as its end action alone, and the late start after
it has none of its actions carried out. -/
theorem endSessionCloses : Obligations.EndSessionCloses := by
  unfold Obligations.EndSessionCloses
  intro p o a r i s ht
  refine settles_request ht rfl ⟨fun hn => ?_, fun hr hi => ?_, fun hr hl => ?_, fun hr he hd hv hs hm => ?_,
    fun hr he hd => ?_⟩
  · rw [show ownerAct p a .endSession s = _ from endSessionRequest_none hn]
    exact onlyReplied_hasReply _ _ _ _
  all_goals
    obtain ⟨m, y, b, c, hc⟩ := closeThenLate_request_eq hr
    rw [show ownerAct p a .endSession s = _ from endSessionRequest_some hr, hc]
  · obtain ⟨hv, hh⟩ := closeGeo_live hi
    exact ⟨hasReply_answers _ _ _ _, rfl, hv, hh, fun q hq => lateSession_other hq,
      by simp [keeps_iff, hasReply, State.modPort]⟩
  · rw [hl]
    exact ⟨rfl, rfl⟩
  · rw [closeIssues, he, hd, hv]
    exact (lsqAfterOff_driven (by rw [hs]; rfl)).trans (by simp [hs, hm])
  · rw [closeIssues, hd]
    obtain he | hv := he
    · rw [he]; rfl
    · rw [hv, Bool.not_true, Bool.and_false]; rfl

end

section
/-! PROOFS. The dial (O57). -/

namespace Sys2Proof.Machine

set_option Elab.async false

/-! ### The count of a change (R94) -/

theorem dialCount_first (a b : Bool) : dialCount a b (!a) b = some (if (!a) = !b then 1 else -1) := by
  cases a <;> cases b <;> rfl

theorem dialCount_second (a b : Bool) : dialCount a b a (!b) = some (if (!b) = a then 1 else -1) := by
  cases a <;> cases b <;> rfl

/-- The count of a change of one line, by the line that changes and the level of the other. -/
theorem dialCount_one {a b v x : Bool} (h : (v ≠ a) ≠ (x ≠ b)) :
    dialCount a b v x = some (if v ≠ a then (if v = !x then 1 else -1) else (if x = v then 1 else -1)) := by
  rw [ne_eq, propext_iff, iff_not_comm] at h
  by_cases hv : v = a
  · have hx : x ≠ b := by tauto
    rw [if_neg (not_not.mpr hv), hv, Bool.eq_not.mpr hx, dialCount_second]
  · have hx : x = b := by tauto
    rw [if_pos hv, hx, Bool.eq_not.mpr hv, dialCount_first]

/-- A change of both lines is no count. -/
theorem dialCount_both (a b : Bool) : dialCount a b (!a) (!b) = none := by
  cases a <;> cases b <;> rfl

/-! ### The accepted pair -/

/-- The lines as they have moved, and the new pair accepted (R94). -/
def pairAccepted (v x : Bool) (s : State) : State :=
  { s with
    lines := { s.lines with dialA := v, dialB := x }
    kpi := { s.kpi with pairA := v, pairB := x } }

theorem pairAccepted_keeps (v x : Bool) (s : State) : Keeps [.lines, .kpi] s (pairAccepted v x s) := by
  simp [keeps_iff, pairAccepted]

/-- A change of the dial in a part that runs: its count, if any, is handed to GEO with the new pair accepted. -/
theorem dialMoved_eq (v x : Bool) {s : State} (ho : s.operating = true) : dialMoved v x s =
    (dialCount s.kpi.pairA s.kpi.pairB v x).elim (pairAccepted v x s) fun n => dialCounted n (pairAccepted v x s) := by
  unfold dialMoved handCount
  rw [if_pos ((operating_iff s).mp ho).1]
  cases dialCount s.kpi.pairA s.kpi.pairB v x with
  | none => rfl
  | some n => exact if_pos ho

/-! ### What a count does (R95, R96) -/

/-- GEO a keystone step on, the accumulator at 0 and the denial mark clear (R95). -/
def stepped (n : Int) (g : Geo) : Geo :=
  { g with
    dialAcc := 0
    denial := false
    liveV := if g.axis = .v then clampSym 40 (g.liveV + n) else g.liveV
    liveH := if g.axis = .h then clampSym 30 (g.liveH + n) else g.liveH }

/-- The warp of an input for the live keystone a step on. -/
def steppedWarp (n : Int) (i : Fin 6) (s : State) : Warp :=
  s.warpAt i (stepped n s.geo).liveV (stepped n s.geo).liveH .dial

/-- The notice of a denied count: the first of a run alone has one (R96, R118). -/
def denialNotices (s : State) : List Payload :=
  if s.geo.denial = true then [] else [.keypadDenied .dial (if s.lkc.keylock then .keylock else .level) s.effLevel]

section

variable {n : Int} {i : Fin 6} {s : State}

theorem dialStep_eq (n : Int) (s : State) : dialStep n (s.modGeo fun q => { q with dialAcc := 0, denial := false }) =
    recompute .dial { s with geo := stepped n s.geo } := by
  unfold dialStep stepped
  refine congrArg (recompute .dial) ?_
  cases h : s.geo.axis <;> simp [State.modGeo, h, Config.keystoneV, Config.keystoneH]

/-- An allowed count short of a step joins the accumulator (R95). -/
theorem dialCounted_joins (hk : s.keypadPasses .geometry = true) (hp : s.geo.dialAcc + n ≠ 4)
    (hn : s.geo.dialAcc + n ≠ -4) : dialCounted n s =
      { s with geo := { s.geo with dialAcc := s.geo.dialAcc + n, denial := false } } := by
  rw [dialCounted, if_pos hk, dialAllowed]
  exact if_neg (not_or.mpr ⟨hp, hn⟩)

/-- An allowed count that fills the accumulator is a keystone step, whose warp is placed (R95, R99). -/
theorem dialCounted_steps (hk : s.keypadPasses .geometry = true) (hf : s.geo.dialAcc + n = 4 ∨ s.geo.dialAcc + n = -4)
    (hi : s.ssw.selected = some i) : dialCounted n s =
      { s with
        geo := placedGeo s (steppedWarp n i s) (stepped n s.geo)
        ptc := s.heard (placedNotice s (steppedWarp n i s)) } := by
  rw [dialCounted, if_pos hk, dialAllowed]
  refine (if_pos hf).trans ?_
  rw [dialStep_eq, recompute_placed .dial (by exact hi)]
  rfl

/-- A denied count (R96). -/
theorem dialCounted_denied (hk : s.keypadPasses .geometry = false) : dialCounted n s =
    { s with
      geo := { s.geo with dialAcc := 0, denial := true }
      ptc := s.heard (denialNotices s) } := by
  rw [dialCounted, if_neg (by simp [hk]), dialDenied, denialNotices]
  cases s.geo.denial <;> rfl

end

/-- A count changes GEO, SSW's marks and the ports alone. -/
theorem dialCounted_keeps (n : Int) (s : State) : Keeps [.geo, .ssw, .ports] s (dialCounted n s) := by
  unfold dialCounted dialAllowed
  refine .ite (.ite ?_ (modGeo_keeps _ s).weaken) ?_
  · rw [dialStep_eq]
    exact Keeps.seq (t := { s with geo := stepped n s.geo }) (modGeo_keeps (stepped n) s) (recompute_keeps .dial _)
  · exact (modGeo_keeps _ s).weaken.ite ((modGeo_keeps _ s).seq (raise_keeps _ _))

/-! ### The command -/

section

variable {v x : Bool} {n : Int} {s : State} {P : State → Prop}

theorem settles_dialEdge (ho : s.operating = true)
    (h : P ((dialCount s.kpi.pairA s.kpi.pairB v x).elim (pairAccepted v x s) fun n =>
      dialCounted n (pairAccepted v x s))) :
    Settles (.dialEdge v x) s P :=
  settles_of_eq (congrArg (fun t => Host.Outcome.next (settle t)) (dialMoved_eq v x ho)) h

/-- A change of one line settles as its count does. -/
theorem settles_dialEdge_one (ho : s.operating = true)
    (hn : n = (if v ≠ s.kpi.pairA then (if v = !x then 1 else -1) else (if x = v then 1 else -1)))
    (hc : (v ≠ s.kpi.pairA) ≠ (x ≠ s.kpi.pairB)) (h : P (dialCounted n (pairAccepted v x s))) :
    Settles (.dialEdge v x) s P :=
  settles_dialEdge ho (by rwa [dialCount_one hc, ← hn])

end

end Sys2Proof.Machine

open Sys2Proof Sys2Proof.Machine

/-- Settles O57: the new pair is accepted before the count, and the count joins, steps or is denied. -/
theorem dialTurns : Obligations.DialTurns := by
  unfold Obligations.DialTurns
  intro v x n i s ho
  refine ⟨fun hv hx => settles_dialEdge ho ?_, settles_dialEdge ho ?_,
    fun hn hc hk hp hm => settles_dialEdge_one ho hn hc ?_, fun hn hc hk hf hi => settles_dialEdge_one ho hn hc ?_,
    fun hc hk => settles_dialEdge_one ho rfl hc ?_⟩
  · rw [Bool.eq_not.mpr hv, Bool.eq_not.mpr hx, dialCount_both]
    exact pairAccepted_keeps _ _ s
  · cases dialCount s.kpi.pairA s.kpi.pairB v x with
    | none => exact ⟨rfl, rfl⟩
    | some n => exact ⟨dialCounted_keeps n _ .kpi (by decide), dialCounted_keeps n _ .lines (by decide)⟩
  · rw [dialCounted_joins (by exact hk) (by exact hp) (by exact hm)]
    exact ⟨rfl, by simp [keeps_iff, pairAccepted]⟩
  · rw [dialCounted_steps (i := i) (by exact hk) (by exact hf) (by exact hi)]
    simp only [placedGeo_liveV, placedGeo_liveH]
    exact ⟨rfl, rfl, rfl, raised_iff.mpr rfl, by simp [keeps_iff, pairAccepted]⟩
  · rw [dialCounted_denied (by exact hk)]
    exact ⟨rfl, by simp [keeps_iff, pairAccepted], raised_iff.mpr rfl⟩

end

section
/-! PROOFS. EXTEND (O27). -/

namespace Sys2Proof.Machine

set_option Elab.async false

section

variable {s : State} {r : Session}

theorem extendRequest_none (h : s.ses = none) : extendRequest s = (s, .refused .noSession) := by
  simp only [extendRequest, h]

theorem extendRequest_exhausted (h : s.ses = some r) (hu : r.allowance ≤ r.used) :
    extendRequest s = (s, .refused .extExhausted) := by
  simp only [extendRequest, h, if_pos hu]

theorem extendRequest_blocked (h : s.ses = some r) (hu : r.used < r.allowance) (he : s.extendedEnd r = r.plannedEnd) :
    extendRequest s = (s, .refused .nextEntry) := by
  simp only [extendRequest, h, if_neg (Nat.not_le.mpr hu), if_pos he]

theorem extendRequest_extends (h : s.ses = some r) (hu : r.used < r.allowance) (he : s.extendedEnd r ≠ r.plannedEnd) :
    extendRequest s =
      ({ s with ses := some { r with plannedEnd := s.extendedEnd r, used := r.used + 1, warned := false } },
        .doneWith (byte2 (s.extendedEnd r) ++ [byte1 (r.allowance - (r.used + 1))])) := by
  simp only [extendRequest, h, if_neg (Nat.not_le.mpr hu), if_neg he]
  rfl

/-- The new end as the least of its three bounds (R153). -/
theorem extendedEnd_eq (s : State) (r : Session) : s.extendedEnd r =
    min (r.plannedEnd + s.settings.extMinutes) (min ((s.nextStart r.date r.plannedEnd).getD 1440) 1440) :=
  min_assoc _ _ _

end

end Sys2Proof.Machine

open Sys2Proof Sys2Proof.Machine

/-- Settles O27: the checks of R153 in their order, and the session record with its new end. -/
theorem sessionExtended : Obligations.SessionExtended := by
  unfold Obligations.SessionExtended
  intro p o a r s ht
  refine settles_request ht rfl ⟨fun hn => ?_, fun hr hu => ?_, fun hr hu he => ?_, fun hr hu he => ?_, extendedEnd_eq s r⟩
  · rw [show ownerAct p a .extendEnd s = _ from extendRequest_none hn]
    exact onlyReplied_hasReply _ _ _ _
  · rw [show ownerAct p a .extendEnd s = _ from extendRequest_exhausted hr hu]
    exact onlyReplied_hasReply _ _ _ _
  · rw [show ownerAct p a .extendEnd s = _ from extendRequest_blocked hr hu he]
    exact onlyReplied_hasReply _ _ _ _
  · rw [show ownerAct p a .extendEnd s = _ from extendRequest_extends hr hu he]
    exact ⟨rfl, told_hasReply rfl, by simp [keeps_iff, hasReply, State.modPort]⟩

end

section
/-! PROOFS. ENTRY_WRITE, ENTRY_DELETE and the holiday list (O30 to O32). -/

namespace Sys2Proof.Machine

set_option Elab.async false

/-! ### TIMETABLE written -/

/-- The state once TIMETABLE has been written as `t` and marked dirty. -/
def timetabled (t : TimetableRecord) (s : State) : State := { s with timetable := t, sto := dirtied .timetable s.sto }

/-- A write of TIMETABLE with its reply marks the record, tells nothing else and changes nothing else. -/
theorem timetabled_replied {p : PortId} {c : Byte} {a : Answer} {st : Status} {l : List Byte} (t : TimetableRecord)
    (s : State) (hs : a.status = st) (hl : a.fields = l) :
    Marked .timetable s (hasReply p c a (timetabled t s)) ∧ Told p c st l [] s (hasReply p c a (timetabled t s)) ∧
      Keeps [.timetable, .ports, .store] s (hasReply p c a (timetabled t s)) :=
  ⟨rfl, told_answer hs hl rfl, by simp [keeps_iff, hasReply, State.modPort, timetabled]⟩

/-! ### The slots (R131, R132) -/

/-- The conflicting slot is the lowest, other than the one written, whose entry conflicts (R131). -/
theorem conflict_lowest {t : TimetableRecord} {i j : Fin 48} {e : Entry} (h : t.conflict i e = some j) :
    j ≠ i ∧ (∃ e' ∈ t.slots[j], conflicts e e' = true) ∧
      ∀ k : Fin 48, k < j → k ≠ i → ∀ e' ∈ t.slots[k], conflicts e e' = false := by
  obtain ⟨hj, n, hn, hnj, hlow⟩ := List.find?_eq_some_iff_getElem.mp h
  simp only [allSlots, List.getElem_finRange] at hnj
  subst hnj
  simp only [Bool.and_eq_true, bne_iff_ne, Option.any_eq_true] at hj
  refine ⟨hj.1, hj.2, fun k hk hi e' he' => ?_⟩
  have hc := hlow k.val hk
  simp only [allSlots, List.getElem_finRange, Bool.not_eq_true', Bool.and_eq_false_iff, bne_eq_false_iff_eq,
    Option.any_eq_false] at hc
  exact hc.resolve_left hi e' he'

theorem freeSlot_none {t : TimetableRecord} (h : ∀ k : Fin 48, t.slots[k] ≠ none) : t.freeSlot = none :=
  List.find?_eq_none.mpr fun k _ => by simpa using h k

/-! ### The fields of an entry (R129, R130) -/

theorem daysOf_eq_none (form : Byte) (day : RawDate) : daysOf form day = none ↔
    1 < form.toNat ∨ (form = 0 ∧ day.year.toNat % 128 = 0) ∨ (form = 1 ∧ validDate (dateOf day) = false) := by
  have hy : day.year.extractLsb' 0 7 = 0#7 ↔ day.year.toNat % 128 = 0 := by
    rw [← BitVec.toNat_inj, BitVec.extractLsb'_toNat]
    rfl
  obtain rfl | rfl | h : form = 0 ∨ form = 1 ∨ 1 < form.toNat := by bv_omega
  · simp [daysOf, hy]
  · simp [daysOf]
  · have h₀ : form ≠ 0#8 := by bv_omega
    have h₁ : form ≠ 1#8 := by bv_omega
    simp [daysOf, h, h₀, h₁]

theorem daysOf_some {form : Byte} {day : RawDate} {x : EntryDays} (h : daysOf form day = some x) :
    form = 0 ∧ x = .weekly (day.year.extractLsb' 0 7) ∨ form = 1 ∧ x = .dated (dateOf day) := by
  unfold daysOf at h
  split_ifs at h with h₀ _ h₁ <;> cases h
  · exact .inl ⟨h₀, rfl⟩
  · exact .inr ⟨h₁, rfl⟩

theorem sourceOf_eq_none (b : Byte) : sourceOf b = none ↔ 5 < b.toNat ∧ b ≠ 0xFF := by
  unfold sourceOf
  split
  next h => simp [h, absent1]
  next h => simpa [indexOf_eq_none, Nat.succ_le_iff, absent1] using fun _ => h

theorem sourceOf_some {b : Byte} {x : Option (Fin 6)} (h : sourceOf b = some x) :
    b = 0xFF ∧ x = none ∨ x.map Fin.val = some b.toNat := by
  unfold sourceOf at h
  split at h
  next hb =>
    cases h
    exact .inl ⟨hb, rfl⟩
  next =>
    obtain ⟨i, hi, rfl⟩ := Option.map_eq_some_iff.mp h
    exact .inr (congrArg some ((indexOf_eq_some 6 b i).mp hi).symm)

theorem levelOf_some {b : Byte} {l : Level} (h : levelOf b = some l) : levelCode l = b := by
  unfold levelOf at h
  split_ifs at h with h₀ h₁ h₂ h₃ <;> cases h <;> exact Eq.symm ‹_›

/-- The minutes of an entry stand outside their bounds (R130). -/
def spanOff (w : RawEntry) : Prop := 1435 < w.start.toNat ∨ w.stop.toNat < w.start.toNat + 5 ∨ 1440 < w.stop.toNat

section

variable {w : RawEntry} {e : Entry}

/-- The fields of an entry pass their checks one by one. -/
theorem entryOf_some (h : entryOf w = some e) :
    boolOf w.enabled = some e.enabled ∧ daysOf w.form w.day = some e.days ∧ boolOf w.startAction = some e.powerOn ∧
    boolOf w.endAction = some e.powerOff ∧ sourceOf w.source = some e.source ∧ levelOf w.level = some e.level ∧
    ¬(spanOff w ∨ 4 < w.allowance.toNat) := by
  simp only [entryOf, Option.bind_eq_bind, Option.bind_eq_some_iff, Option.ite_none_left_eq_some] at h
  obtain ⟨_, henabled, _, hdays, _, hon, _, hoff, _, hsource, _, hlevel, hspan, hx⟩ := h
  cases hx
  refine ⟨henabled, hdays, hon, hoff, hsource, hlevel, ?_⟩
  rw [spanOff, or_assoc, or_assoc]
  exact hspan

/-- The numbers of an entry are those carried, the warn lead limited to 15. -/
theorem entryOf_numbers (h : entryOf w = some e) :
    e.start = w.start.toNat ∧ e.stop = w.stop.toNat ∧ e.warnLead = min w.warnLead.toNat 15 ∧
    e.allowance = w.allowance.toNat := by
  simp only [entryOf, Option.bind_eq_bind, Option.bind_eq_some_iff, Option.ite_none_left_eq_some] at h
  obtain ⟨_, -, _, -, _, -, _, -, _, -, _, -, -, hx⟩ := h
  cases hx
  exact ⟨rfl, rfl, rfl, rfl⟩

/-- An entry is rejected exactly where one of its fields is. -/
theorem entryOf_eq_none : entryOf w = none ↔
    boolOf w.enabled = none ∨ daysOf w.form w.day = none ∨ spanOff w ∨ boolOf w.startAction = none ∨
    boolOf w.endAction = none ∨ sourceOf w.source = none ∨ levelOf w.level = none ∨ 4 < w.allowance.toNat := by
  constructor
  · intro h
    by_contra hn
    simp only [not_or, Option.ne_none_iff_exists'] at hn
    obtain ⟨⟨_, henabled⟩, ⟨_, hdays⟩, hspan, ⟨_, hon⟩, ⟨_, hoff⟩, ⟨_, hsource⟩, ⟨_, hlevel⟩, hallow⟩ := hn
    have hin : ¬(spanOff w ∨ 4 < w.allowance.toNat) := not_or.mpr ⟨hspan, hallow⟩
    rw [spanOff, or_assoc, or_assoc] at hin
    simp only [entryOf, henabled, hdays, hon, hoff, hsource, hlevel, Option.bind_eq_bind, Option.bind_some] at h
    rw [if_neg (by exact hin)] at h
    cases h
  · intro h
    by_contra hn
    obtain ⟨e, he⟩ := Option.ne_none_iff_exists'.mp hn
    obtain ⟨henabled, hdays, hon, hoff, hsource, hlevel, hin⟩ := entryOf_some he
    obtain ⟨hspan, hallow⟩ := not_or.mp hin
    simp [henabled, hdays, hon, hoff, hsource, hlevel, hspan, hallow] at h

theorem boolOf_eq_none (b : Byte) : boolOf b = none ↔ 1 < b.toNat := by
  rw [← Nat.not_le, ← boolOf_isSome, Option.not_isSome_iff_eq_none]

theorem levelOf_eq_none (b : Byte) : levelOf b = none ↔ 3 < b.toNat := by
  rw [← Nat.not_le, ← levelOf_isSome, Option.not_isSome_iff_eq_none]

end

/-! ### ENTRY_WRITE (R132) -/

section

variable {w : RawEntryWrite} {e : Entry} {i : Fin 48} {s : State}

theorem entryWriteRequest_invalid
    (h : w.spare ≠ 0 ∨ (w.slot.any fun b => decide (47 < b.toNat)) = true ∨ entryOf w.entry = none) :
    entryWriteRequest w s = (s, .invalid) := by
  unfold entryWriteRequest
  split
  · rfl
  next hs =>
    obtain hslot | he := h.resolve_left hs
    · obtain ⟨b, hb, hn⟩ := (Option.any_eq_true ..).mp hslot
      have hnone : slotOf w.slot = none := by
        rw [Option.mem_def.mp hb, slotOf, (indexOf_eq_none 48 b).mpr (of_decide_eq_true hn)]
        rfl
      rw [hnone]
    · rw [he]
      cases slotOf w.slot with
      | none => rfl
      | some x => cases x <;> rfl

theorem entryWriteRequest_full (hs : w.spare = 0) (he : entryOf w.entry = some e) (hn : w.slot = none)
    (hf : s.timetable.freeSlot = none) : entryWriteRequest w s = (s, .full) := by
  simp [entryWriteRequest, slotOf, hs, he, hn, hf]

/-- The slot named, or else the lowest free one, is the slot of the placing (R132). -/
theorem entryWriteRequest_placed (hs : w.spare = 0) (he : entryOf w.entry = some e)
    (hi : w.slot.map BitVec.toNat = some i.val ∨ w.slot = none ∧ s.timetable.freeSlot = some i) :
    entryWriteRequest w s = placeEntry i e (decide (15 < w.entry.warnLead.toNat)) s := by
  obtain hi | ⟨hn, hf⟩ := hi
  · obtain ⟨b, hb, hbi⟩ := Option.map_eq_some_iff.mp hi
    simp only [entryWriteRequest, slotOf, if_neg (not_not.mpr hs), he, hb, (indexOf_eq_some 48 b i).mpr hbi]
    rfl
  · simp only [entryWriteRequest, slotOf, if_neg (not_not.mpr hs), he, hn, hf]
    rfl

theorem placeEntry_conflict {j : Fin 48} (b : Bool) (h : s.timetable.conflict i e = some j) :
    placeEntry i e b s = (s, .conflict j) := by
  simp only [placeEntry, h]

theorem placeEntry_free (b : Bool) (h : s.timetable.conflict i e = none) :
    placeEntry i e b s =
      (timetabled { s.timetable with slots := s.timetable.slots.set i (some e) } s, .clampedIf b [finByte i]) := by
  simp only [placeEntry, h]
  rfl

theorem clampedIf_status (c : Prop) [Decidable c] (l : List Byte) :
    (Answer.clampedIf (decide c) l).status = if c then .clamped else .done := by
  simp only [Answer.clampedIf, decide_eq_true_eq]

end

/-! ### ENTRY_DELETE (R133) -/

section

variable {b : Byte} {i : Fin 48} {s : State}

theorem entryDeleteRequest_invalid (h : 47 < b.toNat) : entryDeleteRequest b s = (s, .invalid) := by
  rw [entryDeleteRequest, (indexOf_eq_none 48 b).mpr h]

theorem entryDeleteRequest_occupied (hb : b.toNat = i.val) (h : s.timetable.slots[i] ≠ none) :
    entryDeleteRequest b s =
      (timetabled { s.timetable with slots := s.timetable.slots.set i none } s, .done) := by
  simp only [entryDeleteRequest, (indexOf_eq_some 48 b i).mpr hb, if_pos (Option.isSome_iff_ne_none.mpr h)]
  rfl

theorem entryDeleteRequest_free (hb : b.toNat = i.val) (h : s.timetable.slots[i] = none) :
    entryDeleteRequest b s = (s, .done) := by
  simp only [entryDeleteRequest, (indexOf_eq_some 48 b i).mpr hb, h]
  rfl

theorem entryDeleteRequest_keeps (b : Byte) (s : State) : Keeps [.timetable, .store] s (entryDeleteRequest b s).1 := by
  unfold entryDeleteRequest
  split
  · exact .refl _ s
  · split
    · exact (modTimetable_keeps _ s).seq (markDirty_keeps _ _)
    · exact .refl _ s

end

/-! ### HOLIDAY_ADD and HOLIDAY_REMOVE (R135, R136) -/

/-- A date inserted joins the others, whose order stands. -/
theorem insertDate_perm (d : Date) (l : List Date) : (insertDate d l).Perm (d :: l) := by
  induction l with
  | nil => exact .refl _
  | cons x l ih =>
    unfold insertDate
    split
    · exact .refl _
    · exact (ih.cons x).trans (.swap d x l)

theorem ascending_insertDate {d : Date} {l : List Date} (hd : validDate d = true) (hn : d ∉ l)
    (hv : l.all validDate = true) (h : ascending l = true) : ascending (insertDate d l) = true :=
  (ascending_iff _).mpr (pairwise_insertDate hd hn (List.all_eq_true.mp hv) ((ascending_iff l).mp h))

section

variable {d : RawDate} {s : State}

theorem holidayAddRequest_invalid (h : validDate (dateOf d) = false) : holidayAddRequest d s = (s, .invalid) := by
  simp [holidayAddRequest, h]

theorem holidayAddRequest_listed (h : validDate (dateOf d) = true) (hm : dateOf d ∈ s.timetable.holidays) :
    holidayAddRequest d s = (s, .done) := by
  simp [holidayAddRequest, h, hm]

theorem holidayAddRequest_full (h : validDate (dateOf d) = true) (hm : dateOf d ∉ s.timetable.holidays)
    (hl : 16 ≤ s.timetable.holidays.length) : holidayAddRequest d s = (s, .full) := by
  simp [holidayAddRequest, h, hm, hl, Config.holidaysMax]

theorem holidayAddRequest_adds (h : validDate (dateOf d) = true) (hm : dateOf d ∉ s.timetable.holidays)
    (hl : s.timetable.holidays.length < 16) : holidayAddRequest d s =
      (timetabled { s.timetable with holidays := insertDate (dateOf d) s.timetable.holidays } s, .done) := by
  unfold holidayAddRequest
  dsimp only
  rw [if_neg (by simp [h]), if_neg (by simpa using hm), if_neg (by exact Nat.not_le.mpr hl)]
  rfl

theorem holidayRemoveRequest_invalid (h : validDate (dateOf d) = false) : holidayRemoveRequest d s = (s, .invalid) := by
  simp [holidayRemoveRequest, h]

theorem holidayRemoveRequest_unlisted (h : validDate (dateOf d) = true) (hm : dateOf d ∉ s.timetable.holidays) :
    holidayRemoveRequest d s = (s, .done) := by
  simp [holidayRemoveRequest, h, hm]

theorem holidayRemoveRequest_removes (h : validDate (dateOf d) = true) (hm : dateOf d ∈ s.timetable.holidays) :
    holidayRemoveRequest d s =
      (timetabled { s.timetable with holidays := s.timetable.holidays.erase (dateOf d) } s, .done) := by
  unfold holidayRemoveRequest
  dsimp only
  rw [if_neg (by simp [h]), if_pos (by simpa using hm)]
  rfl

end

end Sys2Proof.Machine

open Sys2Proof Sys2Proof.Machine

/-- Settles O30: the checks of R130 field by field, then the placing, which a conflict alone prevents. -/
theorem entryWritten : Obligations.EntryWritten := by
  unfold Obligations.EntryWritten
  intro p o a w e i j s ht
  refine settles_request ht rfl ⟨fun h => ?_, fun hs he hn hf => ?_, fun hs he hi hc => ?_, fun hs he hi hc => ?_, ?_,
    fun he => ?_, fun he => ?_, conflict_lowest⟩
  · rw [show ownerAct p a (.entryWrite w) s = _ from entryWriteRequest_invalid h]
    exact onlyReplied_hasReply _ _ _ _
  · rw [show ownerAct p a (.entryWrite w) s = _ from entryWriteRequest_full hs he hn (freeSlot_none hf)]
    exact onlyReplied_hasReply _ _ _ _
  · rw [show ownerAct p a (.entryWrite w) s = _ from
      (entryWriteRequest_placed hs he hi).trans (placeEntry_conflict _ hc)]
    exact onlyReplied_hasReply _ _ _ _
  · rw [show ownerAct p a (.entryWrite w) s = _ from
      (entryWriteRequest_placed hs he hi).trans (placeEntry_free _ hc)]
    exact ⟨rfl, timetabled_replied _ s (clampedIf_status _ _) rfl⟩
  · rw [entryOf_eq_none, boolOf_eq_none, daysOf_eq_none, spanOff, boolOf_eq_none, boolOf_eq_none, sourceOf_eq_none,
      levelOf_eq_none]
    simp only [or_assoc]
  · obtain ⟨henabled, hdays, hon, hoff, -, hlevel, -⟩ := entryOf_some he
    exact ⟨boolOf_some henabled, boolOf_some hon, boolOf_some hoff, levelOf_some hlevel, daysOf_some hdays⟩
  · obtain ⟨-, -, -, -, hsource, -, -⟩ := entryOf_some he
    obtain ⟨hstart, hstop, hwarn, hallow⟩ := entryOf_numbers he
    exact ⟨hstart, hstop, hwarn, hallow, sourceOf_some hsource, entryOk_of_entryOf he⟩

/-- Settles O31: only an occupied slot is freed, and SES is not told. -/
theorem entryDeleted : Obligations.EntryDeleted := by
  unfold Obligations.EntryDeleted
  intro p o a b i s ht
  refine settles_request ht rfl ⟨fun hb => ?_, fun hb hs => ?_, fun hb hs => ?_, ?_⟩
  · rw [show ownerAct p a (.entryDelete b) s = _ from entryDeleteRequest_invalid hb]
    exact onlyReplied_hasReply _ _ _ _
  · rw [show ownerAct p a (.entryDelete b) s = _ from entryDeleteRequest_occupied hb hs]
    exact ⟨rfl, timetabled_replied _ s rfl rfl⟩
  · rw [show ownerAct p a (.entryDelete b) s = _ from entryDeleteRequest_free hb hs]
    exact onlyReplied_hasReply _ _ _ _
  · exact entryDeleteRequest_keeps b s .ses (by decide)

/-- Settles O32: each request is declined by its own checks, in their order, before the list changes. -/
theorem holidaysKept : Obligations.HolidaysKept := by
  unfold Obligations.HolidaysKept
  intro p o a d s
  refine ⟨fun ht hd => ?_, fun ht hd hm => ?_, fun ht hd hm hl => ?_, fun ht hd hm hl => ?_, fun ht hd => ?_,
    fun ht hd hm => ?_, fun ht hd hm => ?_⟩
  · exact settles_declined ht rfl (holidayAddRequest_invalid hd)
  · exact settles_declined ht rfl (holidayAddRequest_listed hd hm)
  · exact settles_declined ht rfl (holidayAddRequest_full hd hm hl)
  · refine settles_request ht rfl ?_
    rw [show ownerAct p a (.holidayAdd d) s = _ from holidayAddRequest_adds hd hm hl]
    exact ⟨insertDate_perm _ _, rfl, ascending_insertDate hd hm, timetabled_replied _ s rfl rfl⟩
  · exact settles_declined ht rfl (holidayRemoveRequest_invalid hd)
  · exact settles_declined ht rfl (holidayRemoveRequest_unlisted hd hm)
  · refine settles_request ht rfl ?_
    rw [show ownerAct p a (.holidayRemove d) s = _ from holidayRemoveRequest_removes hd hm]
    exact ⟨rfl, timetabled_replied _ s rfl rfl⟩

end

section
/-! PROOFS. What the opening of a scheduled session leaves: its SELECT, its power-on and what SESSION_OPEN reports. -/

namespace Sys2Proof.Machine

set_option Elab.async false

/-! ### The SELECT of a session's source (R146, R149) -/

section

variable (o : Origin) {i : Fin 6} {s : State}

theorem sswSelect_disabled (he : s.inputs.entries[i].enabled = false) : sswSelect o i s = (s, .disabled) := by
  rw [sswSelect, he]
  rfl

theorem sswSelect_locked (he : s.inputs.entries[i].enabled = true) (hl : s.ssw.selected = some i ∧ s.locked = true) :
    sswSelect o i s = (s, .done) := by
  rw [sswSelect, he, if_neg (by decide), if_pos hl]

theorem sswSelect_accepted (he : s.inputs.entries[i].enabled = true) (hl : ¬(s.ssw.selected = some i ∧ s.locked = true)) :
    sswSelect o i s = (applyPreset .select (beginTraining .select o i (endScan s)), .accepted) := by
  rw [sswSelect, he, if_neg (by decide), if_neg hl]

end

section

variable {e : Entry} {q : Session} {s : State}

/-- A supersession tells nothing to a session whose SELECT is not pending (R149). -/
theorem supersededSes_settled (hq : s.ses = some q) (hp : q.sourceState ≠ some .pending) : supersededSes s = s.ses := by
  unfold supersededSes handedSes
  split
  · rw [hq, Option.map_some, if_neg hp]
  · rfl

/-- The SELECT issued sets the source state by its outcome (R149). -/
theorem issueSelect_some {i : Fin 6} {t : State} {x : SelectOutcome} (h : sswSelect .timetable i s = (t, x)) :
    issueSelect (some i) s =
      { t with ses := t.ses.map fun q => { q with sourceState := some (takenSource x) } } := by
  simp only [issueSelect, h]
  rfl

/-- The SELECT of a session just opened: the source state it sets, and the training it begins where that is PENDING. -/
theorem issueSelect_leaves (hq : s.ses = some q) (hs : q.sourceState = none) :
    (issueSelect e.source s).ses = some { q with sourceState := startSource e false s } ∧
    (startSource e false s = some .pending → (issueSelect e.source s).ssw.trained = true ∧
      ∀ i ∈ e.source, (issueSelect e.source s).ssw.selected = some i ∧
        (issueSelect e.source s).ssw.record = some ⟨i, .timetable, .select, s.ssw.record.isSome⟩ ∧
        (issueSelect e.source s).inm.path[i] = .training) ∧
    (startSource e false s ≠ some .pending → (issueSelect e.source s).ssw = s.ssw) := by
  rw [startSource, if_neg (by decide)]
  cases e.source with
  | none => exact ⟨hq.trans (by rw [Option.map_none, ← hs]), nofun, fun _ => rfl⟩
  | some i =>
    rw [Option.map_some]
    cases he : s.inputs.entries[i].enabled with
    | false =>
      rw [if_pos rfl, issueSelect_some (sswSelect_disabled _ he), hq]
      exact ⟨rfl, nofun, fun _ => rfl⟩
    | true =>
      rw [if_neg (by decide)]
      by_cases hl : s.ssw.selected = some i ∧ s.locked = true
      · rw [if_pos hl, issueSelect_some (sswSelect_locked _ he hl), hq]
        exact ⟨rfl, nofun, fun _ => rfl⟩
      · have hn : supersededSes (endScan s) = some q :=
          (supersededSes_settled (s := endScan s) hq (by rw [hs]; nofun)).trans hq
        rw [if_neg hl, issueSelect_some (sswSelect_accepted _ he hl), presetTraining_leaves, hn]
        refine ⟨rfl, fun _ => ⟨rfl, fun j hj => ?_⟩, fun h => absurd rfl h⟩
        cases hj
        exact ⟨rfl, rfl, by simp⟩

end

/-! ### The power-on of a session (R146 to R148) -/

/-- What a POWER_ON of origin TIMETABLE leaves of the open session `q`, of LSQ and of the selection, with what SESSION_OPEN
reports of its outcome. -/
structure TimetableOn (q : Session) (s t : State) (out : PowerOutcome) : Prop where
  lsq : t.lsq = lsqAfterOn .timetable s
  report : openReport out = powerReport s
  session : t.ses = some { q with deferred := (powerReport s).1 == .deferred }
  selected : t.ssw.selected = s.ssw.selected
  trained : t.ssw.trained = s.ssw.trained
  record : t.ssw.record = s.ssw.record

section

variable {q : Session} {s : State}

/-- The end of a hold leaves an unmarked session as it is. -/
theorem holdEnded_unmarked (hq : s.ses = some q) (hd : q.deferred = false) :
    holdEnded s = some { q with deferred := false } := by
  unfold holdEnded
  split
  · rw [hq]; rfl
  · rw [hq, ← hd]

theorem holdMade_scheduled (hq : s.ses = some q) (hk : q.kind = .scheduled) :
    holdMade s = some { q with deferred := true } := by
  rw [holdMade, hq, Option.map_some, hk]
  rfl

theorem TimetableOn.of_report {t : State} {out : PowerOutcome} (hr : powerReport s = openReport out)
    (hl : t.lsq = lsqAfterOn .timetable s)
    (hs : t.ses = some { q with deferred := (openReport out).1 == .deferred })
    (hw : t.ssw.selected = s.ssw.selected ∧ t.ssw.trained = s.ssw.trained ∧ t.ssw.record = s.ssw.record) :
    TimetableOn q s t out := by
  obtain ⟨hsel, htrained, hrecord⟩ := hw
  exact ⟨hl, hr.symm, hr ▸ hs, hsel, htrained, hrecord⟩

/-- LSQ's answer to the session's POWER_ON, by the lamp state and the checks of R6. -/
theorem lsqPowerOn_timetable (hq : s.ses = some q) (hk : q.kind = .scheduled) (hd : q.deferred = false) :
    TimetableOn q s (lsqPowerOn .timetable s).1 (lsqPowerOn .timetable s).2 := by
  have hsame : s.ses = some { q with deferred := false } := by rw [hq, ← hd]
  have hended := holdEnded_unmarked hq hd
  have hmade := holdMade_scheduled hq hk
  cases hst : s.lsq.state
  case off =>
    rw [lsqPowerOn_off _ hst]
    by_cases hc : condition s.lamp = .expired
    · rw [powerOnInOff_expired _ hc]
      exact .of_report (by simp [powerReport, hst, hc, openReport]) (by simp [lsqAfterOn, hst, hc]) hsame ⟨rfl, rfl, rfl⟩
    cases hb : s.lines.bfault with
    | true =>
      rw [powerOnInOff_ballast _ hc hb, ballastAtPowerOn_eq]
      exact .of_report (by simp [powerReport, hst, hc, hb, openReport]) (by simp [lsqAfterOn, hst, hc, hb]) hended
        ⟨rfl, rfl, rfl⟩
    | false =>
      cases hl : s.lines.lit with
      | true =>
        rw [powerOnInOff_lit _ hc hb hl, goWarmup_endHold_eq]
        exact .of_report (by simp [powerReport, hst, hc, hb, hl, openReport]) (by simp [lsqAfterOn, hst, hc, hb, hl]) hended
          ⟨rfl, rfl, rfl⟩
      | false =>
        cases hw : s.windowFull with
        | true =>
          rw [powerOnInOff_full _ hc hb hl hw, hold_eq]
          exact .of_report (by simp [powerReport, hst, hc, hb, hl, hw, openReport])
            (by simp [lsqAfterOn, hst, hc, hb, hl, hw]) hmade ⟨rfl, rfl, rfl⟩
        | false =>
          rw [powerOnInOff_clear _ hc hb hl hw, firstAttempt_endHold_eq]
          exact .of_report (by simp [powerReport, hst, hc, hb, hl, hw, openReport])
            (by simp [lsqAfterOn, hst, hc, hb, hl, hw]) hended ⟨rfl, rfl, rfl⟩
  case striking | warmup | on =>
    rw [lsqPowerOn_lit _ (by simp [hst])]
    exact .of_report (by simp [powerReport, hst, openReport]) (by simp [lsqAfterOn, hst]) hsame ⟨rfl, rfl, rfl⟩
  case offPending =>
    rw [lsqPowerOn_offPending _ hst, lampChange_lit .on _ _ rfl]
    exact .of_report (by simp [powerReport, hst, openReport]) (by simp [lsqAfterOn, hst]) (by rw [if_pos rfl, hq]; rfl)
      ⟨rfl, rfl, rfl⟩
  case cooling =>
    rw [lsqPowerOn_cooling _ hst, hold_eq]
    exact .of_report (by simp [powerReport, hst, openReport]) (by simp [lsqAfterOn, hst, State.coolingReason]) hmade
      ⟨rfl, rfl, rfl⟩
  case faultCooling | fault =>
    rw [show lsqPowerOn .timetable s = (s, .refused .lampFault) by simp [lsqPowerOn, hst]]
    exact .of_report (by simp [powerReport, hst, openReport]) (by simp [lsqAfterOn, hst]) hsame ⟨rfl, rfl, rfl⟩

/-- The training of an UNTRAINED selection leaves the selection, and a session whose SELECT is not pending (R85). -/
theorem firstPowerOn_untold (hq : s.ses = some q) (hp : q.sourceState = some .pending → s.ssw.trained = true) :
    (firstPowerOn s).ses = s.ses ∧ (firstPowerOn s).ssw.selected = s.ssw.selected := by
  cases ht : s.ssw.trained with
  | true => rw [firstPowerOn_trained s ht]; exact ⟨rfl, rfl⟩
  | false =>
    have hn : q.sourceState ≠ some .pending := fun h => Bool.false_ne_true (ht.symm.trans (hp h))
    cases hi : s.ssw.selected with
    | none => simp [firstPowerOn, hi]
    | some i =>
      have hf : firstPowerOn s = retrainSelected .part i s := by simp [firstPowerOn, hi, ht]
      rw [hf, retrainSelected_leaves _ hi]
      exact ⟨supersededSes_settled hq hn, rfl⟩

/-- A POWER_ON of origin TIMETABLE for the session just opened. -/
theorem takePowerOn_timetable (hq : s.ses = some q) (hk : q.kind = .scheduled) (hd : q.deferred = false)
    (hp : q.sourceState = some .pending → s.ssw.trained = true) :
    (takePowerOn .timetable s).1.lsq = lsqAfterOn .timetable s ∧
    openReport (takePowerOn .timetable s).2 = powerReport s ∧
    (takePowerOn .timetable s).1.ses = some { q with deferred := (powerReport s).1 == .deferred } ∧
    (takePowerOn .timetable s).1.ssw.selected = s.ssw.selected ∧
    (s.ssw.trained = true → (takePowerOn .timetable s).1.ssw.record = s.ssw.record ∧
      (takePowerOn .timetable s).1.inm = s.inm) := by
  have h := lsqPowerOn_timetable hq hk hd
  have hinm : (lsqPowerOn .timetable s).1.inm = s.inm := lsqPowerOn_keeps _ s .inm (by decide)
  generalize hx : lsqPowerOn .timetable s = x at h hinm
  obtain ⟨t, out⟩ := x
  have hfirst := firstPowerOn_untold (s := t) h.session (by rw [h.trained]; exact hp)
  by_cases hout : ∃ r, out = .refused r
  · obtain ⟨r, rfl⟩ := hout
    rw [takePowerOn_refused hx]
    exact ⟨h.lsq, h.report, h.session, h.selected, fun _ => ⟨h.record, hinm⟩⟩
  · rw [takePowerOn_taken hx (not_exists.mp hout)]
    refine ⟨(firstPowerOn_keeps t .lsq (by decide)).trans h.lsq, h.report, hfirst.1.trans h.session,
      hfirst.2.trans h.selected, fun ht => ?_⟩
    rw [firstPowerOn_trained t (h.trained.trans ht)]
    exact ⟨h.record, hinm⟩

/-- The picture plays no part in what LSQ makes of a POWER_ON. -/
theorem powerOn_congr {s t : State} (h : Keeps pictureParts s t) (o : Origin) :
    lsqAfterOn o t = lsqAfterOn o s ∧ powerReport t = powerReport s := by
  have hlsq : t.lsq = s.lsq := h .lsq (by decide)
  have hlamp : t.lamp = s.lamp := h .lamp (by decide)
  have hlines : t.lines = s.lines := h .lines (by decide)
  have hset : t.settings = s.settings := h .settings (by decide)
  have hup : t.uptime = s.uptime := h .uptime (by decide)
  have hw : t.windowFull = s.windowFull := by simp only [State.windowFull, hlsq, hset, hup]
  simp only [lsqAfterOn, powerReport, hlsq, hlamp, hlines, hset, hup, hw, and_self]

end

/-! ### The opening (R145 to R149) -/

section

variable {e : Entry} {q : Session} {s : State}

/-- The start actions of the session `q` just opened: its source state and deferred mark, LSQ, the training of its source, and
the outcome reported. -/
theorem startActions_leaves (b : Bool) (hq : s.ses = some q) (hk : q.kind = .scheduled) (hs : q.sourceState = none)
    (hd : q.deferred = false) :
    (startActions e b s).1.ses = some { q with
      sourceState := startSource e b s
      deferred := !b && e.powerOn && (powerReport s).1 == .deferred } ∧
    (startActions e b s).1.lsq = (if !b && e.powerOn then lsqAfterOn .timetable s else s.lsq) ∧
    (∀ i ∈ e.source, startSource e b s = some .pending →
      (startActions e b s).1.ssw.selected = some i ∧
      (startActions e b s).1.ssw.record = some ⟨i, .timetable, .select, s.ssw.record.isSome⟩ ∧
      (startActions e b s).1.inm.path[i] = .training) ∧
    (startSource e b s ≠ some .pending → (startActions e b s).1.ssw.selected = s.ssw.selected) ∧
    (startActions e b s).2 = startReport e b s := by
  cases b with
  | true =>
    rw [show startActions e true s = (s, .suppressed, none) from rfl]
    have hsame : q = { q with sourceState := none, deferred := false } := by rw [← hs, ← hd]
    exact ⟨hq.trans (congrArg some hsame), rfl, fun _ _ => nofun, fun _ => rfl, rfl⟩
  | false =>
    obtain ⟨hses, htrains, hidle⟩ := issueSelect_leaves (e := e) hq hs
    have hkeeps := issueSelect_keeps e.source s
    obtain ⟨hafter, hreport⟩ := powerOn_congr hkeeps .timetable
    cases hp : e.powerOn with
    | false =>
      rw [show startActions e false s = (issueSelect e.source s, .noAction, none) by simp [startActions, hp]]
      exact ⟨hses.trans (by rw [Bool.and_false, Bool.false_and, ← hd]), hkeeps .lsq (by decide),
        fun i hi h => (htrains h).2 i hi, fun h => congrArg Ssw.selected (hidle h), by simp [startReport, hp]⟩
    | true =>
      rw [show startActions e false s = ((takePowerOn .timetable (issueSelect e.source s)).1,
        openReport (takePowerOn .timetable (issueSelect e.source s)).2) by simp [startActions, hp]]
      obtain ⟨hlsq, hout, hmark, hsel, hrec⟩ := takePowerOn_timetable hses hk hd fun h => (htrains h).1
      refine ⟨by rw [hmark, hreport]; rfl, hlsq.trans hafter, fun i hi h => ?_,
        fun h => hsel.trans (congrArg Ssw.selected (hidle h)), by rw [hout, hreport]; simp [startReport, hp]⟩
      obtain ⟨htrained, hbegun⟩ := htrains h
      obtain ⟨hr, hn⟩ := hrec htrained
      rw [hsel, hr, hn]
      exact hbegun i hi

end

/-- The record of a session that opens, with its level at LKC, before its start actions (R114, R145). -/
def opening (f : Found) (d : Date) (b : Bool) (s : State) : State :=
  sessionLevel (some f.entry.level) false (s.modSes fun _ => some (scheduledSession f d b s.cal))

theorem opening_eq (f : Found) (d : Date) (b : Bool) (s : State) : ∃ c, opening f d b s =
    { s with
      ses := some (scheduledSession f d b s.cal)
      lkc := { s.lkc with sessionLevel := some f.entry.level }
      ptc := c } :=
  ⟨_, sessionLevel_eq _ _ _⟩

theorem openScheduled_eq (w : SessionWay) (f : Found) (d : Date) (b : Bool) (s : State) :
    openScheduled w f d b true s =
      raise (.sessionOpen .scheduled (some f.slot) w f.entry.stop f.entry.level
        (startActions f.entry b (opening f d b s)).2.1 (startActions f.entry b (opening f d b s)).2.2)
        (startActions f.entry b (opening f d b s)).1 := rfl

/-- A scheduled session opens as R145 to R149 say, in every state. -/
theorem openScheduled_opened (w : SessionWay) (f : Found) (d : Date) (b : Bool) (s : State) :
    Opened w f d b none s (openScheduled w f d b true s) := by
  obtain ⟨c, hc⟩ := opening_eq f d b s
  obtain ⟨hses, hlsq, hpend, hsel, hrep⟩ := startActions_leaves (e := f.entry) (s := opening f d b s) b
    (by rw [hc]) rfl rfl rfl
  have hlevel := (startActions_kept f.entry b (opening f d b s)).level
  rw [openScheduled_eq, hrep]
  rw [hc] at hses hlsq hpend hsel hlevel ⊢
  exact ⟨hses, hlevel, hlsq, hpend, hsel, lastTold_raise _ _⟩

end Sys2Proof.Machine

end

section
/-! PROOFS. TIME_SET (O29). -/

namespace Sys2Proof.Machine

set_option Elab.async false

/-! ### The warning test (R152) -/

/-- The warning test of a session on its own date. -/
theorem warnTest_eq {r : Session} {d : Date} {s : State} (m : Nat) (h : s.ses = some r) (hd : r.date = d) :
    warnTest d m s =
      { s with
        ses := some { r with warned := r.warned || !(warnNotices r m).isEmpty }
        ptc := s.heard (warnNotices r m) } := by
  subst hd
  simp only [warnTest, h, true_and, warnNotices]
  split
  · rw [List.isEmpty_cons, Bool.not_false, Bool.or_true]
    rfl
  · rw [List.isEmpty_nil, Bool.not_true, Bool.or_false, show some { r with warned := r.warned } = s.ses from h.symm]
    rfl

/-! ### The session moved (R160) -/

/-- The planned end of a session moved from minute `m` to minute `m'`. -/
def movedEnd (r : Session) (m m' : Nat) : Nat := min (m' + (r.plannedEnd - m)) 1440

/-- A session moved with its end ahead stands warned exactly from its new warning point on, whether the mark it had stands or
the test sets it (R160). -/
theorem movedSession_warned {r : Session} {m m' : Nat} (d : Date) (hm : m < r.plannedEnd) (hm' : m' < 1440) :
    ((movedSession r m d m').warned || !(warnNotices (movedSession r m d m') m').isEmpty) =
      decide (movedEnd r m m' ≤ m' + r.warnLead) := by
  have hahead : m' < movedEnd r m m' := by unfold movedEnd; omega
  have hw : (movedSession r m d m').warned = if m' + r.warnLead < movedEnd r m m' then false else r.warned := rfl
  by_cases hp : movedEnd r m m' ≤ m' + r.warnLead
  · rw [if_neg (Nat.not_lt.mpr hp)] at hw
    rw [hw, decide_eq_true hp]
    cases hr : r.warned with
    | true => rfl
    | false =>
      have hl : r.warnLead ≠ 0 := by omega
      rw [warnNotices, if_pos ⟨hahead, hl, hw.trans hr, hp⟩]
      rfl
  · rw [if_pos (Nat.not_le.mp hp)] at hw
    rw [hw, decide_eq_false hp, warnNotices, if_neg (by exact fun ⟨_, _, _, h⟩ => hp h)]
    rfl

theorem minuteOf_lt {t : TimeOfDay} (h : validTime t = true) : minuteOf t < 1440 := by
  simp only [validTime, Bool.and_eq_true, decide_eq_true_eq] at h
  obtain ⟨⟨hh, hm⟩, -⟩ := h
  unfold minuteOf
  omega

/-! ### TIME_SET (R127, R151, R160) -/

/-- The state with its clock set (R127). -/
def clockSet (d : RawDate) (t : RawTime) (s : State) : State :=
  { s with cal := { s.cal with date := dateOf d, time := timeOf t, valid := true } }

section

variable {d : RawDate} {t : RawTime} {r : Session} {f : Found} {s : State}

theorem timeSetRequest_invalid (h : validDate (dateOf d) = false ∨ validTime (timeOf t) = false) :
    timeSetRequest d t s = (s, .invalid) := by
  rw [timeSetRequest, Bool.and_eq_false_iff.mpr h]
  rfl

theorem timeSetRequest_valid (hd : validDate (dateOf d) = true) (ht : validTime (timeOf t) = true) :
    timeSetRequest d t s = (timeSetReport (minuteOf s.cal.time) (clockSet d t s), .done) := by
  rw [timeSetRequest, hd, ht]
  rfl

theorem warnTest_keeps (d : Date) (m : Nat) (s : State) : Keeps [.ses, .ports] s (warnTest d m s) := by
  unfold warnTest
  split
  · exact .refl _ s
  · exact ((modSes_keeps _ s).seq (raise_keeps _ _)).ite (.refl _ s)

theorem timeSetReport_keeps (m : Nat) (s : State) : Keeps powerParts s (timeSetReport m s) := by
  unfold timeSetReport
  split
  · exact lateCheck_keeps _ _ s
  · exact (modSes_keeps _ s).seq (warnTest_keeps _ _ _)

/-- With a session open, it is moved and tested for its warning (R160). -/
theorem timeSetReport_open {q : Session} (m : Nat) (h : s.ses = some r)
    (hq : movedSession r m (dateOf d) (minuteOf (timeOf t)) = q) : timeSetReport m (clockSet d t s) =
      { clockSet d t s with
        ses := some { q with warned := q.warned || !(warnNotices q (minuteOf (timeOf t))).isEmpty }
        ptc := (clockSet d t s).heard (warnNotices q (minuteOf (timeOf t))) } := by
  subst hq
  unfold timeSetReport
  rw [show (clockSet d t s).ses = some r from h]
  exact warnTest_eq _ rfl rfl

/-- With none open and no answer of TTE nothing opens (R151). -/
theorem timeSetReport_none (m : Nat) (h : s.ses = none)
    (hl : (clockSet d t s).lateStart (dateOf d) (minuteOf (timeOf t)) = none) :
    timeSetReport m (clockSet d t s) = clockSet d t s := by
  unfold timeSetReport
  rw [show (clockSet d t s).ses = none from h]
  exact lateCheck_none ((lateAnswer_none _ _ _).trans hl)

/-- With none open, the entry of TTE's answer opens late (R151). -/
theorem timeSetReport_found (m : Nat) (h : s.ses = none)
    (hl : (clockSet d t s).lateStart (dateOf d) (minuteOf (timeOf t)) = some f) :
    timeSetReport m (clockSet d t s) = openScheduled .late f (dateOf d) s.lkc.service true (clockSet d t s) := by
  unfold timeSetReport
  rw [show (clockSet d t s).ses = none from h]
  exact lateCheck_found hl

end

/-- An opening stands with the reply given after it. -/
theorem Opened.hasReply {w : SessionWay} {f : Found} {d : Date} {b : Bool} {m : Option Nat} {s u : State}
    (h : Opened w f d b m s u) (p : PortId) (c : Byte) (a : Answer) : Opened w f d b m s (hasReply p c a u) := by
  obtain ⟨hses, hlevel, hlsq, hpend, hsel, htold⟩ := h
  exact ⟨hses, hlevel, hlsq, hpend, hsel, htold.hasReply p c a⟩

end Sys2Proof.Machine

open Sys2Proof Sys2Proof.Machine

/-- Settles O29: the clock is set, and then the open session is moved or the late start is made. -/
theorem timeSetSets : Obligations.TimeSetSets := by
  unfold Obligations.TimeSetSets
  intro p o a d t r f s ht
  refine settles_request ht rfl ⟨fun h => ?_, fun hd hv => ?_, fun hd hv hr hm => ?_, fun hd hv hr => ?_,
    fun hd hv hn hl => ?_, fun hd hv hn hl => ?_⟩
  · rw [show ownerAct p a (.timeSet d t) s = _ from timeSetRequest_invalid h]
    exact onlyReplied_hasReply _ _ _ _
  all_goals rw [show ownerAct p a (.timeSet d t) s = _ from timeSetRequest_valid hd hv]
  · exact ⟨timeSetReport_keeps _ _ .cal (by decide), hasReply_answers _ _ _ _⟩
  · rw [timeSetReport_open _ hr rfl, movedSession_warned _ hm (minuteOf_lt hv)]
    exact ⟨rfl, by simp [keeps_iff, hasReply, State.modPort, clockSet]⟩
  · obtain ⟨q, hq⟩ := Option.ne_none_iff_exists'.mp hr
    rw [timeSetReport_open _ hq rfl]
    rfl
  · rw [timeSetReport_none _ hn hl]
    exact ⟨hn, by simp [keeps_iff, hasReply, State.modPort, clockSet]⟩
  · rw [timeSetReport_found _ hn hl]
    have ho := (openScheduled_opened .late f (dateOf d) s.lkc.service (clockSet d t s)).hasReply p 0x50 .done
    exact ⟨ho, (congrArg (Option.map _) ho.1).trans rfl⟩

end
